-- ==== Sys2Proof/Word.lean ====
section
/-! DEFINITION. The word types of SIS1 and their plainest arithmetic (spec/00 R1, spec/11 R147). -/

namespace Sys2Proof

/-- A 64-bit scalar: an x register, an address, a control register. -/
abbrev W64 := BitVec 64

/-- One 32-bit lane. -/
abbrev W32 := BitVec 32

/-- One byte. -/
abbrev Byte := BitVec 8

/-- A 256-byte vector: 64 lanes of 32 bits (spec/11 R147, spec/15). -/
abbrev Lanes := Vector W32 64

/-- The zero vector. -/
def Lanes.zero : Lanes := Vector.replicate 64 0

/-- An immediate field of `w` bits together with the byte that an EXT header of its bundle gives it
(spec/11 R139): with no EXT header it is `w` bits wide, with one it is `w + 8` bits wide. -/
structure Imm (w : Nat) where
  lo  : BitVec w
  ext : Option Byte
  deriving DecidableEq, Repr

/-- The immediate sign-extended to 64 bits. -/
def Imm.sext {w : Nat} (i : Imm w) : W64 :=
  match i.ext with
  | none => i.lo.signExtend 64
  | some e => (e ++ i.lo).signExtend 64

/-- The immediate zero-extended to 64 bits. -/
def Imm.zext {w : Nat} (i : Imm w) : W64 :=
  match i.ext with
  | none => i.lo.setWidth 64
  | some e => (e ++ i.lo).setWidth 64

/-- Bits `hi` down to `lo` of a word, as a number. -/
def field {w : Nat} (x : BitVec w) (hi lo : Nat) : Nat :=
  (x.extractLsb' lo (hi + 1 - lo)).toNat

end Sys2Proof
end

