-- ==== Sys2Proof/Syntax.lean ====
section
/-! DEFINITION. The instructions: one constructor for each row of spec/opcode_table.json. The first 232 are the slots of
spec/11, each with the fields of its word under the letters of the table; an immediate that an EXT header can widen
is an `Imm`. The other 94 are the table's events (spec/95): each names what it happens to, and carries what the
outside world brings with it. -/

namespace Sys2Proof

/-- The headers of a message of the Verend host transport: its session, its sequence number and the context it names; VER and KIND
of its datagram, and whether it authenticates; OP, where that is none that R388 lists; the field that chooses what an operation
does (ARG1 of MIGRATE, ARG0 of ATTEST, the object of MWRITE), where it chooses nothing that R388 and R389 list; the bits set in
reserved fields and in operand fields that the operation does not use; and LEN, where that is not the length of the data
(spec/31 R380, R381, R388). A message as a host forms it has the values given here. -/
structure Req where
  sid       : Nat
  seq       : Nat
  asid      : BitVec 16
  ver       : Nat := 1
  kind      : Nat := 1
  authentic : Bool := true
  op        : Option Nat := none
  sub       : Option Nat := none
  spare     : Nat := 0
  len       : Option Nat := none
  deriving DecidableEq, Repr

/-- One constructor for each row of the opcode table. -/
inductive Instr where
  /-- EXT (R139). -/
  | ext (s : BitVec 1) (c b a : BitVec 8)
  /-- REP (R140). -/
  | rep (s : BitVec 1) (n : BitVec 16) (m : BitVec 8)
  /-- LOOP (R141). -/
  | loop (s : BitVec 1) (l : BitVec 6) (t : BitVec 5)
  /-- NOP (R132). -/
  | nop
  /-- ADD (R164). -/
  | add (d a b : BitVec 5) (g : BitVec 3)
  /-- SUB (R164). -/
  | sub (d a b : BitVec 5) (g : BitVec 3)
  /-- MUL (R164). -/
  | mul (d a b : BitVec 5) (g : BitVec 3)
  /-- MULH (R164). -/
  | mulh (d a b : BitVec 5) (g : BitVec 3) (f : BitVec 4)
  /-- DIV (R165). -/
  | div (d a b : BitVec 5) (g : BitVec 3) (f : BitVec 4)
  /-- REM (R165). -/
  | rem (d a b : BitVec 5) (g : BitVec 3) (f : BitVec 4)
  /-- AND (R164). -/
  | andR (d a b : BitVec 5) (g : BitVec 3)
  /-- OR (R164). -/
  | orR (d a b : BitVec 5) (g : BitVec 3)
  /-- XOR (R164). -/
  | xorR (d a b : BitVec 5) (g : BitVec 3)
  /-- ANDN (R164). -/
  | andn (d a b : BitVec 5) (g : BitVec 3)
  /-- SHL (R164). -/
  | shl (d a b : BitVec 5) (g : BitVec 3)
  /-- SHR (R164). -/
  | shr (d a b : BitVec 5) (g : BitVec 3)
  /-- SRA (R164). -/
  | sra (d a b : BitVec 5) (g : BitVec 3)
  /-- ROTL (R164). -/
  | rotl (d a b : BitVec 5) (g : BitVec 3)
  /-- MIN (R164). -/
  | min (d a b : BitVec 5) (g : BitVec 3) (f : BitVec 4)
  /-- MAX (R164). -/
  | max (d a b : BitVec 5) (g : BitVec 3) (f : BitVec 4)
  /-- CLZ (R164). -/
  | clz (d a : BitVec 5) (g : BitVec 3) (f : BitVec 4)
  /-- CTZ (R164). -/
  | ctz (d a : BitVec 5) (g : BitVec 3) (f : BitVec 4)
  /-- POPC (R164). -/
  | popc (d a : BitVec 5) (g : BitVec 3) (f : BitVec 4)
  /-- SEXT (R164). -/
  | sext (d a : BitVec 5) (g : BitVec 3) (f : BitVec 4)
  /-- ZEXT (R164). -/
  | zext (d a : BitVec 5) (g : BitVec 3) (f : BitVec 4)
  /-- LEA (R164). -/
  | lea (d a b : BitVec 5) (g : BitVec 3) (s : BitVec 4)
  /-- CMP (R168). -/
  | cmp (n : BitVec 3) (a b : BitVec 5) (g : BitVec 3) (c : BitVec 4)
  /-- SEL (R169). -/
  | sel (d a b : BitVec 5) (g n : BitVec 3)
  /-- ADDI (R166). -/
  | addi (d a : BitVec 5) (i : Imm 12)
  /-- ANDI (R166). -/
  | andi (d a : BitVec 5) (i : Imm 12)
  /-- ORI (R166). -/
  | ori (d a : BitVec 5) (i : Imm 12)
  /-- XORI (R166). -/
  | xori (d a : BitVec 5) (i : Imm 12)
  /-- SHLI (R166). -/
  | shli (d a : BitVec 5) (n : BitVec 6)
  /-- SHRI (R166). -/
  | shri (d a : BitVec 5) (n : BitVec 6)
  /-- SRAI (R166). -/
  | srai (d a : BitVec 5) (n : BitVec 6)
  /-- LIH (R167). -/
  | lih (d : BitVec 5) (i : Imm 17)
  /-- JMP (R170). -/
  | jmp (o : Imm 17)
  /-- JAL (R170). -/
  | jal (d : BitVec 5) (o : Imm 17)
  /-- JR (R170). -/
  | jr (d a : BitVec 5) (g : BitVec 3)
  /-- BR (R170). -/
  | br (p : BitVec 3) (n : BitVec 1) (o : Imm 18)
  /-- BRC_EQ (R170). -/
  | brcEq (b a : BitVec 5) (o : Imm 12)
  /-- BRC_NE (R170). -/
  | brcNe (b a : BitVec 5) (o : Imm 12)
  /-- BRC_LT (R170). -/
  | brcLt (b a : BitVec 5) (o : Imm 12)
  /-- BRC_GE (R170). -/
  | brcGe (b a : BitVec 5) (o : Imm 12)
  /-- BRC_LTU (R170). -/
  | brcLtu (b a : BitVec 5) (o : Imm 12)
  /-- BRC_GEU (R170). -/
  | brcGeu (b a : BitVec 5) (o : Imm 12)
  /-- TAKE (R172). -/
  | takeMark
  /-- SPAWN (R173). -/
  | spawn (a b : BitVec 5)
  /-- DONE (R174). -/
  | doneShot
  /-- TRAP (R175). -/
  | trapUser (a : BitVec 5) (i : Imm 12)
  /-- LD (R177). -/
  | ld (d a : BitVec 5) (i : BitVec 9) (f : BitVec 3)
  /-- ST (R177). -/
  | st (s a : BitVec 5) (i : BitVec 9) (z : BitVec 2)
  /-- LDW (R54). -/
  | ldw (d a : BitVec 5) (i : BitVec 9) (f : BitVec 3)
  /-- STF (R177). -/
  | stf (s a : BitVec 5) (i : BitVec 9) (z : BitVec 2)
  /-- PCLR (R177). -/
  | pclr (n a : BitVec 5) (i : BitVec 9)
  /-- CTLR (R178). -/
  | ctlr (d : BitVec 5) (c : BitVec 12)
  /-- CTLW (R178). -/
  | ctlw (a : BitVec 5) (c : BitVec 12)
  /-- SETFMT (R179). -/
  | setfmt (a : BitVec 5)
  /-- SETMOM (R179). -/
  | setmom (a : BitVec 5)
  /-- FENCE (R94). -/
  | fence (c : BitVec 4) (s : BitVec 3)
  /-- WAIT (R185). -/
  | wait (l s c t : BitVec 4)
  /-- RDCLK (R182). -/
  | rdclk (d : BitVec 5)
  /-- RDID (R182). -/
  | rdid (d : BitVec 5)
  /-- RDSTEP (R182). -/
  | rdstep (d : BitVec 5)
  /-- RDSTEP_NEXT (R182). -/
  | rdstepNext (d : BitVec 5)
  /-- TINV (R187). -/
  | tinv (a b : BitVec 5)
  /-- RETAKE (R188). -/
  | retake (d a : BitVec 5)
  /-- CTXSV (R188). -/
  | ctxsv (d a b : BitVec 5) (p : BitVec 4)
  /-- CTXLD (R188). -/
  | ctxld (d a b : BitVec 5) (p : BitVec 4)
  /-- DSTW (R189). -/
  | dstw (d a b : BitVec 5)
  /-- SCRB (R190). -/
  | scrb (d a b : BitVec 5)
  /-- PWRW_PWRCAP (R191). -/
  | pwrwPwrcap (a b : BitVec 5)
  /-- PWRW_CURLIM (R191). -/
  | pwrwCurlim (a b : BitVec 5)
  /-- HIBW_SET_ENTRY (R192). -/
  | hibwSetEntry (d a b : BitVec 5)
  /-- HIBW_CLEAR_ENTRY (R192). -/
  | hibwClearEntry (d a b : BitVec 5)
  /-- HIBW_CLEAR_ALL (R192). -/
  | hibwClearAll (d a b : BitVec 5)
  /-- VADD_F32 (R197). -/
  | vaddF32 (d a b : BitVec 6) (g : BitVec 3) (h : BitVec 1)
  /-- VSUB_F32 (R197). -/
  | vsubF32 (d a b : BitVec 6) (g : BitVec 3) (h : BitVec 1)
  /-- VMUL_F32 (R197). -/
  | vmulF32 (d a b : BitVec 6) (g : BitVec 3) (h : BitVec 1)
  /-- VFMA_F32 (R197). -/
  | vfmaF32 (d a b : BitVec 6) (g : BitVec 3) (h : BitVec 1)
  /-- VFMS_F32 (R197). -/
  | vfmsF32 (d a b : BitVec 6) (g : BitVec 3) (h : BitVec 1)
  /-- VMIN_F32 (R197). -/
  | vminF32 (d a b : BitVec 6) (g : BitVec 3) (h : BitVec 1)
  /-- VMAX_F32 (R197). -/
  | vmaxF32 (d a b : BitVec 6) (g : BitVec 3) (h : BitVec 1)
  /-- VABS_F32 (R197). -/
  | vabsF32 (d a : BitVec 6) (g : BitVec 3) (h : BitVec 1)
  /-- VNEG_F32 (R197). -/
  | vnegF32 (d a : BitVec 6) (g : BitVec 3) (h : BitVec 1)
  /-- VCLASS (R198). -/
  | vclass (d a : BitVec 6) (g : BitVec 3) (h : BitVec 1)
  /-- VADD_I32 (R199). -/
  | vaddI32 (d a b : BitVec 6) (g : BitVec 3) (h : BitVec 1)
  /-- VSUB_I32 (R199). -/
  | vsubI32 (d a b : BitVec 6) (g : BitVec 3) (h : BitVec 1)
  /-- VMUL_I32 (R199). -/
  | vmulI32 (d a b : BitVec 6) (g : BitVec 3) (h : BitVec 1)
  /-- VMIN_I32 (R199). -/
  | vminI32 (d a b : BitVec 6) (g : BitVec 3) (h : BitVec 1)
  /-- VMAX_I32 (R199). -/
  | vmaxI32 (d a b : BitVec 6) (g : BitVec 3) (h : BitVec 1)
  /-- VMIN_N32 (R199). -/
  | vminN32 (d a b : BitVec 6) (g : BitVec 3) (h : BitVec 1)
  /-- VMAX_N32 (R199). -/
  | vmaxN32 (d a b : BitVec 6) (g : BitVec 3) (h : BitVec 1)
  /-- VABS_I32 (R199). -/
  | vabsI32 (d a : BitVec 6) (g : BitVec 3) (h : BitVec 1)
  /-- VNEG_I32 (R199). -/
  | vnegI32 (d a : BitVec 6) (g : BitVec 3) (h : BitVec 1)
  /-- VRCP (R201). -/
  | vrcp (d a : BitVec 6) (g : BitVec 3) (h : BitVec 1)
  /-- VRSQRT (R201). -/
  | vrsqrt (d a : BitVec 6) (g : BitVec 3) (h : BitVec 1)
  /-- VSQRT (R201). -/
  | vsqrt (d a : BitVec 6) (g : BitVec 3) (h : BitVec 1)
  /-- VEXP2 (R201). -/
  | vexp2 (d a : BitVec 6) (g : BitVec 3) (h : BitVec 1)
  /-- VLOG2 (R201). -/
  | vlog2 (d a : BitVec 6) (g : BitVec 3) (h : BitVec 1)
  /-- VNCDF (R201). -/
  | vncdf (d a : BitVec 6) (g : BitVec 3) (h : BitVec 1)
  /-- VNPDF (R201). -/
  | vnpdf (d a : BitVec 6) (g : BitVec 3) (h : BitVec 1)
  /-- VTANH (R201). -/
  | vtanh (d a : BitVec 6) (g : BitVec 3) (h : BitVec 1)
  /-- VAND (R199). -/
  | vand (d a b : BitVec 6) (g : BitVec 3) (h : BitVec 1)
  /-- VOR (R199). -/
  | vor (d a b : BitVec 6) (g : BitVec 3) (h : BitVec 1)
  /-- VXOR (R199). -/
  | vxor (d a b : BitVec 6) (g : BitVec 3) (h : BitVec 1)
  /-- VNOT (R199). -/
  | vnot (d a : BitVec 6) (g : BitVec 3) (h : BitVec 1)
  /-- VSHL (R199). -/
  | vshl (d a b : BitVec 6) (g : BitVec 3) (h : BitVec 1)
  /-- VSHR (R199). -/
  | vshr (d a b : BitVec 6) (g : BitVec 3) (h : BitVec 1)
  /-- VSRA (R199). -/
  | vsra (d a b : BitVec 6) (g : BitVec 3) (h : BitVec 1)
  /-- VCMP_F32 (R202). -/
  | vcmpF32 (c n : BitVec 3) (a b : BitVec 6) (g : BitVec 3) (h : BitVec 1)
  /-- VCMP_I32 (R202). -/
  | vcmpI32 (c n : BitVec 3) (a b : BitVec 6) (g : BitVec 3) (h : BitVec 1)
  /-- VCMP_N32 (R202). -/
  | vcmpN32 (c n : BitVec 3) (a b : BitVec 6) (g : BitVec 3) (h : BitVec 1)
  /-- VSEL (R203). -/
  | vsel (d a b : BitVec 6) (g : BitVec 3) (h : BitVec 1)
  /-- VPFX_F32 (R204). -/
  | vpfxF32 (d a : BitVec 6) (g : BitVec 3) (h : BitVec 1)
  /-- VPFX_I32 (R204). -/
  | vpfxI32 (d a : BitVec 6) (g : BitVec 3) (h : BitVec 1)
  /-- VRED_F32 (R205). -/
  | vredF32 (d a : BitVec 6) (x : BitVec 5) (g : BitVec 3) (f : BitVec 2)
  /-- VRED_I32 (R205). -/
  | vredI32 (d a : BitVec 6) (x : BitVec 5) (g : BitVec 3) (f : BitVec 2)
  /-- VRED_N32 (R205). -/
  | vredN32 (d a : BitVec 6) (x : BitVec 5) (g : BitVec 3) (f : BitVec 2)
  /-- VPERM (R206). -/
  | vperm (d a b : BitVec 6) (g : BitVec 3) (h : BitVec 1)
  /-- VBCAST (R207). -/
  | vbcast (d : BitVec 6) (x : BitVec 5) (g : BitVec 3)
  /-- VBCAST_LANE (R207). -/
  | vbcastLane (d a : BitVec 6) (x : BitVec 5) (g : BitVec 3)
  /-- VMOVX (R208). -/
  | vmovx (l a : BitVec 6) (x : BitVec 5)
  /-- VMOVX_S (R208). -/
  | vmovxS (l a : BitVec 6) (x : BitVec 5)
  /-- VMOVX_TO_LANE (R208). -/
  | vmovxToLane (d l : BitVec 6) (x : BitVec 5)
  /-- VIDX (R209). -/
  | vidx (d : BitVec 6) (g : BitVec 3)
  /-- VCVT_I32_F32 (R211). -/
  | vcvtI32F32 (d a b : BitVec 6) (g : BitVec 3) (h : BitVec 1)
  /-- VCVT_N32_F32 (R211). -/
  | vcvtN32F32 (d a b : BitVec 6) (g : BitVec 3) (h : BitVec 1)
  /-- VCVT_F32_I32 (R211). -/
  | vcvtF32I32 (d a b : BitVec 6) (g : BitVec 3) (h : BitVec 1)
  /-- VCVT_F32_N32 (R211). -/
  | vcvtF32N32 (d a b : BitVec 6) (g : BitVec 3) (h : BitVec 1)
  /-- VCVT_BF16_F32 (R211). -/
  | vcvtBf16F32 (d a b : BitVec 6) (g : BitVec 3) (h : BitVec 1)
  /-- VCVT_F32_BF16 (R210). -/
  | vcvtF32Bf16 (d a b : BitVec 6) (g : BitVec 3) (h : BitVec 1)
  /-- VCVT_E4M3_F32 (R211). -/
  | vcvtE4m3F32 (d a b : BitVec 6) (g : BitVec 3) (h : BitVec 1)
  /-- VCVT_F32_E4M3 (R210). -/
  | vcvtF32E4m3 (d a b : BitVec 6) (g : BitVec 3) (h : BitVec 1)
  /-- VCVT_E5M2_F32 (R211). -/
  | vcvtE5m2F32 (d a b : BitVec 6) (g : BitVec 3) (h : BitVec 1)
  /-- VCVT_F32_E5M2 (R210). -/
  | vcvtF32E5m2 (d a b : BitVec 6) (g : BitVec 3) (h : BitVec 1)
  /-- VCVT_E2M1_F32 (R211). -/
  | vcvtE2m1F32 (d a b : BitVec 6) (g : BitVec 3) (h : BitVec 1)
  /-- VCVT_F32_E2M1 (R210). -/
  | vcvtF32E2m1 (d a b : BitVec 6) (g : BitVec 3) (h : BitVec 1)
  /-- VLD (R212). -/
  | vld (d : BitVec 6) (a : BitVec 5) (i : BitVec 7) (g : BitVec 3)
  /-- VST (R212). -/
  | vst (s : BitVec 6) (a : BitVec 5) (i : BitVec 7) (g : BitVec 3)
  /-- VLDW (R213). -/
  | vldw (d : BitVec 6) (a : BitVec 5) (i : BitVec 7) (q : BitVec 1)
  /-- VSTF (R213). -/
  | vstf (s : BitVec 6) (a : BitVec 5) (i : BitVec 7)
  /-- VLDS (R214). -/
  | vlds (d : BitVec 6) (r b : BitVec 5) (g : BitVec 3) (f : BitVec 2)
  /-- VLDG (R214). -/
  | vldg (d a : BitVec 6) (b : BitVec 5) (g : BitVec 3) (f : BitVec 2)
  /-- VSTS (R214). -/
  | vsts (s a : BitVec 6) (b : BitVec 5) (g : BitVec 3) (f : BitVec 2)
  /-- PAND (R216). -/
  | pand (d a b g : BitVec 3)
  /-- POR (R216). -/
  | por (d a b g : BitVec 3)
  /-- PXOR (R216). -/
  | pxor (d a b g : BitVec 3)
  /-- PNOT (R216). -/
  | pnot (d a g : BitVec 3)
  /-- PCNT (R217). -/
  | pcnt (a : BitVec 3) (x : BitVec 5) (g : BitVec 3) (f : BitVec 2)
  /-- PFIRST (R217). -/
  | pfirst (a : BitVec 3) (x : BitVec 5) (g : BitVec 3) (f : BitVec 2)
  /-- QCNT (R218). -/
  | qcnt (q : BitVec 4) (x : BitVec 5)
  /-- QCLR (R219). -/
  | qclr (q : BitVec 4)
  /-- QBIND (R223). -/
  | qbind (q s : BitVec 4)
  /-- QUNBIND (R226). -/
  | qunbind (q : BitVec 4)
  /-- SBIND (R222). -/
  | sbind (s : BitVec 4) (x : BitVec 5)
  /-- SPOS (R227). -/
  | spos (s : BitVec 4) (x : BitVec 5)
  /-- VPARK (R230). -/
  | vpark (a : BitVec 6) (x : BitVec 5)
  /-- VUNPARK (R230). -/
  | vunpark (d : BitVec 6) (x : BitVec 5)
  /-- VUNPARK_FREE (R230). -/
  | vunparkFree (d : BitVec 6) (x : BitVec 5)
  /-- VSHL_IMM (R200). -/
  | vshlImm (d a : BitVec 6) (n : BitVec 5)
  /-- VSHR_IMM (R200). -/
  | vshrImm (d a : BitVec 6) (n : BitVec 5)
  /-- VSRA_IMM (R200). -/
  | vsraImm (d a : BitVec 6) (n : BitVec 5)
  /-- VBCAST_IMM (R200). -/
  | vbcastImm (d : BitVec 6) (i : Imm 10)
  /-- MLD_M32 (R263). -/
  | mldM32 (d : BitVec 6) (a : BitVec 5) (i : BitVec 7) (g : BitVec 3)
  /-- MLD_MB16 (R263). -/
  | mldMb16 (d : BitVec 6) (a : BitVec 5) (i : BitVec 7) (g : BitVec 3)
  /-- MST_M32 (R263). -/
  | mstM32 (s : BitVec 6) (a : BitVec 5) (i : BitVec 7) (g : BitVec 3)
  /-- MST_MB16 (R263). -/
  | mstMb16 (s : BitVec 6) (a : BitVec 5) (i : BitVec 7) (g : BitVec 3)
  /-- MSET (R264). -/
  | mset (d a b : BitVec 6) (g : BitVec 3)
  /-- MGET (R264). -/
  | mget (d a b : BitVec 6) (g : BitVec 3)
  /-- MCORR (R259). -/
  | mcorr (a : BitVec 6) (g : BitVec 3)
  /-- MCLIP (R275). -/
  | mclip (d a : BitVec 6) (x : BitVec 5) (g : BitVec 3)
  /-- MADD (R265). -/
  | madd (d a b : BitVec 6) (g : BitVec 3) (c : BitVec 1)
  /-- MSUB (R265). -/
  | msub (d a b : BitVec 6) (g : BitVec 3) (c : BitVec 1)
  /-- MMUL (R266). -/
  | mmul (d a b : BitVec 6) (g : BitVec 3) (c : BitVec 1)
  /-- MFMA (R267). -/
  | mfma (d a b : BitVec 6) (g : BitVec 3) (c : BitVec 1)
  /-- MSCL (R268). -/
  | mscl (d a b : BitVec 6) (g : BitVec 3)
  /-- MSQ (R269). -/
  | msq (d a : BitVec 6) (g : BitVec 3)
  /-- MRELU (R271). -/
  | mrelu (d a : BitVec 6) (g : BitVec 3)
  /-- MSIG (R272). -/
  | msig (d a : BitVec 6) (g : BitVec 3)
  /-- MEXP (R274). -/
  | mexp (d a : BitVec 6) (g : BitVec 3)
  /-- MTANH (R273). -/
  | mtanh (d a : BitVec 6) (g : BitVec 3)
  /-- MCOL_MEAN (R276). -/
  | mcolMean (d a : BitVec 6) (g : BitVec 3)
  /-- MCOL_HI (R276). -/
  | mcolHi (d a : BitVec 6) (g : BitVec 3)
  /-- MCOL_LO (R276). -/
  | mcolLo (d a : BitVec 6) (g : BitVec 3)
  /-- MCOL_SMP (R276). -/
  | mcolSmp (d a b : BitVec 6) (g : BitVec 3)
  /-- MMA (R241). -/
  | mma (z : BitVec 3) (a b : BitVec 4) (m : BitVec 2) (p : BitVec 1)
  /-- MMAS (R242). -/
  | mmas (z : BitVec 3) (a b : BitVec 4) (m : BitVec 2) (p : BitVec 1) (c : BitVec 6) (s : BitVec 1)
  /-- MMAP (R243). -/
  | mmap (z : BitVec 3) (a b : BitVec 4) (m : BitVec 2) (p : BitVec 1)
  /-- MMT (R241). -/
  | mmt (z : BitVec 3) (a b : BitVec 4) (m : BitVec 2) (p : BitVec 1)
  /-- MMM (R244). -/
  | mmm (z : BitVec 3) (a b : BitVec 4) (m : BitVec 2) (p f : BitVec 1)
  /-- REPETITION (R140). -/
  | repetition
  /-- TRD (R251). -/
  | trd (z : BitVec 3) (d r : BitVec 6)
  /-- TWR (R251). -/
  | twr (z : BitVec 3) (a r : BitVec 6)
  /-- TCFG (R245). -/
  | tcfg (m : BitVec 8) (r : BitVec 7) (f : BitVec 1)
  /-- TFREE (R246). -/
  | tfree (m : BitVec 8) (f : BitVec 1)
  /-- TZERO (R247). -/
  | tzero (m : BitVec 8)
  /-- TGEN (R248). -/
  | tgen (t : BitVec 4) (p : BitVec 2)
  /-- TADD (R249). -/
  | tadd (d s : BitVec 3) (n : BitVec 1)
  /-- TSCL (R249). -/
  | tscl (z : BitVec 3) (x : BitVec 5)
  /-- TCVT (R250). -/
  | tcvt (z o t : BitVec 3) (p : BitVec 1) (r : BitVec 3)
  /-- OFS (R237). -/
  | ofs (o : BitVec 3) (a b : BitVec 5)
  /-- OFSR (R238). -/
  | ofsr (o : BitVec 3) (d : BitVec 5) (s : BitVec 1)
  /-- CDESC (R282). -/
  | cdesc (c s : BitVec 5)
  /-- CPY (R287). -/
  | cpy (c h s d : BitVec 5)
  /-- CPYG (R288). -/
  | cpyg (c h s d : BitVec 5)
  /-- CPYG_OB (R288). -/
  | cpygOb (c h s d : BitVec 5)
  /-- CPYX (R288). -/
  | cpyx (c h s d : BitVec 5)
  /-- CPYB (R289). -/
  | cpyb (c h s d : BitVec 5)
  /-- CPYS (R287). -/
  | cpys (c h s d : BitVec 5)
  /-- CPYO (R287). -/
  | cpyo (c h s d : BitVec 5)
  /-- PFILL (R290). -/
  | pfill (c h s d : BitVec 5)
  /-- CADD (R291). -/
  | cadd (h v : BitVec 5) (s : BitVec 3)
  /-- CADD_IMM (R291). -/
  | caddImm (h i : BitVec 5) (s : BitVec 3) (j : BitVec 8)
  /-- CWAIT (R99). -/
  | cwait (h v : BitVec 5) (s : BitVec 3)
  /-- CTEST (R291). -/
  | ctest (h v : BitVec 5) (s n : BitVec 3)
  /-- CREAD (R291). -/
  | cread (h v : BitVec 5) (s : BitVec 3)
  /-- AMO_ADD (R292). -/
  | amoAdd (d a b : BitVec 5) (w s : BitVec 2)
  /-- AMO_MIN (R292). -/
  | amoMin (d a b : BitVec 5) (w s : BitVec 2)
  /-- AMO_MAX (R292). -/
  | amoMax (d a b : BitVec 5) (w s : BitVec 2)
  /-- AMO_AND (R292). -/
  | amoAnd (d a b : BitVec 5) (w s : BitVec 2)
  /-- AMO_OR (R292). -/
  | amoOr (d a b : BitVec 5) (w s : BitVec 2)
  /-- AMO_XOR (R292). -/
  | amoXor (d a b : BitVec 5) (w s : BitVec 2)
  /-- AMO_XCHG (R292). -/
  | amoXchg (d a b : BitVec 5) (w s : BitVec 2)
  /-- AMOCAS (R292). -/
  | amocas (d a b : BitVec 5) (w s : BitVec 2)
  /-- COLL (R294). -/
  | coll (c h s d : BitVec 5)
  /-- QAPP (R293). -/
  | qapp (h v : BitVec 5) (s : BitVec 3) (n : BitVec 5)
  /-- CBCFG (R300). -/
  | cbcfg (h s d : BitVec 5)
  /-- CBAL (R301). -/
  | cbal (h v n : BitVec 5)
  /-- CBAL_NB (R301). -/
  | cbalNb (h v : BitVec 5) (p : BitVec 3) (n : BitVec 5)
  /-- CBPUT (R302). -/
  | cbput (c h s d : BitVec 5)
  /-- CBST (R307). -/
  | cbst (h v : BitVec 5) (f : BitVec 9)
  /-- CBDROP (R306). -/
  | cbdrop (h v : BitVec 5)
  /-- BUNDLE_DISPATCH (R142). -/
  | bundleDispatch
  /-- BUNDLE_FETCH (R400). -/
  | bundleFetch
  /-- TAKE_COMMIT (R38). -/
  | takeCommit
  /-- TRANSLATION_WALK (R63). -/
  | translationWalk (va : W64)
  /-- TINV_ACK (R65). -/
  | tinvAck (core : Nat)
  /-- CONSUMING_LOAD_WAKE (R54). -/
  | consumingLoadWake (core : Nat)
  /-- CWAIT_WAKE (R44). -/
  | cwaitWake (core : Nat)
  /-- CBAL_WAKE (R301). -/
  | cbalWake (core : Nat)
  /-- SPAWN_SHOT_START (R36). -/
  | spawnShotStart (core : Nat)
  /-- COPY_COMPLETE (R279). -/
  | copyComplete (op : Nat)
  /-- STREAM_FETCH (R224). -/
  | streamFetch (core sd : Nat)
  /-- STREAM_ENTRY_WRITE (R225). -/
  | streamEntryWrite (core q entry : Nat)
  /-- WOUND (R89). -/
  | wound (core : Nat)
  /-- RD (R71). -/
  | rdLines (place : Nat) (hdr : BitVec 128)
  /-- WR (R74). -/
  | wrLines (place : Nat) (hdr : BitVec 128) (data : List Byte)
  /-- WRM (R74). -/
  | wrmLine (place : Nat) (hdr : BitVec 128) (data : List Byte)
  /-- SCRUB (R71). -/
  | scrubLines (place : Nat) (hdr : BitVec 128)
  /-- RAWWR (R71). -/
  | rawWr (place : Nat) (hdr : BitVec 128) (data : List Byte)
  /-- ZERO (R74). -/
  | zeroLines (place : Nat) (hdr : BitVec 128)
  /-- REPLY (R72). -/
  | replyLines (k : Nat)
  /-- SELECTION (R318). -/
  | selection (die : Nat)
  /-- LAUNCH_PACKET (R317). -/
  | launchPacket (die : Nat)
  /-- COPY_PACKET (R316). -/
  | copyPacket (die : Nat)
  /-- ADD_PACKET (R317). -/
  | addPacket (die : Nat)
  /-- WAIT_PACKET (R317). -/
  | waitPacket (die : Nat)
  /-- BARRIER_PACKET (R317). -/
  | barrierPacket (die : Nat)
  /-- CONTROL_YIELD (R317). -/
  | controlYield (die : Nat)
  /-- CONTROL_DISABLE (R317). -/
  | controlDisable (die : Nat)
  /-- SHOT_PLACEMENT (R319). -/
  | shotPlacement (die : Nat)
  /-- LAUNCH_COMPLETION (R42). -/
  | launchCompletion (launch : Nat)
  /-- COMPLETION_ADD (R323). -/
  | completionAdd (k : Nat)
  /-- TRAP_RECORD (R325). -/
  | trapRecord (core : Nat)
  /-- TRAP_DELIVERY (R331). -/
  | trapDelivery (core : Nat)
  /-- ACTION_RESUME (R334). -/
  | actionResume (core : Nat)
  /-- ACTION_SUPPLY (R334). -/
  | actionSupply (core : Nat)
  /-- ACTION_TERMINATE (R334). -/
  | actionTerminate (core : Nat)
  /-- EVENT_DELIVERY (R337). -/
  | eventDelivery (k : Nat)
  /-- EVENT_WAIT_EXPIRY (R337). -/
  | eventWaitExpiry (k : Nat)
  /-- TIME_SLICE_END (R324). -/
  | timeSliceEnd (die : Nat)
  /-- PREEMPT (R338). -/
  | preempt (die : Nat) (out into : BitVec 16)
  /-- GRACE_EXPIRY (R41). -/
  | graceExpiry (core : Nat)
  /-- FAULT_RESOLUTION (R345). -/
  | faultResolution (core : Nat)
  /-- FETCH_REPLY (R68). -/
  | fetchReply (req : Req) (va : W64) (granted : Bool) (data : List Byte)
  /-- FETCH_RESEND (R389). -/
  | fetchResend (asid : BitVec 16) (va : W64)
  /-- PAGE_MOVE (R106). -/
  | pageMove (asid : BitVec 16) (va : W64) (frame : Nat)
  /-- PATROL_SCRUB (R352). -/
  | patrolScrub (die : Nat) (raw : W64)
  /-- SCREEN_TEST_START (R354). -/
  | screenTestStart (cluster : Nat)
  /-- SCREEN_PREEMPT (R354). -/
  | screenPreempt (core : Nat)
  /-- SCREEN_TEST (R356). -/
  | screenTest (core : Nat) (pass : Bool)
  /-- POWER_FAIL_WARNING (R357). -/
  | powerFailWarning
  /-- QUIESCENCE (R358). -/
  | quiescence
  /-- DRAIN (R362). -/
  | drain
  /-- RESTART (R374). -/
  | restart
  /-- POWER_LEVEL_DROP (R370). -/
  | powerLevelDrop (level : Nat)
  /-- POWER_LEVEL_RAISE (R370). -/
  | powerLevelRaise (level : Nat)
  /-- BOOT (R377). -/
  | boot (passed : List Nat) (budget : W64)
  /-- PHASE_LOSS (R395). -/
  | phaseLoss (die : Nat)
  /-- IMBALANCE_SAMPLE (R394). -/
  | imbalanceSample (pair up lo : Nat)
  /-- IMBALANCE_CAP_RAISE (R394). -/
  | imbalanceCapRaise (pair : Nat)
  /-- HOT_FLAG (R398). -/
  | hotFlag (cluster temp : Nat)
  /-- THERMAL_STEP (R398). -/
  | thermalStep (cluster temp : Nat)
  /-- GATING_HOLD_EXPIRY (R397). -/
  | gatingHoldExpiry (core : Nat)
  /-- WAKE_COMPLETE (R397). -/
  | wakeComplete (core : Nat)
  /-- CBPUT_DEPOSIT (R302). -/
  | cbputDeposit (op : Nat)
  /-- CB_DEADLINE (R305). -/
  | cbDeadline (die stream slot : Nat)
  /-- COLL_COMPLETE (R296). -/
  | collComplete (op : Nat) (contributions : List (List Byte))
  /-- COLL_ABORT (R297). -/
  | collAbort (op : Nat)
  /-- LINK_TRAINING (R391). -/
  | linkTraining (port : Nat) (peerStep : W64)
  /-- LINK_RETRAIN_TIMEOUT (R390). -/
  | linkRetrainTimeout (port : Nat)
  /-- STEP_BOUNDARY (R391). -/
  | stepBoundary
  /-- HELLO (R381). -/
  | hello (datagram : List Byte)
  /-- OPEN (R385). -/
  | sessionOpen (req : Req) (proposal : W64)
  /-- CREATE (R382). -/
  | create (req : Req) (arg : W64)
  /-- DESTROY (R388). -/
  | destroy (req : Req)
  /-- RECLAIM (R383). -/
  | reclaim (req : Req) (ticket : List Byte)
  /-- EXPOSE (R388). -/
  | expose (req : Req) (va pages : W64) (write : Bool)
  /-- REMOTE_APPEND (R387). -/
  | remoteAppend (req : Req) (queue : W64) (packet : List Byte)
  /-- REMOTE_READ (R387). -/
  | remoteRead (req : Req) (va bytes : W64)
  /-- REMOTE_WRITE (R387). -/
  | remoteWrite (req : Req) (va : W64) (data : List Byte)
  /-- REMOTE_ADD (R387). -/
  | remoteAdd (req : Req) (handle value : W64)
  /-- RECALL (R389). -/
  | recall (req : Req) (va : W64)
  /-- GIVE (R389). -/
  | give (req : Req) (va : W64) (data : List Byte)
  /-- ATTEST_REPORT (R384). -/
  | attestReport (req : Req) (nonce : List Byte)
  /-- ATTEST_CERT (R388). -/
  | attestCert (req : Req)
  /-- MREAD (R388). -/
  | mread (req : Req) (object offset bytes : W64)
  /-- MWRITE_SCRUB_RATE (R352). -/
  | mwriteScrubRate (req : Req) (offset : W64) (data : List Byte)
  /-- SLATE_DISPOSAL (R388). -/
  | slateDisposal (req : Req) (data : List Byte)
  /-- CLOSE (R382). -/
  | sessionClose (req : Req)
  /-- RECLAIM_WINDOW_EXPIRY (R383). -/
  | reclaimWindowExpiry (asid : BitVec 16)
  /-- UPSET (R350). -/
  | upset (raw : W64) (bits : Nat)
  /-- RECOVERY_IMAGE_WRITE (R377). -/
  | recoveryImageWrite (slot : Nat) (images : List (List Byte))
  /-- LINK_RETRAIN (R390). -/
  | linkRetrain (port : Nat)
  /-- QUEUE_REGISTRATION (R310). -/
  | queueRegistration (asid : BitVec 16) (header : W64)
  deriving DecidableEq, Repr

end Sys2Proof
end

