-- ==== Sys2Proof/Machine/Legal.lean ====
section
/-! DEFINITION. What makes a decoded slot legal: the field ranges (RESFIELD) and operand codes (OPERAND) of spec/11 R135,
R149-R153 and of the instruction chapters, the registers a slot names as destinations (spec/11 R136), the firmware-only
forms (R137) and the features a slot needs (spec/31 R386). -/

namespace Sys2Proof

/-- The ILLEGAL details of spec/11 R135, lowest code first. -/
inductive Ill where
  | resClass | resOpc | resField | operand | noHold | header
  deriving DecidableEq, Repr

/-- The detail code of R135. -/
def Ill.code : Ill → Nat
  | .resClass => 1 | .resOpc => 2 | .resField => 3 | .operand => 4 | .noHold => 5 | .header => 6

/-- The control registers of spec/11 R149. -/
inductive Cr where
  | fmt | mom | cause | tinfo | takepc | tser | park | watch | feat | step | clk | coreid
  | ctx | prio | pwrcap | curlim | derate | screen | hibbud | hiblst
  deriving DecidableEq, Repr

/-- The register a number of R149 names; `none` for an unlisted number. -/
def Cr.ofNumber : Nat → Option Cr
  | 0x000 => some .fmt | 0x001 => some .mom
  | 0x010 => some .cause | 0x011 => some .tinfo | 0x012 => some .takepc | 0x013 => some .tser
  | 0x020 => some .park | 0x021 => some .watch
  | 0x030 => some .feat | 0x031 => some .step | 0x032 => some .clk | 0x033 => some .coreid
  | 0x040 => some .ctx | 0x041 => some .prio
  | 0x050 => some .pwrcap | 0x051 => some .curlim | 0x052 => some .derate
  | 0x060 => some .screen
  | 0x070 => some .hibbud | 0x071 => some .hiblst
  | _ => none

/-- The ctlw column of R149 holds F (for the other registers it holds a dash). -/
def Cr.ctlwF : Cr → Bool
  | .cause | .tinfo | .takepc | .tser | .step | .ctx | .prio => true
  | _ => false

/-- The ctlr column of R149 holds F. -/
def Cr.ctlrF : Cr → Bool
  | .hiblst => true
  | _ => false

/-- A V source code (R151): v, q pop, q peek, the zero vector or the latched operand. -/
def vSrc (c : BitVec 6) : Bool := c.toNat < 56 || c.toNat == 62 || c.toNat == 63

/-- A V destination code (R151): v, q push or discard. -/
def vDst (c : BitVec 6) : Bool := c.toNat < 48 || c.toNat == 62

/-- An X code that names a v register (R152). -/
def xVec (c : BitVec 6) : Bool := c.toNat < 32

/-- An X code that names an m register (R152). -/
def xMom (c : BitVec 6) : Bool := 32 ≤ c.toNat && c.toNat < 48

/-- An X code that names an m or a v register. -/
def xAny (c : BitVec 6) : Bool := c.toNat < 48

/-- An M.A source code (R153): an operand buffer 0-3 or an offset register 8-15. -/
def mSrc (c : BitVec 4) : Bool := c.toNat < 4 || 8 ≤ c.toNat

/-- RESFIELD when the fields are outside their stated range, else OPERAND when a code is not allowed (R135). -/
def legalIf (inRange codes : Bool) : Option Ill :=
  if !inRange then some .resField else if !codes then some .operand else none

/-- The condition of R135 that a slot meets once its reserved fields are known to be zero: the range of a field, then an
operand code. The rows that accept every value of their fields have no line of their own. -/
def illegal : Instr → Option Ill
  | .rep _ n _ => if n = 0 then some .header else none
  | .mulh _ _ _ _ f => legalIf (f.toNat ≤ 2) true
  | .div _ _ _ _ f | .rem _ _ _ _ f | .min _ _ _ _ f | .max _ _ _ _ f => legalIf (f.toNat ≤ 1) true
  | .clz _ _ _ f | .ctz _ _ _ f | .popc _ _ _ f => legalIf (f.toNat ≤ 1) true
  | .sext _ _ _ f | .zext _ _ _ f => legalIf (f.toNat ≤ 2) true
  | .lea _ _ _ _ s => legalIf (s.toNat ≤ 8) true
  | .cmp _ _ _ _ c => legalIf (c.toNat ≤ 5) true
  | .trapUser a _ => legalIf (a ≠ 0) true
  | .ld _ _ _ f => legalIf (f ≠ 7) true
  | .ctlr _ c => legalIf (Cr.ofNumber c.toNat).isSome true
  | .ctlw _ c => legalIf ((Cr.ofNumber c.toNat).any Cr.ctlwF) true
  | .fence c s => legalIf (c ≠ 0 && s.toNat ≤ 3) true
  | .ctxsv _ _ _ p | .ctxld _ _ _ p => legalIf (p.toNat ≤ 6) true
  | .vaddF32 d a b _ _ | .vsubF32 d a b _ _ | .vmulF32 d a b _ _ | .vfmaF32 d a b _ _ | .vfmsF32 d a b _ _
  | .vminF32 d a b _ _ | .vmaxF32 d a b _ _ | .vaddI32 d a b _ _ | .vsubI32 d a b _ _ | .vmulI32 d a b _ _
  | .vminI32 d a b _ _ | .vmaxI32 d a b _ _ | .vminN32 d a b _ _ | .vmaxN32 d a b _ _ | .vand d a b _ _
  | .vor d a b _ _ | .vxor d a b _ _ | .vshl d a b _ _ | .vshr d a b _ _ | .vsra d a b _ _ | .vsel d a b _ _
  | .vperm d a b _ _ | .vcvtI32F32 d a b _ _ | .vcvtN32F32 d a b _ _ | .vcvtF32I32 d a b _ _
  | .vcvtF32N32 d a b _ _ | .vcvtBf16F32 d a b _ _ | .vcvtF32Bf16 d a b _ _ | .vcvtE4m3F32 d a b _ _
  | .vcvtF32E4m3 d a b _ _ | .vcvtE5m2F32 d a b _ _ | .vcvtF32E5m2 d a b _ _ | .vcvtE2m1F32 d a b _ _
  | .vcvtF32E2m1 d a b _ _ => legalIf true (vDst d && vSrc a && vSrc b)
  | .vabsF32 d a _ _ | .vnegF32 d a _ _ | .vclass d a _ _ | .vabsI32 d a _ _ | .vnegI32 d a _ _ | .vrcp d a _ _
  | .vrsqrt d a _ _ | .vsqrt d a _ _ | .vexp2 d a _ _ | .vlog2 d a _ _ | .vncdf d a _ _ | .vnpdf d a _ _
  | .vtanh d a _ _ | .vnot d a _ _ | .vpfxF32 d a _ _ | .vpfxI32 d a _ _ => legalIf true (vDst d && vSrc a)
  | .vcmpF32 _ _ a b _ _ => legalIf true (vSrc a && vSrc b)
  | .vcmpI32 c _ a b _ _ | .vcmpN32 c _ a b _ _ => legalIf (c.toNat ≤ 5) (vSrc a && vSrc b)
  | .vredF32 d a _ _ f | .vredI32 d a _ _ f | .vredN32 d a _ _ f => legalIf (f.toNat ≤ 2) (vDst d && vSrc a)
  | .vbcast d _ _ => legalIf true (vDst d)
  | .vbcastLane d a _ _ => legalIf true (vDst d && vSrc a)
  | .vmovx _ a _ | .vmovxS _ a _ => legalIf true (vSrc a)
  | .vmovxToLane d _ _ => legalIf true (d.toNat < 32)
  | .vidx d _ => legalIf true (vDst d)
  | .vld d _ _ _ => legalIf true (vDst d)
  | .vst s _ _ _ => legalIf true (vSrc s)
  | .vldw d _ _ _ => legalIf true (vDst d)
  | .vstf s _ _ => legalIf true (vSrc s)
  | .vlds d _ _ _ f => legalIf (f.toNat ≤ 2) (vDst d)
  | .vldg d a _ _ f => legalIf (f.toNat ≤ 2) (vDst d && vSrc a)
  | .vsts s a _ _ f => legalIf (f.toNat ≤ 2) (vSrc s && vSrc a)
  | .pcnt _ _ _ f | .pfirst _ _ _ f => legalIf (f.toNat ≤ 1) true
  | .vpark a _ => legalIf true (vSrc a)
  | .vunpark d _ | .vunparkFree d _ => legalIf true (vDst d)
  | .vshlImm d a _ | .vshrImm d a _ | .vsraImm d a _ => legalIf true (vDst d && vSrc a)
  | .vbcastImm d _ => legalIf true (vDst d)
  | .mldM32 d _ _ _ | .mldMb16 d _ _ _ => legalIf true (xMom d)
  | .mstM32 s _ _ _ | .mstMb16 s _ _ _ => legalIf true (xMom s)
  | .mset d a b _ => legalIf true (xMom d && xVec a && xVec b)
  | .mget d a b _ => legalIf true (xVec d && xMom a && xVec b && d != b)
  | .mcorr a _ => legalIf true (xVec a)
  | .mclip d a _ _ => legalIf true (xMom d && xMom a)
  | .madd d a b _ _ | .msub d a b _ _ | .mmul d a b _ _ =>
    legalIf true (xMom d && xAny a && xAny b && (xMom a || xMom b))
  | .mfma d a b _ _ => legalIf true (xMom d && xAny a && xAny b)
  | .mscl d a b _ => legalIf true (xMom d && xMom a && xVec b)
  | .msq d a _ | .mrelu d a _ | .msig d a _ | .mexp d a _ | .mtanh d a _ => legalIf true (xMom d && xMom a)
  | .mcolMean d a _ | .mcolHi d a _ | .mcolLo d a _ => legalIf true (xVec d && xMom a)
  | .mcolSmp d a b _ => legalIf true (xVec d && xMom a && xVec b)
  | .mma _ a b m _ | .mmap _ a b m _ | .mmt _ a b m _ => legalIf (m ≠ 3) (mSrc a && mSrc b)
  | .mmas _ a b m _ _ _ => legalIf (m ≠ 3) (mSrc a && mSrc b)
  | .mmm z a b m _ f => legalIf (m ≠ 3)
      (mSrc a && mSrc b && z.toNat % 2 == 0 && a != 1 && a != 3 && (f == 0 || (b != 1 && b != 3)))
  | .trd _ d _ => legalIf true (vDst d)
  | .twr _ a _ => legalIf true (vSrc a && a.toNat != 63)
  | .tcfg m r _ => legalIf (m ≠ 0 && 1 ≤ r.toNat && r.toNat ≤ 64) true
  | .tfree m _ | .tzero m => legalIf (m ≠ 0) true
  | .tcvt _ _ t _ _ => legalIf (t.toNat ≤ 4) true
  | .cpyg _ _ s _ | .cpygOb _ _ s _ | .cpyx _ _ s _ | .coll _ _ s _ => legalIf true (s.toNat < 31)
  | .cadd _ _ s | .caddImm _ _ s _ | .cwait _ _ s | .ctest _ _ s _ | .cread _ _ s | .qapp _ _ s _ =>
    legalIf (s.toNat ≤ 4) true
  | .amoAdd _ _ _ w _ | .amoMin _ _ _ w _ | .amoMax _ _ _ w _ | .amoAnd _ _ _ w _ | .amoOr _ _ _ w _
  | .amoXor _ _ _ w _ | .amoXchg _ _ _ w _ | .amocas _ _ _ w _ => legalIf (2 ≤ w.toNat) true
  | .cbst _ _ f => legalIf (f.toNat ≤ 4) true
  | _ => none

/-- A register that a slot's fields name as a destination (R136). -/
inductive Dest where
  | v (n : Nat) | x (n : Nat) | p (n : Nat) | m (n : Nat) | z (n : Nat) | o (n : Nat) | cr (c : Cr)
  deriving DecidableEq, Repr

/-- Destination x register; x0 is exempt (R136). -/
def dX (n : BitVec 5) : List Dest := if n = 0 then [] else [.x n.toNat]

/-- Destination p register; p0 is exempt (R136). -/
def dP (n : BitVec 3) : List Dest := if n = 0 then [] else [.p n.toNat]

/-- Destination of a V field: only a v code is counted, pushes are not (R136). -/
def dV (c : BitVec 6) : List Dest := if c.toNat < 32 then [.v c.toNat] else []

/-- Destination m register of an X field. -/
def dM (c : BitVec 6) : List Dest := [.m (c.toNat - 32)]

/-- The z registers that a MASK selects. -/
def dMask (m : BitVec 8) : List Dest := ((List.range 8).filter m.getLsbD).map .z

/-- The o registers that an M.A operation with pi = 1 advances (R241). -/
def dO (p : BitVec 1) (a b : BitVec 4) : List Dest :=
  if p = 1 then
    (if 8 ≤ a.toNat then [.o (a.toNat - 8)] else []) ++ (if 8 ≤ b.toNat then [.o (b.toNat - 8)] else [])
  else []

/-- The registers that a slot writes, as R136 counts them; `extra` is the MASK of a REP header for the M slot. -/
def dests : Instr → List Dest
  | .add d _ _ _ | .sub d _ _ _ | .mul d _ _ _ | .andR d _ _ _ | .orR d _ _ _ | .xorR d _ _ _ | .andn d _ _ _
  | .shl d _ _ _ | .shr d _ _ _ | .sra d _ _ _ | .rotl d _ _ _ => dX d
  | .mulh d _ _ _ _ | .div d _ _ _ _ | .rem d _ _ _ _ | .min d _ _ _ _ | .max d _ _ _ _ | .lea d _ _ _ _
  | .sel d _ _ _ _ => dX d
  | .clz d _ _ _ | .ctz d _ _ _ | .popc d _ _ _ | .sext d _ _ _ | .zext d _ _ _ => dX d
  | .cmp n _ _ _ _ => dP n
  | .addi d _ _ | .andi d _ _ | .ori d _ _ | .xori d _ _ | .shli d _ _ | .shri d _ _ | .srai d _ _ => dX d
  | .lih d _ | .jal d _ => dX d
  | .jr d _ _ => dX d
  | .ld d _ _ _ | .ldw d _ _ _ => dX d
  | .ctlr d _ | .rdclk d | .rdid d | .rdstep d | .rdstepNext d => dX d
  | .ctlw _ c => match Cr.ofNumber c.toNat with | some r => [.cr r] | none => []
  | .setfmt _ => [.cr .fmt]
  | .setmom _ => [.cr .mom]
  | .retake d _ | .ctxsv d _ _ _ | .ctxld d _ _ _ | .dstw d _ _ | .scrb d _ _
  | .hibwSetEntry d _ _ | .hibwClearEntry d _ _ | .hibwClearAll d _ _ => dX d
  | .vaddF32 d _ _ _ _ | .vsubF32 d _ _ _ _ | .vmulF32 d _ _ _ _ | .vfmaF32 d _ _ _ _ | .vfmsF32 d _ _ _ _
  | .vminF32 d _ _ _ _ | .vmaxF32 d _ _ _ _ | .vaddI32 d _ _ _ _ | .vsubI32 d _ _ _ _ | .vmulI32 d _ _ _ _
  | .vminI32 d _ _ _ _ | .vmaxI32 d _ _ _ _ | .vminN32 d _ _ _ _ | .vmaxN32 d _ _ _ _ | .vand d _ _ _ _
  | .vor d _ _ _ _ | .vxor d _ _ _ _ | .vshl d _ _ _ _ | .vshr d _ _ _ _ | .vsra d _ _ _ _ | .vsel d _ _ _ _
  | .vperm d _ _ _ _ | .vcvtI32F32 d _ _ _ _ | .vcvtN32F32 d _ _ _ _ | .vcvtF32I32 d _ _ _ _
  | .vcvtF32N32 d _ _ _ _ | .vcvtBf16F32 d _ _ _ _ | .vcvtF32Bf16 d _ _ _ _ | .vcvtE4m3F32 d _ _ _ _
  | .vcvtF32E4m3 d _ _ _ _ | .vcvtE5m2F32 d _ _ _ _ | .vcvtF32E5m2 d _ _ _ _ | .vcvtE2m1F32 d _ _ _ _
  | .vcvtF32E2m1 d _ _ _ _ => dV d
  | .vabsF32 d _ _ _ | .vnegF32 d _ _ _ | .vclass d _ _ _ | .vabsI32 d _ _ _ | .vnegI32 d _ _ _ | .vrcp d _ _ _
  | .vrsqrt d _ _ _ | .vsqrt d _ _ _ | .vexp2 d _ _ _ | .vlog2 d _ _ _ | .vncdf d _ _ _ | .vnpdf d _ _ _
  | .vtanh d _ _ _ | .vnot d _ _ _ | .vpfxF32 d _ _ _ | .vpfxI32 d _ _ _ => dV d
  | .vcmpF32 _ n _ _ _ _ | .vcmpI32 _ n _ _ _ _ | .vcmpN32 _ n _ _ _ _ => dP n
  | .vredF32 d _ x _ _ | .vredI32 d _ x _ _ | .vredN32 d _ x _ _ => dV d ++ dX x
  | .vbcast d _ _ | .vidx d _ | .vbcastImm d _ | .vunpark d _ | .vunparkFree d _ => dV d
  | .vbcastLane d _ _ _ | .vld d _ _ _ | .vldw d _ _ _ => dV d
  | .vmovx _ _ x | .vmovxS _ _ x | .qcnt _ x | .spos _ x => dX x
  | .vmovxToLane d _ _ => dV d
  | .vlds d _ _ _ _ | .vldg d _ _ _ _ => dV d
  | .pand d _ _ _ | .por d _ _ _ | .pxor d _ _ _ | .pnot d _ _ => dP d
  | .pcnt _ x _ _ | .pfirst _ x _ _ => dX x
  | .vshlImm d _ _ | .vshrImm d _ _ | .vsraImm d _ _ => dV d
  | .mldM32 d _ _ _ | .mldMb16 d _ _ _ | .mset d _ _ _ | .mclip d _ _ _ | .mscl d _ _ _ => dM d
  | .mget d _ b _ => dV d ++ dV b
  | .mcorr _ _ => [.v 31]
  | .madd d _ _ _ _ | .msub d _ _ _ _ | .mmul d _ _ _ _ | .mfma d _ _ _ _ => dM d
  | .msq d _ _ | .mrelu d _ _ | .msig d _ _ | .mexp d _ _ | .mtanh d _ _ => dM d
  | .mcolMean d _ _ | .mcolHi d _ _ | .mcolLo d _ _ | .mcolSmp d _ _ _ => dV d
  | .mma z a b _ p | .mmap z a b _ p | .mmt z a b _ p => .z z.toNat :: dO p a b
  | .mmas z a b _ p _ _ => .z z.toNat :: dO p a b
  | .mmm z a b _ p _ => .z z.toNat :: .z (z.toNat + 1) :: dO p a b
  | .trd _ d _ => dV d
  | .twr z _ _ | .tscl z _ => [.z z.toNat]
  | .tcfg m _ _ | .tfree m _ | .tzero m => dMask m
  | .tgen t _ => if 8 ≤ t.toNat then [.z (t.toNat - 8)] else []
  | .tadd d _ _ => [.z d.toNat]
  | .tcvt _ o _ p _ => if p = 1 then [.o o.toNat] else []
  | .ofs o _ _ => [.o o.toNat]
  | .ofsr _ d _ => dX d
  | .ctest _ _ _ n => dP n
  | .cread _ v _ | .qapp _ v _ _ | .cbal _ v _ | .cbst _ v _ => dX v
  | .cbalNb _ v p _ => dX v ++ dP p
  | .amoAdd d _ _ _ _ | .amoMin d _ _ _ _ | .amoMax d _ _ _ _ | .amoAnd d _ _ _ _ | .amoOr d _ _ _ _
  | .amoXor d _ _ _ _ | .amoXchg d _ _ _ _ | .amocas d _ _ _ _ => dX d
  | _ => []

/-- The slot is an M.A operation, which a REP header may repeat (R140). -/
def isMA : Instr → Bool
  | .mma .. | .mmas .. | .mmap .. | .mmt .. | .mmm .. => true
  | _ => false

/-- A firmware-only slot, or a control register access of an F column: PRIV in a context (R137). -/
def firmwareOnly : Instr → Bool
  | .tinv .. | .retake .. | .ctxsv .. | .ctxld .. | .dstw .. | .scrb .. | .pwrwPwrcap .. | .pwrwCurlim ..
  | .hibwSetEntry .. | .hibwClearEntry .. | .hibwClearAll .. => true
  | .ctlr _ c => (Cr.ofNumber c.toNat).any Cr.ctlrF
  | .ctlw _ c => (Cr.ofNumber c.toNat).any Cr.ctlwF
  | _ => false

/-- The bundle of this slot begins a take (spec/03 R37). -/
def beginsTake : Instr → Bool
  | .takeMark | .cwait .. | .ldw .. | .vldw .. | .cbal .. | .spawn .. => true
  | _ => false

/-- The slot may transfer control (spec/13 R170). -/
def isBranch : Instr → Bool
  | .jmp .. | .jal .. | .jr .. | .br .. | .brcEq .. | .brcNe .. | .brcLt .. | .brcGe .. | .brcLtu .. | .brcGeu .. => true
  | _ => false

/-- The class and opcode of a slot word need a feature bit of FEAT that `feat` does not hold (spec/31 R386). -/
def featureAbsent (feat : W64) (w : W32) : Bool :=
  let cls := field w 31 29
  let opc := field w 28 22
  (cls == 5 && !feat.getLsbD 0) ||
  (cls == 2 && ((opc == 4 && !feat.getLsbD 0) || (opc == 1 && !feat.getLsbD 7))) ||
  (cls == 3 && ((opc == 5 && !feat.getLsbD 7) || (opc == 0x18 && !feat.getLsbD 10) ||
    (0x20 ≤ opc && opc ≤ 0x24 && !feat.getLsbD 1)))

end Sys2Proof
end

