-- ==== Sys2Proof/WellFormed.lean ====
section
/-! DEFINITION. A well-formed instruction: one that meets no ILLEGAL condition of spec/11 R135. -/

namespace Sys2Proof

/-- The instruction meets every range and operand rule (spec/11 R135, R150-R153). -/
def Instr.wf (i : Instr) : Bool := (illegal i).isNone

end Sys2Proof
end

