-- ==== Sys2Proof/Decode.lean ====
section
/-! DEFINITION. The decoder of one 32-bit slot and the encoder, from the encoding tables of spec/11 (R132, R138-R141,
R150-R154) and of the instruction chapters. A slot is read together with the byte that an EXT header of its bundle gives
it, if there is one (R139). -/

namespace Sys2Proof

/-- The `n` bits of a word from bit `lo` upwards. -/
def bits {n : Nat} (w : W32) (lo : Nat) : BitVec n := w.extractLsb' lo n

/-- Accepts the slot when each listed field (high bit, low bit) is zero; a nonzero reserved field is RESFIELD (R135). -/
def zeros (w : W32) (fs : List (Nat × Nat)) (i : Instr) : Except Ill Instr :=
  if fs.all fun f => field w f.1 f.2 == 0 then .ok i else .error .resField

/-- A format with an extendable field whose instruction takes no extended bits: a nonzero byte is RESFIELD (R162). -/
def noExt (e : Option Byte) (r : Except Ill Instr) : Except Ill Instr :=
  match e with
  | none => r
  | some b => if b = 0 then r else .error .resField

/-- Class S (spec/11 R154; fields of spec/13). -/
def decodeS (w : W32) (e : Option Byte) : Except Ill Instr :=
  match field w 28 22 with
  | 0x00 => zeros w [(3, 0)] (.add (bits w 17) (bits w 12) (bits w 7) (bits w 4))
  | 0x01 => zeros w [(3, 0)] (.sub (bits w 17) (bits w 12) (bits w 7) (bits w 4))
  | 0x02 => zeros w [(3, 0)] (.mul (bits w 17) (bits w 12) (bits w 7) (bits w 4))
  | 0x03 => .ok (.mulh (bits w 17) (bits w 12) (bits w 7) (bits w 4) (bits w 0))
  | 0x04 => .ok (.div (bits w 17) (bits w 12) (bits w 7) (bits w 4) (bits w 0))
  | 0x05 => .ok (.rem (bits w 17) (bits w 12) (bits w 7) (bits w 4) (bits w 0))
  | 0x06 => zeros w [(3, 0)] (.andR (bits w 17) (bits w 12) (bits w 7) (bits w 4))
  | 0x07 => zeros w [(3, 0)] (.orR (bits w 17) (bits w 12) (bits w 7) (bits w 4))
  | 0x08 => zeros w [(3, 0)] (.xorR (bits w 17) (bits w 12) (bits w 7) (bits w 4))
  | 0x09 => zeros w [(3, 0)] (.andn (bits w 17) (bits w 12) (bits w 7) (bits w 4))
  | 0x0A => zeros w [(3, 0)] (.shl (bits w 17) (bits w 12) (bits w 7) (bits w 4))
  | 0x0B => zeros w [(3, 0)] (.shr (bits w 17) (bits w 12) (bits w 7) (bits w 4))
  | 0x0C => zeros w [(3, 0)] (.sra (bits w 17) (bits w 12) (bits w 7) (bits w 4))
  | 0x0D => zeros w [(3, 0)] (.rotl (bits w 17) (bits w 12) (bits w 7) (bits w 4))
  | 0x0E => .ok (.min (bits w 17) (bits w 12) (bits w 7) (bits w 4) (bits w 0))
  | 0x0F => .ok (.max (bits w 17) (bits w 12) (bits w 7) (bits w 4) (bits w 0))
  | 0x10 => zeros w [(11, 7)] (.clz (bits w 17) (bits w 12) (bits w 4) (bits w 0))
  | 0x11 => zeros w [(11, 7)] (.ctz (bits w 17) (bits w 12) (bits w 4) (bits w 0))
  | 0x12 => zeros w [(11, 7)] (.popc (bits w 17) (bits w 12) (bits w 4) (bits w 0))
  | 0x13 => zeros w [(11, 7)] (.sext (bits w 17) (bits w 12) (bits w 4) (bits w 0))
  | 0x14 => zeros w [(11, 7)] (.zext (bits w 17) (bits w 12) (bits w 4) (bits w 0))
  | 0x15 => .ok (.lea (bits w 17) (bits w 12) (bits w 7) (bits w 4) (bits w 0))
  | 0x16 => zeros w [(21, 20)] (.cmp (bits w 17) (bits w 12) (bits w 7) (bits w 4) (bits w 0))
  | 0x17 => zeros w [(3, 3)] (.sel (bits w 17) (bits w 12) (bits w 7) (bits w 4) (bits w 0))
  | 0x20 => .ok (.addi (bits w 17) (bits w 12) ⟨bits w 0, e⟩)
  | 0x21 => .ok (.andi (bits w 17) (bits w 12) ⟨bits w 0, e⟩)
  | 0x22 => .ok (.ori (bits w 17) (bits w 12) ⟨bits w 0, e⟩)
  | 0x23 => .ok (.xori (bits w 17) (bits w 12) ⟨bits w 0, e⟩)
  | 0x24 => noExt e (zeros w [(11, 6)] (.shli (bits w 17) (bits w 12) (bits w 0)))
  | 0x25 => noExt e (zeros w [(11, 6)] (.shri (bits w 17) (bits w 12) (bits w 0)))
  | 0x26 => noExt e (zeros w [(11, 6)] (.srai (bits w 17) (bits w 12) (bits w 0)))
  | 0x27 => .ok (.lih (bits w 17) ⟨bits w 0, e⟩)
  | 0x30 => zeros w [(21, 17)] (.jmp ⟨bits w 0, e⟩)
  | 0x31 => .ok (.jal (bits w 17) ⟨bits w 0, e⟩)
  | 0x32 => zeros w [(11, 7), (3, 0)] (.jr (bits w 17) (bits w 12) (bits w 4))
  | 0x33 => .ok (.br (bits w 19) (bits w 18) ⟨bits w 0, e⟩)
  | 0x34 => .ok (.brcEq (bits w 17) (bits w 12) ⟨bits w 0, e⟩)
  | 0x35 => .ok (.brcNe (bits w 17) (bits w 12) ⟨bits w 0, e⟩)
  | 0x36 => .ok (.brcLt (bits w 17) (bits w 12) ⟨bits w 0, e⟩)
  | 0x37 => .ok (.brcGe (bits w 17) (bits w 12) ⟨bits w 0, e⟩)
  | 0x38 => .ok (.brcLtu (bits w 17) (bits w 12) ⟨bits w 0, e⟩)
  | 0x39 => .ok (.brcGeu (bits w 17) (bits w 12) ⟨bits w 0, e⟩)
  | 0x40 => zeros w [(21, 0)] .takeMark
  | 0x41 => zeros w [(21, 17), (6, 0)] (.spawn (bits w 12) (bits w 7))
  | 0x42 => zeros w [(21, 0)] .doneShot
  | 0x43 => zeros w [(21, 17)] (.trapUser (bits w 12) ⟨bits w 0, e⟩)
  | 0x48 => .ok (.ld (bits w 17) (bits w 12) (bits w 3) (bits w 0))
  | 0x49 => zeros w [(2, 2)] (.st (bits w 17) (bits w 12) (bits w 3) (bits w 0))
  | 0x4A => .ok (.ldw (bits w 17) (bits w 12) (bits w 3) (bits w 0))
  | 0x4B => zeros w [(2, 2)] (.stf (bits w 17) (bits w 12) (bits w 3) (bits w 0))
  | 0x4C => zeros w [(2, 0)] (.pclr (bits w 17) (bits w 12) (bits w 3))
  | 0x50 => zeros w [(16, 12)] (.ctlr (bits w 17) (bits w 0))
  | 0x51 => zeros w [(21, 17)] (.ctlw (bits w 12) (bits w 0))
  | 0x52 => zeros w [(21, 17), (11, 0)] (.setfmt (bits w 12))
  | 0x53 => zeros w [(21, 17), (11, 0)] (.setmom (bits w 12))
  | 0x54 => noExt e (zeros w [(21, 7)] (.fence (bits w 3) (bits w 0)))
  | 0x55 => noExt e (zeros w [(21, 16)] (.wait (bits w 12) (bits w 8) (bits w 4) (bits w 0)))
  | 0x56 => zeros w [(16, 0)] (.rdclk (bits w 17))
  | 0x57 => zeros w [(16, 0)] (.rdid (bits w 17))
  | 0x58 =>
    match field w 3 0 with
    | 0 => zeros w [(16, 4)] (.rdstep (bits w 17))
    | 1 => zeros w [(16, 4)] (.rdstepNext (bits w 17))
    | _ => .error .resField
  | 0x70 => zeros w [(21, 17), (6, 0)] (.tinv (bits w 12) (bits w 7))
  | 0x71 => zeros w [(11, 0)] (.retake (bits w 17) (bits w 12))
  | 0x72 => zeros w [(6, 4)] (.ctxsv (bits w 17) (bits w 12) (bits w 7) (bits w 0))
  | 0x73 => zeros w [(6, 4)] (.ctxld (bits w 17) (bits w 12) (bits w 7) (bits w 0))
  | 0x74 => zeros w [(6, 0)] (.dstw (bits w 17) (bits w 12) (bits w 7))
  | 0x75 => zeros w [(6, 0)] (.scrb (bits w 17) (bits w 12) (bits w 7))
  | 0x76 =>
    match field w 3 0 with
    | 0 => zeros w [(21, 17), (6, 4)] (.pwrwPwrcap (bits w 12) (bits w 7))
    | 1 => zeros w [(21, 17), (6, 4)] (.pwrwCurlim (bits w 12) (bits w 7))
    | _ => .error .resField
  | 0x77 => zeros w [(6, 0)] (.hibwSetEntry (bits w 17) (bits w 12) (bits w 7))
  | _ => .error .resOpc

/-- Class V (spec/11 R154; fields of spec/15). -/
def decodeV (w : W32) (e : Option Byte) : Except Ill Instr :=
  match field w 28 22 with
  | 0x00 => .ok (.vaddF32 (bits w 16) (bits w 10) (bits w 4) (bits w 1) (bits w 0))
  | 0x01 => .ok (.vsubF32 (bits w 16) (bits w 10) (bits w 4) (bits w 1) (bits w 0))
  | 0x02 => .ok (.vmulF32 (bits w 16) (bits w 10) (bits w 4) (bits w 1) (bits w 0))
  | 0x03 => .ok (.vfmaF32 (bits w 16) (bits w 10) (bits w 4) (bits w 1) (bits w 0))
  | 0x04 => .ok (.vfmsF32 (bits w 16) (bits w 10) (bits w 4) (bits w 1) (bits w 0))
  | 0x05 => .ok (.vminF32 (bits w 16) (bits w 10) (bits w 4) (bits w 1) (bits w 0))
  | 0x06 => .ok (.vmaxF32 (bits w 16) (bits w 10) (bits w 4) (bits w 1) (bits w 0))
  | 0x07 => zeros w [(9, 4)] (.vabsF32 (bits w 16) (bits w 10) (bits w 1) (bits w 0))
  | 0x08 => zeros w [(9, 4)] (.vnegF32 (bits w 16) (bits w 10) (bits w 1) (bits w 0))
  | 0x09 => zeros w [(9, 4)] (.vclass (bits w 16) (bits w 10) (bits w 1) (bits w 0))
  | 0x10 => .ok (.vaddI32 (bits w 16) (bits w 10) (bits w 4) (bits w 1) (bits w 0))
  | 0x11 => .ok (.vsubI32 (bits w 16) (bits w 10) (bits w 4) (bits w 1) (bits w 0))
  | 0x12 => .ok (.vmulI32 (bits w 16) (bits w 10) (bits w 4) (bits w 1) (bits w 0))
  | 0x13 => .ok (.vminI32 (bits w 16) (bits w 10) (bits w 4) (bits w 1) (bits w 0))
  | 0x14 => .ok (.vmaxI32 (bits w 16) (bits w 10) (bits w 4) (bits w 1) (bits w 0))
  | 0x15 => .ok (.vminN32 (bits w 16) (bits w 10) (bits w 4) (bits w 1) (bits w 0))
  | 0x16 => .ok (.vmaxN32 (bits w 16) (bits w 10) (bits w 4) (bits w 1) (bits w 0))
  | 0x17 => zeros w [(9, 4)] (.vabsI32 (bits w 16) (bits w 10) (bits w 1) (bits w 0))
  | 0x18 => zeros w [(9, 4)] (.vnegI32 (bits w 16) (bits w 10) (bits w 1) (bits w 0))
  | 0x20 => zeros w [(9, 4)] (.vrcp (bits w 16) (bits w 10) (bits w 1) (bits w 0))
  | 0x21 => zeros w [(9, 4)] (.vrsqrt (bits w 16) (bits w 10) (bits w 1) (bits w 0))
  | 0x22 => zeros w [(9, 4)] (.vsqrt (bits w 16) (bits w 10) (bits w 1) (bits w 0))
  | 0x23 => zeros w [(9, 4)] (.vexp2 (bits w 16) (bits w 10) (bits w 1) (bits w 0))
  | 0x24 => zeros w [(9, 4)] (.vlog2 (bits w 16) (bits w 10) (bits w 1) (bits w 0))
  | 0x25 => zeros w [(9, 4)] (.vncdf (bits w 16) (bits w 10) (bits w 1) (bits w 0))
  | 0x26 => zeros w [(9, 4)] (.vnpdf (bits w 16) (bits w 10) (bits w 1) (bits w 0))
  | 0x27 => zeros w [(9, 4)] (.vtanh (bits w 16) (bits w 10) (bits w 1) (bits w 0))
  | 0x28 => .ok (.vand (bits w 16) (bits w 10) (bits w 4) (bits w 1) (bits w 0))
  | 0x29 => .ok (.vor (bits w 16) (bits w 10) (bits w 4) (bits w 1) (bits w 0))
  | 0x2A => .ok (.vxor (bits w 16) (bits w 10) (bits w 4) (bits w 1) (bits w 0))
  | 0x2B => zeros w [(9, 4)] (.vnot (bits w 16) (bits w 10) (bits w 1) (bits w 0))
  | 0x2C => .ok (.vshl (bits w 16) (bits w 10) (bits w 4) (bits w 1) (bits w 0))
  | 0x2D => .ok (.vshr (bits w 16) (bits w 10) (bits w 4) (bits w 1) (bits w 0))
  | 0x2E => .ok (.vsra (bits w 16) (bits w 10) (bits w 4) (bits w 1) (bits w 0))
  | 0x30 => .ok (.vcmpF32 (bits w 19) (bits w 16) (bits w 10) (bits w 4) (bits w 1) (bits w 0))
  | 0x31 => .ok (.vcmpI32 (bits w 19) (bits w 16) (bits w 10) (bits w 4) (bits w 1) (bits w 0))
  | 0x32 => .ok (.vcmpN32 (bits w 19) (bits w 16) (bits w 10) (bits w 4) (bits w 1) (bits w 0))
  | 0x33 => .ok (.vsel (bits w 16) (bits w 10) (bits w 4) (bits w 1) (bits w 0))
  | 0x34 => zeros w [(9, 4)] (.vpfxF32 (bits w 16) (bits w 10) (bits w 1) (bits w 0))
  | 0x35 => zeros w [(9, 4)] (.vpfxI32 (bits w 16) (bits w 10) (bits w 1) (bits w 0))
  | 0x36 => .ok (.vredF32 (bits w 16) (bits w 10) (bits w 5) (bits w 2) (bits w 0))
  | 0x37 => .ok (.vredI32 (bits w 16) (bits w 10) (bits w 5) (bits w 2) (bits w 0))
  | 0x38 => .ok (.vredN32 (bits w 16) (bits w 10) (bits w 5) (bits w 2) (bits w 0))
  | 0x39 => .ok (.vperm (bits w 16) (bits w 10) (bits w 4) (bits w 1) (bits w 0))
  | 0x3A =>
    match field w 1 0 with
    | 0 => zeros w [(15, 10)] (.vbcast (bits w 16) (bits w 5) (bits w 2))
    | 1 => .ok (.vbcastLane (bits w 16) (bits w 10) (bits w 5) (bits w 2))
    | _ => .error .resField
  | 0x3B =>
    match field w 1 0 with
    | 0 => zeros w [(4, 2)] (.vmovx (bits w 16) (bits w 10) (bits w 5))
    | 1 => zeros w [(4, 2)] (.vmovxS (bits w 16) (bits w 10) (bits w 5))
    | 2 => zeros w [(4, 2)] (.vmovxToLane (bits w 16) (bits w 10) (bits w 5))
    | _ => .error .resField
  | 0x3C => zeros w [(15, 4), (0, 0)] (.vidx (bits w 16) (bits w 1))
  | 0x40 => .ok (.vcvtI32F32 (bits w 16) (bits w 10) (bits w 4) (bits w 1) (bits w 0))
  | 0x41 => .ok (.vcvtN32F32 (bits w 16) (bits w 10) (bits w 4) (bits w 1) (bits w 0))
  | 0x42 => .ok (.vcvtF32I32 (bits w 16) (bits w 10) (bits w 4) (bits w 1) (bits w 0))
  | 0x43 => .ok (.vcvtF32N32 (bits w 16) (bits w 10) (bits w 4) (bits w 1) (bits w 0))
  | 0x44 => .ok (.vcvtBf16F32 (bits w 16) (bits w 10) (bits w 4) (bits w 1) (bits w 0))
  | 0x45 => .ok (.vcvtF32Bf16 (bits w 16) (bits w 10) (bits w 4) (bits w 1) (bits w 0))
  | 0x46 => .ok (.vcvtE4m3F32 (bits w 16) (bits w 10) (bits w 4) (bits w 1) (bits w 0))
  | 0x47 => .ok (.vcvtF32E4m3 (bits w 16) (bits w 10) (bits w 4) (bits w 1) (bits w 0))
  | 0x48 => .ok (.vcvtE5m2F32 (bits w 16) (bits w 10) (bits w 4) (bits w 1) (bits w 0))
  | 0x49 => .ok (.vcvtF32E5m2 (bits w 16) (bits w 10) (bits w 4) (bits w 1) (bits w 0))
  | 0x4A => .ok (.vcvtE2m1F32 (bits w 16) (bits w 10) (bits w 4) (bits w 1) (bits w 0))
  | 0x4B => .ok (.vcvtF32E2m1 (bits w 16) (bits w 10) (bits w 4) (bits w 1) (bits w 0))
  | 0x50 => zeros w [(0, 0)] (.vld (bits w 16) (bits w 11) (bits w 4) (bits w 1))
  | 0x51 => zeros w [(0, 0)] (.vst (bits w 16) (bits w 11) (bits w 4) (bits w 1))
  | 0x52 => zeros w [(3, 1)] (.vldw (bits w 16) (bits w 11) (bits w 4) (bits w 0))
  | 0x53 => zeros w [(3, 0)] (.vstf (bits w 16) (bits w 11) (bits w 4))
  | 0x54 => zeros w [(15, 15)] (.vlds (bits w 16) (bits w 10) (bits w 5) (bits w 2) (bits w 0))
  | 0x55 => .ok (.vldg (bits w 16) (bits w 10) (bits w 5) (bits w 2) (bits w 0))
  | 0x56 => .ok (.vsts (bits w 16) (bits w 10) (bits w 5) (bits w 2) (bits w 0))
  | 0x58 => zeros w [(21, 19), (15, 13), (9, 7), (0, 0)] (.pand (bits w 16) (bits w 10) (bits w 4) (bits w 1))
  | 0x59 => zeros w [(21, 19), (15, 13), (9, 7), (0, 0)] (.por (bits w 16) (bits w 10) (bits w 4) (bits w 1))
  | 0x5A => zeros w [(21, 19), (15, 13), (9, 7), (0, 0)] (.pxor (bits w 16) (bits w 10) (bits w 4) (bits w 1))
  | 0x5B => zeros w [(21, 19), (15, 13), (9, 4), (0, 0)] (.pnot (bits w 16) (bits w 10) (bits w 1))
  | 0x5C => zeros w [(21, 13)] (.pcnt (bits w 10) (bits w 5) (bits w 2) (bits w 0))
  | 0x5D => zeros w [(21, 13)] (.pfirst (bits w 10) (bits w 5) (bits w 2) (bits w 0))
  | 0x60 => zeros w [(21, 14), (4, 0)] (.qcnt (bits w 10) (bits w 5))
  | 0x61 => zeros w [(21, 20), (15, 0)] (.qclr (bits w 16))
  | 0x62 => zeros w [(21, 20), (15, 14), (9, 0)] (.qbind (bits w 16) (bits w 10))
  | 0x63 => zeros w [(21, 20), (15, 0)] (.qunbind (bits w 16))
  | 0x64 => zeros w [(21, 20), (15, 10), (4, 0)] (.sbind (bits w 16) (bits w 5))
  | 0x65 => zeros w [(21, 14), (4, 0)] (.spos (bits w 10) (bits w 5))
  | 0x66 => zeros w [(21, 16), (4, 0)] (.vpark (bits w 10) (bits w 5))
  | 0x67 =>
    match field w 1 0 with
    | 0 => zeros w [(15, 10), (4, 2)] (.vunpark (bits w 16) (bits w 5))
    | 1 => zeros w [(15, 10), (4, 2)] (.vunparkFree (bits w 16) (bits w 5))
    | _ => .error .resField
  | 0x68 => noExt e (zeros w [(9, 5)] (.vshlImm (bits w 16) (bits w 10) (bits w 0)))
  | 0x69 => noExt e (zeros w [(9, 5)] (.vshrImm (bits w 16) (bits w 10) (bits w 0)))
  | 0x6A => noExt e (zeros w [(9, 5)] (.vsraImm (bits w 16) (bits w 10) (bits w 0)))
  | 0x6B => zeros w [(15, 10)] (.vbcastImm (bits w 16) ⟨bits w 0, e⟩)
  | _ => .error .resOpc

/-- Class X (spec/11 R154; fields of spec/19). -/
def decodeX (w : W32) : Except Ill Instr :=
  match field w 28 22 with
  | 0x00 => zeros w [(0, 0)] (.mldM32 (bits w 16) (bits w 11) (bits w 4) (bits w 1))
  | 0x01 => zeros w [(0, 0)] (.mldMb16 (bits w 16) (bits w 11) (bits w 4) (bits w 1))
  | 0x02 => zeros w [(0, 0)] (.mstM32 (bits w 16) (bits w 11) (bits w 4) (bits w 1))
  | 0x03 => zeros w [(0, 0)] (.mstMb16 (bits w 16) (bits w 11) (bits w 4) (bits w 1))
  | 0x04 => zeros w [(0, 0)] (.mset (bits w 16) (bits w 10) (bits w 4) (bits w 1))
  | 0x05 => zeros w [(0, 0)] (.mget (bits w 16) (bits w 10) (bits w 4) (bits w 1))
  | 0x06 => zeros w [(21, 16), (9, 4), (0, 0)] (.mcorr (bits w 10) (bits w 1))
  | 0x07 => zeros w [(1, 0)] (.mclip (bits w 16) (bits w 10) (bits w 5) (bits w 2))
  | 0x08 => .ok (.madd (bits w 16) (bits w 10) (bits w 4) (bits w 1) (bits w 0))
  | 0x09 => .ok (.msub (bits w 16) (bits w 10) (bits w 4) (bits w 1) (bits w 0))
  | 0x0A => .ok (.mmul (bits w 16) (bits w 10) (bits w 4) (bits w 1) (bits w 0))
  | 0x0B => .ok (.mfma (bits w 16) (bits w 10) (bits w 4) (bits w 1) (bits w 0))
  | 0x0C => zeros w [(0, 0)] (.mscl (bits w 16) (bits w 10) (bits w 4) (bits w 1))
  | 0x10 => zeros w [(9, 4), (0, 0)] (.msq (bits w 16) (bits w 10) (bits w 1))
  | 0x11 => zeros w [(9, 4), (0, 0)] (.mrelu (bits w 16) (bits w 10) (bits w 1))
  | 0x12 => zeros w [(9, 4), (0, 0)] (.msig (bits w 16) (bits w 10) (bits w 1))
  | 0x13 => zeros w [(9, 4), (0, 0)] (.mexp (bits w 16) (bits w 10) (bits w 1))
  | 0x14 => zeros w [(9, 4), (0, 0)] (.mtanh (bits w 16) (bits w 10) (bits w 1))
  | 0x18 => zeros w [(9, 4), (0, 0)] (.mcolMean (bits w 16) (bits w 10) (bits w 1))
  | 0x19 => zeros w [(9, 4), (0, 0)] (.mcolHi (bits w 16) (bits w 10) (bits w 1))
  | 0x1A => zeros w [(9, 4), (0, 0)] (.mcolLo (bits w 16) (bits w 10) (bits w 1))
  | 0x1B => zeros w [(0, 0)] (.mcolSmp (bits w 16) (bits w 10) (bits w 4) (bits w 1))
  | _ => .error .resOpc

/-- Class M (spec/11 R154; fields of spec/17). -/
def decodeM (w : W32) : Except Ill Instr :=
  match field w 28 22 with
  | 0x00 => zeros w [(7, 0)] (.mma (bits w 19) (bits w 15) (bits w 11) (bits w 9) (bits w 8))
  | 0x01 => zeros w [(1, 1)] (.mmas (bits w 19) (bits w 15) (bits w 11) (bits w 9) (bits w 8) (bits w 2) (bits w 0))
  | 0x02 => zeros w [(7, 0)] (.mmap (bits w 19) (bits w 15) (bits w 11) (bits w 9) (bits w 8))
  | 0x03 => zeros w [(7, 0)] (.mmt (bits w 19) (bits w 15) (bits w 11) (bits w 9) (bits w 8))
  | 0x04 => zeros w [(7, 1)] (.mmm (bits w 19) (bits w 15) (bits w 11) (bits w 9) (bits w 8) (bits w 0))
  | 0x08 => zeros w [(6, 0)] (.trd (bits w 19) (bits w 13) (bits w 7))
  | 0x09 => zeros w [(6, 0)] (.twr (bits w 19) (bits w 13) (bits w 7))
  | 0x10 => zeros w [(5, 0)] (.tcfg (bits w 14) (bits w 7) (bits w 6))
  | 0x11 => zeros w [(13, 7), (5, 0)] (.tfree (bits w 14) (bits w 6))
  | 0x12 => zeros w [(13, 0)] (.tzero (bits w 14))
  | 0x13 => zeros w [(15, 0)] (.tgen (bits w 18) (bits w 16))
  | 0x14 => zeros w [(14, 0)] (.tadd (bits w 19) (bits w 16) (bits w 15))
  | 0x15 => zeros w [(13, 0)] (.tscl (bits w 19) (bits w 14))
  | 0x16 => zeros w [(8, 0)] (.tcvt (bits w 19) (bits w 16) (bits w 13) (bits w 12) (bits w 9))
  | 0x18 => zeros w [(8, 0)] (.ofs (bits w 19) (bits w 14) (bits w 9))
  | 0x19 => zeros w [(12, 0)] (.ofsr (bits w 19) (bits w 14) (bits w 13))
  | _ => .error .resOpc

/-- Class C (spec/11 R154; fields of spec/21). -/
def decodeC (w : W32) : Except Ill Instr :=
  match field w 28 22 with
  | 0x00 => zeros w [(16, 12), (6, 0)] (.cdesc (bits w 17) (bits w 7))
  | 0x01 => zeros w [(1, 0)] (.cpy (bits w 17) (bits w 12) (bits w 7) (bits w 2))
  | 0x02 =>
    match field w 1 0 with
    | 0 => .ok (.cpyg (bits w 17) (bits w 12) (bits w 7) (bits w 2))
    | 1 => .ok (.cpygOb (bits w 17) (bits w 12) (bits w 7) (bits w 2))
    | _ => .error .resField
  | 0x03 => zeros w [(1, 0)] (.cpyx (bits w 17) (bits w 12) (bits w 7) (bits w 2))
  | 0x04 => zeros w [(1, 0)] (.cpyb (bits w 17) (bits w 12) (bits w 7) (bits w 2))
  | 0x05 => if field w 1 0 = 2 then .ok (.cpys (bits w 17) (bits w 12) (bits w 7) (bits w 2)) else .error .resField
  | 0x06 => if field w 1 0 = 1 then .ok (.cpyo (bits w 17) (bits w 12) (bits w 7) (bits w 2)) else .error .resField
  | 0x07 => zeros w [(1, 0)] (.pfill (bits w 17) (bits w 12) (bits w 7) (bits w 2))
  | 0x08 =>
    match field w 8 8 with
    | 0 => zeros w [(7, 0)] (.cadd (bits w 17) (bits w 12) (bits w 9))
    | _ => .ok (.caddImm (bits w 17) (bits w 12) (bits w 9) (bits w 0))
  | 0x09 => zeros w [(8, 0)] (.cwait (bits w 17) (bits w 12) (bits w 9))
  | 0x0A => zeros w [(8, 3)] (.ctest (bits w 17) (bits w 12) (bits w 9) (bits w 0))
  | 0x0B => zeros w [(8, 0)] (.cread (bits w 17) (bits w 12) (bits w 9))
  | 0x10 =>
    match field w 6 4 with
    | 0 => .ok (.amoAdd (bits w 17) (bits w 12) (bits w 7) (bits w 2) (bits w 0))
    | 1 => .ok (.amoMin (bits w 17) (bits w 12) (bits w 7) (bits w 2) (bits w 0))
    | 2 => .ok (.amoMax (bits w 17) (bits w 12) (bits w 7) (bits w 2) (bits w 0))
    | 3 => .ok (.amoAnd (bits w 17) (bits w 12) (bits w 7) (bits w 2) (bits w 0))
    | 4 => .ok (.amoOr (bits w 17) (bits w 12) (bits w 7) (bits w 2) (bits w 0))
    | 5 => .ok (.amoXor (bits w 17) (bits w 12) (bits w 7) (bits w 2) (bits w 0))
    | 6 => .ok (.amoXchg (bits w 17) (bits w 12) (bits w 7) (bits w 2) (bits w 0))
    | _ => .error .resField
  | 0x11 => zeros w [(6, 4)] (.amocas (bits w 17) (bits w 12) (bits w 7) (bits w 2) (bits w 0))
  | 0x18 => zeros w [(1, 0)] (.coll (bits w 17) (bits w 12) (bits w 7) (bits w 2))
  | 0x19 => zeros w [(8, 5)] (.qapp (bits w 17) (bits w 12) (bits w 9) (bits w 0))
  | 0x20 => if field w 1 0 = 3 then zeros w [(21, 17)] (.cbcfg (bits w 12) (bits w 7) (bits w 2)) else .error .resField
  | 0x21 =>
    match field w 8 8 with
    | 0 => zeros w [(11, 9), (7, 5)] (.cbal (bits w 17) (bits w 12) (bits w 0))
    | _ => zeros w [(11, 9)] (.cbalNb (bits w 17) (bits w 12) (bits w 5) (bits w 0))
  | 0x22 => if field w 1 0 = 3 then .ok (.cbput (bits w 17) (bits w 12) (bits w 7) (bits w 2)) else .error .resField
  | 0x23 => zeros w [(11, 9)] (.cbst (bits w 17) (bits w 12) (bits w 0))
  | 0x24 => zeros w [(11, 0)] (.cbdrop (bits w 17) (bits w 12))
  | _ => .error .resOpc

/-- The header slot (R138-R141). -/
def decodeH (w : W32) : Except Ill Instr :=
  match field w 27 26 with
  | 0 => if field w 25 24 = 0 then .ok (.ext (bits w 28) (bits w 16) (bits w 8) (bits w 0)) else .error .header
  | 1 => zeros w [(1, 0)] (.rep (bits w 28) (bits w 10) (bits w 2))
  | 2 => zeros w [(14, 0)] (.loop (bits w 28) (bits w 20) (bits w 15))
  | _ => .error .header

/-- The slot word `w` with its extension byte: an instruction, or the ILLEGAL detail (R132, R135, R154). Field ranges and
operand codes are the business of `illegal`. -/
def decodeSlot (w : W32) (e : Option Byte) : Except Ill Instr :=
  match field w 31 29 with
  | 0 => decodeS w e
  | 1 => decodeV w e
  | 2 => decodeM w
  | 3 => decodeC w
  | 4 => decodeH w
  | 5 => decodeX w
  | 6 => .error .resClass
  | _ => if w = 0xFFFFFFFF then .ok .nop else .error .resClass

/-- The format of the slot has an extendable field (R139): S.I, S.L, S.B and V.I. -/
def extendable (w : W32) : Bool :=
  let opc := field w 28 22
  match field w 31 29 with
  | 0 => (0x20 ≤ opc && opc ≤ 0x27) || opc == 0x30 || opc == 0x31 || (0x33 ≤ opc && opc ≤ 0x39) || opc == 0x43 ||
      opc == 0x54 || opc == 0x55
  | 1 => 0x68 ≤ opc && opc ≤ 0x6B
  | _ => false

/-- A well-formed instruction's slot, or the ILLEGAL detail it raises at dispatch (R135). -/
def decodeLegal (w : W32) (e : Option Byte) : Except Ill Instr :=
  match decodeSlot w e with
  | .error d => .error d
  | .ok i => match illegal i with | some d => .error d | none => .ok i

/-- A word from its fixed bits and its fields, each a value and the bit it starts at. -/
def word (fixed : Nat) (fs : List (Nat × Nat)) : W32 :=
  BitVec.ofNat 32 (fs.foldr (fun f acc => f.1 * 2 ^ f.2 + acc) fixed)

/-- The slot word of an instruction; an event has none. -/
def encode : Instr → Option W32
  | .ext s c b a => some (word 0x80000000 [(s.toNat, 28), (c.toNat, 16), (b.toNat, 8), (a.toNat, 0)])
  | .rep s n m => some (word 0x84000000 [(s.toNat, 28), (n.toNat, 10), (m.toNat, 2)])
  | .loop s l t => some (word 0x88000000 [(s.toNat, 28), (l.toNat, 20), (t.toNat, 15)])
  | .nop => some (word 0xFFFFFFFF [])
  | .add d a b g => some (word 0x00000000 [(d.toNat, 17), (a.toNat, 12), (b.toNat, 7), (g.toNat, 4)])
  | .sub d a b g => some (word 0x00400000 [(d.toNat, 17), (a.toNat, 12), (b.toNat, 7), (g.toNat, 4)])
  | .mul d a b g => some (word 0x00800000 [(d.toNat, 17), (a.toNat, 12), (b.toNat, 7), (g.toNat, 4)])
  | .mulh d a b g f => some (word 0x00C00000 [(d.toNat, 17), (a.toNat, 12), (b.toNat, 7), (g.toNat, 4), (f.toNat, 0)])
  | .div d a b g f => some (word 0x01000000 [(d.toNat, 17), (a.toNat, 12), (b.toNat, 7), (g.toNat, 4), (f.toNat, 0)])
  | .rem d a b g f => some (word 0x01400000 [(d.toNat, 17), (a.toNat, 12), (b.toNat, 7), (g.toNat, 4), (f.toNat, 0)])
  | .andR d a b g => some (word 0x01800000 [(d.toNat, 17), (a.toNat, 12), (b.toNat, 7), (g.toNat, 4)])
  | .orR d a b g => some (word 0x01C00000 [(d.toNat, 17), (a.toNat, 12), (b.toNat, 7), (g.toNat, 4)])
  | .xorR d a b g => some (word 0x02000000 [(d.toNat, 17), (a.toNat, 12), (b.toNat, 7), (g.toNat, 4)])
  | .andn d a b g => some (word 0x02400000 [(d.toNat, 17), (a.toNat, 12), (b.toNat, 7), (g.toNat, 4)])
  | .shl d a b g => some (word 0x02800000 [(d.toNat, 17), (a.toNat, 12), (b.toNat, 7), (g.toNat, 4)])
  | .shr d a b g => some (word 0x02C00000 [(d.toNat, 17), (a.toNat, 12), (b.toNat, 7), (g.toNat, 4)])
  | .sra d a b g => some (word 0x03000000 [(d.toNat, 17), (a.toNat, 12), (b.toNat, 7), (g.toNat, 4)])
  | .rotl d a b g => some (word 0x03400000 [(d.toNat, 17), (a.toNat, 12), (b.toNat, 7), (g.toNat, 4)])
  | .min d a b g f => some (word 0x03800000 [(d.toNat, 17), (a.toNat, 12), (b.toNat, 7), (g.toNat, 4), (f.toNat, 0)])
  | .max d a b g f => some (word 0x03C00000 [(d.toNat, 17), (a.toNat, 12), (b.toNat, 7), (g.toNat, 4), (f.toNat, 0)])
  | .clz d a g f => some (word 0x04000000 [(d.toNat, 17), (a.toNat, 12), (g.toNat, 4), (f.toNat, 0)])
  | .ctz d a g f => some (word 0x04400000 [(d.toNat, 17), (a.toNat, 12), (g.toNat, 4), (f.toNat, 0)])
  | .popc d a g f => some (word 0x04800000 [(d.toNat, 17), (a.toNat, 12), (g.toNat, 4), (f.toNat, 0)])
  | .sext d a g f => some (word 0x04C00000 [(d.toNat, 17), (a.toNat, 12), (g.toNat, 4), (f.toNat, 0)])
  | .zext d a g f => some (word 0x05000000 [(d.toNat, 17), (a.toNat, 12), (g.toNat, 4), (f.toNat, 0)])
  | .lea d a b g s => some (word 0x05400000 [(d.toNat, 17), (a.toNat, 12), (b.toNat, 7), (g.toNat, 4), (s.toNat, 0)])
  | .cmp n a b g c => some (word 0x05800000 [(n.toNat, 17), (a.toNat, 12), (b.toNat, 7), (g.toNat, 4), (c.toNat, 0)])
  | .sel d a b g n => some (word 0x05C00000 [(d.toNat, 17), (a.toNat, 12), (b.toNat, 7), (g.toNat, 4), (n.toNat, 0)])
  | .addi d a i => some (word 0x08000000 [(d.toNat, 17), (a.toNat, 12), (i.lo.toNat, 0)])
  | .andi d a i => some (word 0x08400000 [(d.toNat, 17), (a.toNat, 12), (i.lo.toNat, 0)])
  | .ori d a i => some (word 0x08800000 [(d.toNat, 17), (a.toNat, 12), (i.lo.toNat, 0)])
  | .xori d a i => some (word 0x08C00000 [(d.toNat, 17), (a.toNat, 12), (i.lo.toNat, 0)])
  | .shli d a n => some (word 0x09000000 [(d.toNat, 17), (a.toNat, 12), (n.toNat, 0)])
  | .shri d a n => some (word 0x09400000 [(d.toNat, 17), (a.toNat, 12), (n.toNat, 0)])
  | .srai d a n => some (word 0x09800000 [(d.toNat, 17), (a.toNat, 12), (n.toNat, 0)])
  | .lih d i => some (word 0x09C00000 [(d.toNat, 17), (i.lo.toNat, 0)])
  | .jmp o => some (word 0x0C000000 [(o.lo.toNat, 0)])
  | .jal d o => some (word 0x0C400000 [(d.toNat, 17), (o.lo.toNat, 0)])
  | .jr d a g => some (word 0x0C800000 [(d.toNat, 17), (a.toNat, 12), (g.toNat, 4)])
  | .br p n o => some (word 0x0CC00000 [(p.toNat, 19), (n.toNat, 18), (o.lo.toNat, 0)])
  | .brcEq b a o => some (word 0x0D000000 [(b.toNat, 17), (a.toNat, 12), (o.lo.toNat, 0)])
  | .brcNe b a o => some (word 0x0D400000 [(b.toNat, 17), (a.toNat, 12), (o.lo.toNat, 0)])
  | .brcLt b a o => some (word 0x0D800000 [(b.toNat, 17), (a.toNat, 12), (o.lo.toNat, 0)])
  | .brcGe b a o => some (word 0x0DC00000 [(b.toNat, 17), (a.toNat, 12), (o.lo.toNat, 0)])
  | .brcLtu b a o => some (word 0x0E000000 [(b.toNat, 17), (a.toNat, 12), (o.lo.toNat, 0)])
  | .brcGeu b a o => some (word 0x0E400000 [(b.toNat, 17), (a.toNat, 12), (o.lo.toNat, 0)])
  | .takeMark => some (word 0x10000000 [])
  | .spawn a b => some (word 0x10400000 [(a.toNat, 12), (b.toNat, 7)])
  | .doneShot => some (word 0x10800000 [])
  | .trapUser a i => some (word 0x10C00000 [(a.toNat, 12), (i.lo.toNat, 0)])
  | .ld d a i f => some (word 0x12000000 [(d.toNat, 17), (a.toNat, 12), (i.toNat, 3), (f.toNat, 0)])
  | .st s a i z => some (word 0x12400000 [(s.toNat, 17), (a.toNat, 12), (i.toNat, 3), (z.toNat, 0)])
  | .ldw d a i f => some (word 0x12800000 [(d.toNat, 17), (a.toNat, 12), (i.toNat, 3), (f.toNat, 0)])
  | .stf s a i z => some (word 0x12C00000 [(s.toNat, 17), (a.toNat, 12), (i.toNat, 3), (z.toNat, 0)])
  | .pclr n a i => some (word 0x13000000 [(n.toNat, 17), (a.toNat, 12), (i.toNat, 3)])
  | .ctlr d c => some (word 0x14000000 [(d.toNat, 17), (c.toNat, 0)])
  | .ctlw a c => some (word 0x14400000 [(a.toNat, 12), (c.toNat, 0)])
  | .setfmt a => some (word 0x14800000 [(a.toNat, 12)])
  | .setmom a => some (word 0x14C00000 [(a.toNat, 12)])
  | .fence c s => some (word 0x15000000 [(c.toNat, 3), (s.toNat, 0)])
  | .wait l s c t => some (word 0x15400000 [(l.toNat, 12), (s.toNat, 8), (c.toNat, 4), (t.toNat, 0)])
  | .rdclk d => some (word 0x15800000 [(d.toNat, 17)])
  | .rdid d => some (word 0x15C00000 [(d.toNat, 17)])
  | .rdstep d => some (word 0x16000000 [(d.toNat, 17)])
  | .rdstepNext d => some (word 0x16000001 [(d.toNat, 17)])
  | .tinv a b => some (word 0x1C000000 [(a.toNat, 12), (b.toNat, 7)])
  | .retake d a => some (word 0x1C400000 [(d.toNat, 17), (a.toNat, 12)])
  | .ctxsv d a b p => some (word 0x1C800000 [(d.toNat, 17), (a.toNat, 12), (b.toNat, 7), (p.toNat, 0)])
  | .ctxld d a b p => some (word 0x1CC00000 [(d.toNat, 17), (a.toNat, 12), (b.toNat, 7), (p.toNat, 0)])
  | .dstw d a b => some (word 0x1D000000 [(d.toNat, 17), (a.toNat, 12), (b.toNat, 7)])
  | .scrb d a b => some (word 0x1D400000 [(d.toNat, 17), (a.toNat, 12), (b.toNat, 7)])
  | .pwrwPwrcap a b => some (word 0x1D800000 [(a.toNat, 12), (b.toNat, 7)])
  | .pwrwCurlim a b => some (word 0x1D800001 [(a.toNat, 12), (b.toNat, 7)])
  | .hibwSetEntry d a b => some (word 0x1DC00000 [(d.toNat, 17), (a.toNat, 12), (b.toNat, 7)])
  | .hibwClearEntry d a b => some (word 0x1DC00000 [(d.toNat, 17), (a.toNat, 12), (b.toNat, 7)])
  | .hibwClearAll d a b => some (word 0x1DC00000 [(d.toNat, 17), (a.toNat, 12), (b.toNat, 7)])
  | .vaddF32 d a b g h => some (word 0x20000000 [(d.toNat, 16), (a.toNat, 10), (b.toNat, 4), (g.toNat, 1), (h.toNat, 0)])
  | .vsubF32 d a b g h => some (word 0x20400000 [(d.toNat, 16), (a.toNat, 10), (b.toNat, 4), (g.toNat, 1), (h.toNat, 0)])
  | .vmulF32 d a b g h => some (word 0x20800000 [(d.toNat, 16), (a.toNat, 10), (b.toNat, 4), (g.toNat, 1), (h.toNat, 0)])
  | .vfmaF32 d a b g h => some (word 0x20C00000 [(d.toNat, 16), (a.toNat, 10), (b.toNat, 4), (g.toNat, 1), (h.toNat, 0)])
  | .vfmsF32 d a b g h => some (word 0x21000000 [(d.toNat, 16), (a.toNat, 10), (b.toNat, 4), (g.toNat, 1), (h.toNat, 0)])
  | .vminF32 d a b g h => some (word 0x21400000 [(d.toNat, 16), (a.toNat, 10), (b.toNat, 4), (g.toNat, 1), (h.toNat, 0)])
  | .vmaxF32 d a b g h => some (word 0x21800000 [(d.toNat, 16), (a.toNat, 10), (b.toNat, 4), (g.toNat, 1), (h.toNat, 0)])
  | .vabsF32 d a g h => some (word 0x21C00000 [(d.toNat, 16), (a.toNat, 10), (g.toNat, 1), (h.toNat, 0)])
  | .vnegF32 d a g h => some (word 0x22000000 [(d.toNat, 16), (a.toNat, 10), (g.toNat, 1), (h.toNat, 0)])
  | .vclass d a g h => some (word 0x22400000 [(d.toNat, 16), (a.toNat, 10), (g.toNat, 1), (h.toNat, 0)])
  | .vaddI32 d a b g h => some (word 0x24000000 [(d.toNat, 16), (a.toNat, 10), (b.toNat, 4), (g.toNat, 1), (h.toNat, 0)])
  | .vsubI32 d a b g h => some (word 0x24400000 [(d.toNat, 16), (a.toNat, 10), (b.toNat, 4), (g.toNat, 1), (h.toNat, 0)])
  | .vmulI32 d a b g h => some (word 0x24800000 [(d.toNat, 16), (a.toNat, 10), (b.toNat, 4), (g.toNat, 1), (h.toNat, 0)])
  | .vminI32 d a b g h => some (word 0x24C00000 [(d.toNat, 16), (a.toNat, 10), (b.toNat, 4), (g.toNat, 1), (h.toNat, 0)])
  | .vmaxI32 d a b g h => some (word 0x25000000 [(d.toNat, 16), (a.toNat, 10), (b.toNat, 4), (g.toNat, 1), (h.toNat, 0)])
  | .vminN32 d a b g h => some (word 0x25400000 [(d.toNat, 16), (a.toNat, 10), (b.toNat, 4), (g.toNat, 1), (h.toNat, 0)])
  | .vmaxN32 d a b g h => some (word 0x25800000 [(d.toNat, 16), (a.toNat, 10), (b.toNat, 4), (g.toNat, 1), (h.toNat, 0)])
  | .vabsI32 d a g h => some (word 0x25C00000 [(d.toNat, 16), (a.toNat, 10), (g.toNat, 1), (h.toNat, 0)])
  | .vnegI32 d a g h => some (word 0x26000000 [(d.toNat, 16), (a.toNat, 10), (g.toNat, 1), (h.toNat, 0)])
  | .vrcp d a g h => some (word 0x28000000 [(d.toNat, 16), (a.toNat, 10), (g.toNat, 1), (h.toNat, 0)])
  | .vrsqrt d a g h => some (word 0x28400000 [(d.toNat, 16), (a.toNat, 10), (g.toNat, 1), (h.toNat, 0)])
  | .vsqrt d a g h => some (word 0x28800000 [(d.toNat, 16), (a.toNat, 10), (g.toNat, 1), (h.toNat, 0)])
  | .vexp2 d a g h => some (word 0x28C00000 [(d.toNat, 16), (a.toNat, 10), (g.toNat, 1), (h.toNat, 0)])
  | .vlog2 d a g h => some (word 0x29000000 [(d.toNat, 16), (a.toNat, 10), (g.toNat, 1), (h.toNat, 0)])
  | .vncdf d a g h => some (word 0x29400000 [(d.toNat, 16), (a.toNat, 10), (g.toNat, 1), (h.toNat, 0)])
  | .vnpdf d a g h => some (word 0x29800000 [(d.toNat, 16), (a.toNat, 10), (g.toNat, 1), (h.toNat, 0)])
  | .vtanh d a g h => some (word 0x29C00000 [(d.toNat, 16), (a.toNat, 10), (g.toNat, 1), (h.toNat, 0)])
  | .vand d a b g h => some (word 0x2A000000 [(d.toNat, 16), (a.toNat, 10), (b.toNat, 4), (g.toNat, 1), (h.toNat, 0)])
  | .vor d a b g h => some (word 0x2A400000 [(d.toNat, 16), (a.toNat, 10), (b.toNat, 4), (g.toNat, 1), (h.toNat, 0)])
  | .vxor d a b g h => some (word 0x2A800000 [(d.toNat, 16), (a.toNat, 10), (b.toNat, 4), (g.toNat, 1), (h.toNat, 0)])
  | .vnot d a g h => some (word 0x2AC00000 [(d.toNat, 16), (a.toNat, 10), (g.toNat, 1), (h.toNat, 0)])
  | .vshl d a b g h => some (word 0x2B000000 [(d.toNat, 16), (a.toNat, 10), (b.toNat, 4), (g.toNat, 1), (h.toNat, 0)])
  | .vshr d a b g h => some (word 0x2B400000 [(d.toNat, 16), (a.toNat, 10), (b.toNat, 4), (g.toNat, 1), (h.toNat, 0)])
  | .vsra d a b g h => some (word 0x2B800000 [(d.toNat, 16), (a.toNat, 10), (b.toNat, 4), (g.toNat, 1), (h.toNat, 0)])
  | .vcmpF32 c n a b g h => some (word 0x2C000000 [(c.toNat, 19), (n.toNat, 16), (a.toNat, 10), (b.toNat, 4), (g.toNat, 1), (h.toNat, 0)])
  | .vcmpI32 c n a b g h => some (word 0x2C400000 [(c.toNat, 19), (n.toNat, 16), (a.toNat, 10), (b.toNat, 4), (g.toNat, 1), (h.toNat, 0)])
  | .vcmpN32 c n a b g h => some (word 0x2C800000 [(c.toNat, 19), (n.toNat, 16), (a.toNat, 10), (b.toNat, 4), (g.toNat, 1), (h.toNat, 0)])
  | .vsel d a b g h => some (word 0x2CC00000 [(d.toNat, 16), (a.toNat, 10), (b.toNat, 4), (g.toNat, 1), (h.toNat, 0)])
  | .vpfxF32 d a g h => some (word 0x2D000000 [(d.toNat, 16), (a.toNat, 10), (g.toNat, 1), (h.toNat, 0)])
  | .vpfxI32 d a g h => some (word 0x2D400000 [(d.toNat, 16), (a.toNat, 10), (g.toNat, 1), (h.toNat, 0)])
  | .vredF32 d a x g f => some (word 0x2D800000 [(d.toNat, 16), (a.toNat, 10), (x.toNat, 5), (g.toNat, 2), (f.toNat, 0)])
  | .vredI32 d a x g f => some (word 0x2DC00000 [(d.toNat, 16), (a.toNat, 10), (x.toNat, 5), (g.toNat, 2), (f.toNat, 0)])
  | .vredN32 d a x g f => some (word 0x2E000000 [(d.toNat, 16), (a.toNat, 10), (x.toNat, 5), (g.toNat, 2), (f.toNat, 0)])
  | .vperm d a b g h => some (word 0x2E400000 [(d.toNat, 16), (a.toNat, 10), (b.toNat, 4), (g.toNat, 1), (h.toNat, 0)])
  | .vbcast d x g => some (word 0x2E800000 [(d.toNat, 16), (x.toNat, 5), (g.toNat, 2)])
  | .vbcastLane d a x g => some (word 0x2E800001 [(d.toNat, 16), (a.toNat, 10), (x.toNat, 5), (g.toNat, 2)])
  | .vmovx l a x => some (word 0x2EC00000 [(l.toNat, 16), (a.toNat, 10), (x.toNat, 5)])
  | .vmovxS l a x => some (word 0x2EC00001 [(l.toNat, 16), (a.toNat, 10), (x.toNat, 5)])
  | .vmovxToLane d l x => some (word 0x2EC00002 [(d.toNat, 16), (l.toNat, 10), (x.toNat, 5)])
  | .vidx d g => some (word 0x2F000000 [(d.toNat, 16), (g.toNat, 1)])
  | .vcvtI32F32 d a b g h => some (word 0x30000000 [(d.toNat, 16), (a.toNat, 10), (b.toNat, 4), (g.toNat, 1), (h.toNat, 0)])
  | .vcvtN32F32 d a b g h => some (word 0x30400000 [(d.toNat, 16), (a.toNat, 10), (b.toNat, 4), (g.toNat, 1), (h.toNat, 0)])
  | .vcvtF32I32 d a b g h => some (word 0x30800000 [(d.toNat, 16), (a.toNat, 10), (b.toNat, 4), (g.toNat, 1), (h.toNat, 0)])
  | .vcvtF32N32 d a b g h => some (word 0x30C00000 [(d.toNat, 16), (a.toNat, 10), (b.toNat, 4), (g.toNat, 1), (h.toNat, 0)])
  | .vcvtBf16F32 d a b g h => some (word 0x31000000 [(d.toNat, 16), (a.toNat, 10), (b.toNat, 4), (g.toNat, 1), (h.toNat, 0)])
  | .vcvtF32Bf16 d a b g h => some (word 0x31400000 [(d.toNat, 16), (a.toNat, 10), (b.toNat, 4), (g.toNat, 1), (h.toNat, 0)])
  | .vcvtE4m3F32 d a b g h => some (word 0x31800000 [(d.toNat, 16), (a.toNat, 10), (b.toNat, 4), (g.toNat, 1), (h.toNat, 0)])
  | .vcvtF32E4m3 d a b g h => some (word 0x31C00000 [(d.toNat, 16), (a.toNat, 10), (b.toNat, 4), (g.toNat, 1), (h.toNat, 0)])
  | .vcvtE5m2F32 d a b g h => some (word 0x32000000 [(d.toNat, 16), (a.toNat, 10), (b.toNat, 4), (g.toNat, 1), (h.toNat, 0)])
  | .vcvtF32E5m2 d a b g h => some (word 0x32400000 [(d.toNat, 16), (a.toNat, 10), (b.toNat, 4), (g.toNat, 1), (h.toNat, 0)])
  | .vcvtE2m1F32 d a b g h => some (word 0x32800000 [(d.toNat, 16), (a.toNat, 10), (b.toNat, 4), (g.toNat, 1), (h.toNat, 0)])
  | .vcvtF32E2m1 d a b g h => some (word 0x32C00000 [(d.toNat, 16), (a.toNat, 10), (b.toNat, 4), (g.toNat, 1), (h.toNat, 0)])
  | .vld d a i g => some (word 0x34000000 [(d.toNat, 16), (a.toNat, 11), (i.toNat, 4), (g.toNat, 1)])
  | .vst s a i g => some (word 0x34400000 [(s.toNat, 16), (a.toNat, 11), (i.toNat, 4), (g.toNat, 1)])
  | .vldw d a i q => some (word 0x34800000 [(d.toNat, 16), (a.toNat, 11), (i.toNat, 4), (q.toNat, 0)])
  | .vstf s a i => some (word 0x34C00000 [(s.toNat, 16), (a.toNat, 11), (i.toNat, 4)])
  | .vlds d r b g f => some (word 0x35000000 [(d.toNat, 16), (r.toNat, 10), (b.toNat, 5), (g.toNat, 2), (f.toNat, 0)])
  | .vldg d a b g f => some (word 0x35400000 [(d.toNat, 16), (a.toNat, 10), (b.toNat, 5), (g.toNat, 2), (f.toNat, 0)])
  | .vsts s a b g f => some (word 0x35800000 [(s.toNat, 16), (a.toNat, 10), (b.toNat, 5), (g.toNat, 2), (f.toNat, 0)])
  | .pand d a b g => some (word 0x36000000 [(d.toNat, 16), (a.toNat, 10), (b.toNat, 4), (g.toNat, 1)])
  | .por d a b g => some (word 0x36400000 [(d.toNat, 16), (a.toNat, 10), (b.toNat, 4), (g.toNat, 1)])
  | .pxor d a b g => some (word 0x36800000 [(d.toNat, 16), (a.toNat, 10), (b.toNat, 4), (g.toNat, 1)])
  | .pnot d a g => some (word 0x36C00000 [(d.toNat, 16), (a.toNat, 10), (g.toNat, 1)])
  | .pcnt a x g f => some (word 0x37000000 [(a.toNat, 10), (x.toNat, 5), (g.toNat, 2), (f.toNat, 0)])
  | .pfirst a x g f => some (word 0x37400000 [(a.toNat, 10), (x.toNat, 5), (g.toNat, 2), (f.toNat, 0)])
  | .qcnt q x => some (word 0x38000000 [(q.toNat, 10), (x.toNat, 5)])
  | .qclr q => some (word 0x38400000 [(q.toNat, 16)])
  | .qbind q s => some (word 0x38800000 [(q.toNat, 16), (s.toNat, 10)])
  | .qunbind q => some (word 0x38C00000 [(q.toNat, 16)])
  | .sbind s x => some (word 0x39000000 [(s.toNat, 16), (x.toNat, 5)])
  | .spos s x => some (word 0x39400000 [(s.toNat, 10), (x.toNat, 5)])
  | .vpark a x => some (word 0x39800000 [(a.toNat, 10), (x.toNat, 5)])
  | .vunpark d x => some (word 0x39C00000 [(d.toNat, 16), (x.toNat, 5)])
  | .vunparkFree d x => some (word 0x39C00001 [(d.toNat, 16), (x.toNat, 5)])
  | .vshlImm d a n => some (word 0x3A000000 [(d.toNat, 16), (a.toNat, 10), (n.toNat, 0)])
  | .vshrImm d a n => some (word 0x3A400000 [(d.toNat, 16), (a.toNat, 10), (n.toNat, 0)])
  | .vsraImm d a n => some (word 0x3A800000 [(d.toNat, 16), (a.toNat, 10), (n.toNat, 0)])
  | .vbcastImm d i => some (word 0x3AC00000 [(d.toNat, 16), (i.lo.toNat, 0)])
  | .mldM32 d a i g => some (word 0xA0000000 [(d.toNat, 16), (a.toNat, 11), (i.toNat, 4), (g.toNat, 1)])
  | .mldMb16 d a i g => some (word 0xA0400000 [(d.toNat, 16), (a.toNat, 11), (i.toNat, 4), (g.toNat, 1)])
  | .mstM32 s a i g => some (word 0xA0800000 [(s.toNat, 16), (a.toNat, 11), (i.toNat, 4), (g.toNat, 1)])
  | .mstMb16 s a i g => some (word 0xA0C00000 [(s.toNat, 16), (a.toNat, 11), (i.toNat, 4), (g.toNat, 1)])
  | .mset d a b g => some (word 0xA1000000 [(d.toNat, 16), (a.toNat, 10), (b.toNat, 4), (g.toNat, 1)])
  | .mget d a b g => some (word 0xA1400000 [(d.toNat, 16), (a.toNat, 10), (b.toNat, 4), (g.toNat, 1)])
  | .mcorr a g => some (word 0xA1800000 [(a.toNat, 10), (g.toNat, 1)])
  | .mclip d a x g => some (word 0xA1C00000 [(d.toNat, 16), (a.toNat, 10), (x.toNat, 5), (g.toNat, 2)])
  | .madd d a b g c => some (word 0xA2000000 [(d.toNat, 16), (a.toNat, 10), (b.toNat, 4), (g.toNat, 1), (c.toNat, 0)])
  | .msub d a b g c => some (word 0xA2400000 [(d.toNat, 16), (a.toNat, 10), (b.toNat, 4), (g.toNat, 1), (c.toNat, 0)])
  | .mmul d a b g c => some (word 0xA2800000 [(d.toNat, 16), (a.toNat, 10), (b.toNat, 4), (g.toNat, 1), (c.toNat, 0)])
  | .mfma d a b g c => some (word 0xA2C00000 [(d.toNat, 16), (a.toNat, 10), (b.toNat, 4), (g.toNat, 1), (c.toNat, 0)])
  | .mscl d a b g => some (word 0xA3000000 [(d.toNat, 16), (a.toNat, 10), (b.toNat, 4), (g.toNat, 1)])
  | .msq d a g => some (word 0xA4000000 [(d.toNat, 16), (a.toNat, 10), (g.toNat, 1)])
  | .mrelu d a g => some (word 0xA4400000 [(d.toNat, 16), (a.toNat, 10), (g.toNat, 1)])
  | .msig d a g => some (word 0xA4800000 [(d.toNat, 16), (a.toNat, 10), (g.toNat, 1)])
  | .mexp d a g => some (word 0xA4C00000 [(d.toNat, 16), (a.toNat, 10), (g.toNat, 1)])
  | .mtanh d a g => some (word 0xA5000000 [(d.toNat, 16), (a.toNat, 10), (g.toNat, 1)])
  | .mcolMean d a g => some (word 0xA6000000 [(d.toNat, 16), (a.toNat, 10), (g.toNat, 1)])
  | .mcolHi d a g => some (word 0xA6400000 [(d.toNat, 16), (a.toNat, 10), (g.toNat, 1)])
  | .mcolLo d a g => some (word 0xA6800000 [(d.toNat, 16), (a.toNat, 10), (g.toNat, 1)])
  | .mcolSmp d a b g => some (word 0xA6C00000 [(d.toNat, 16), (a.toNat, 10), (b.toNat, 4), (g.toNat, 1)])
  | .mma z a b m p => some (word 0x40000000 [(z.toNat, 19), (a.toNat, 15), (b.toNat, 11), (m.toNat, 9), (p.toNat, 8)])
  | .mmas z a b m p c s => some (word 0x40400000 [(z.toNat, 19), (a.toNat, 15), (b.toNat, 11), (m.toNat, 9), (p.toNat, 8), (c.toNat, 2), (s.toNat, 0)])
  | .mmap z a b m p => some (word 0x40800000 [(z.toNat, 19), (a.toNat, 15), (b.toNat, 11), (m.toNat, 9), (p.toNat, 8)])
  | .mmt z a b m p => some (word 0x40C00000 [(z.toNat, 19), (a.toNat, 15), (b.toNat, 11), (m.toNat, 9), (p.toNat, 8)])
  | .mmm z a b m p f => some (word 0x41000000 [(z.toNat, 19), (a.toNat, 15), (b.toNat, 11), (m.toNat, 9), (p.toNat, 8), (f.toNat, 0)])
  | .trd z d r => some (word 0x42000000 [(z.toNat, 19), (d.toNat, 13), (r.toNat, 7)])
  | .twr z a r => some (word 0x42400000 [(z.toNat, 19), (a.toNat, 13), (r.toNat, 7)])
  | .tcfg m r f => some (word 0x44000000 [(m.toNat, 14), (r.toNat, 7), (f.toNat, 6)])
  | .tfree m f => some (word 0x44400000 [(m.toNat, 14), (f.toNat, 6)])
  | .tzero m => some (word 0x44800000 [(m.toNat, 14)])
  | .tgen t p => some (word 0x44C00000 [(t.toNat, 18), (p.toNat, 16)])
  | .tadd d s n => some (word 0x45000000 [(d.toNat, 19), (s.toNat, 16), (n.toNat, 15)])
  | .tscl z x => some (word 0x45400000 [(z.toNat, 19), (x.toNat, 14)])
  | .tcvt z o t p r => some (word 0x45800000 [(z.toNat, 19), (o.toNat, 16), (t.toNat, 13), (p.toNat, 12), (r.toNat, 9)])
  | .ofs o a b => some (word 0x46000000 [(o.toNat, 19), (a.toNat, 14), (b.toNat, 9)])
  | .ofsr o d s => some (word 0x46400000 [(o.toNat, 19), (d.toNat, 14), (s.toNat, 13)])
  | .cdesc c s => some (word 0x60000000 [(c.toNat, 17), (s.toNat, 7)])
  | .cpy c h s d => some (word 0x60400000 [(c.toNat, 17), (h.toNat, 12), (s.toNat, 7), (d.toNat, 2)])
  | .cpyg c h s d => some (word 0x60800000 [(c.toNat, 17), (h.toNat, 12), (s.toNat, 7), (d.toNat, 2)])
  | .cpygOb c h s d => some (word 0x60800001 [(c.toNat, 17), (h.toNat, 12), (s.toNat, 7), (d.toNat, 2)])
  | .cpyx c h s d => some (word 0x60C00000 [(c.toNat, 17), (h.toNat, 12), (s.toNat, 7), (d.toNat, 2)])
  | .cpyb c h s d => some (word 0x61000000 [(c.toNat, 17), (h.toNat, 12), (s.toNat, 7), (d.toNat, 2)])
  | .cpys c h s d => some (word 0x61400002 [(c.toNat, 17), (h.toNat, 12), (s.toNat, 7), (d.toNat, 2)])
  | .cpyo c h s d => some (word 0x61800001 [(c.toNat, 17), (h.toNat, 12), (s.toNat, 7), (d.toNat, 2)])
  | .pfill c h s d => some (word 0x61C00000 [(c.toNat, 17), (h.toNat, 12), (s.toNat, 7), (d.toNat, 2)])
  | .cadd h v s => some (word 0x62000000 [(h.toNat, 17), (v.toNat, 12), (s.toNat, 9)])
  | .caddImm h i s j => some (word 0x62000100 [(h.toNat, 17), (i.toNat, 12), (s.toNat, 9), (j.toNat, 0)])
  | .cwait h v s => some (word 0x62400000 [(h.toNat, 17), (v.toNat, 12), (s.toNat, 9)])
  | .ctest h v s n => some (word 0x62800000 [(h.toNat, 17), (v.toNat, 12), (s.toNat, 9), (n.toNat, 0)])
  | .cread h v s => some (word 0x62C00000 [(h.toNat, 17), (v.toNat, 12), (s.toNat, 9)])
  | .amoAdd d a b w s => some (word 0x64000000 [(d.toNat, 17), (a.toNat, 12), (b.toNat, 7), (w.toNat, 2), (s.toNat, 0)])
  | .amoMin d a b w s => some (word 0x64000010 [(d.toNat, 17), (a.toNat, 12), (b.toNat, 7), (w.toNat, 2), (s.toNat, 0)])
  | .amoMax d a b w s => some (word 0x64000020 [(d.toNat, 17), (a.toNat, 12), (b.toNat, 7), (w.toNat, 2), (s.toNat, 0)])
  | .amoAnd d a b w s => some (word 0x64000030 [(d.toNat, 17), (a.toNat, 12), (b.toNat, 7), (w.toNat, 2), (s.toNat, 0)])
  | .amoOr d a b w s => some (word 0x64000040 [(d.toNat, 17), (a.toNat, 12), (b.toNat, 7), (w.toNat, 2), (s.toNat, 0)])
  | .amoXor d a b w s => some (word 0x64000050 [(d.toNat, 17), (a.toNat, 12), (b.toNat, 7), (w.toNat, 2), (s.toNat, 0)])
  | .amoXchg d a b w s => some (word 0x64000060 [(d.toNat, 17), (a.toNat, 12), (b.toNat, 7), (w.toNat, 2), (s.toNat, 0)])
  | .amocas d a b w s => some (word 0x64400000 [(d.toNat, 17), (a.toNat, 12), (b.toNat, 7), (w.toNat, 2), (s.toNat, 0)])
  | .coll c h s d => some (word 0x66000000 [(c.toNat, 17), (h.toNat, 12), (s.toNat, 7), (d.toNat, 2)])
  | .qapp h v s n => some (word 0x66400000 [(h.toNat, 17), (v.toNat, 12), (s.toNat, 9), (n.toNat, 0)])
  | .cbcfg h s d => some (word 0x68000003 [(h.toNat, 12), (s.toNat, 7), (d.toNat, 2)])
  | .cbal h v n => some (word 0x68400000 [(h.toNat, 17), (v.toNat, 12), (n.toNat, 0)])
  | .cbalNb h v p n => some (word 0x68400100 [(h.toNat, 17), (v.toNat, 12), (p.toNat, 5), (n.toNat, 0)])
  | .cbput c h s d => some (word 0x68800003 [(c.toNat, 17), (h.toNat, 12), (s.toNat, 7), (d.toNat, 2)])
  | .cbst h v f => some (word 0x68C00000 [(h.toNat, 17), (v.toNat, 12), (f.toNat, 0)])
  | .cbdrop h v => some (word 0x69000000 [(h.toNat, 17), (v.toNat, 12)])
  | .repetition => none
  | .bundleDispatch => none
  | .bundleFetch => none
  | .takeCommit => none
  | .translationWalk _ => none
  | .tinvAck _ => none
  | .consumingLoadWake _ => none
  | .cwaitWake _ => none
  | .cbalWake _ => none
  | .spawnShotStart _ => none
  | .copyComplete _ => none
  | .streamFetch _ _ => none
  | .streamEntryWrite _ _ _ => none
  | .wound _ => none
  | .rdLines _ _ => none
  | .wrLines _ _ _ => none
  | .wrmLine _ _ _ => none
  | .scrubLines _ _ => none
  | .rawWr _ _ _ => none
  | .zeroLines _ _ => none
  | .replyLines _ => none
  | .selection _ => none
  | .launchPacket _ => none
  | .copyPacket _ => none
  | .addPacket _ => none
  | .waitPacket _ => none
  | .barrierPacket _ => none
  | .controlYield _ => none
  | .controlDisable _ => none
  | .shotPlacement _ => none
  | .launchCompletion _ => none
  | .completionAdd _ => none
  | .trapRecord _ => none
  | .trapDelivery _ => none
  | .actionResume _ => none
  | .actionSupply _ => none
  | .actionTerminate _ => none
  | .eventDelivery _ => none
  | .eventWaitExpiry _ => none
  | .timeSliceEnd _ => none
  | .preempt _ _ _ => none
  | .graceExpiry _ => none
  | .faultResolution _ => none
  | .fetchReply _ _ _ _ => none
  | .fetchResend _ _ => none
  | .pageMove _ _ _ => none
  | .patrolScrub _ _ => none
  | .screenTestStart _ => none
  | .screenPreempt _ => none
  | .screenTest _ _ => none
  | .powerFailWarning => none
  | .quiescence => none
  | .drain => none
  | .restart => none
  | .powerLevelDrop _ => none
  | .powerLevelRaise _ => none
  | .boot _ _ => none
  | .phaseLoss _ => none
  | .imbalanceSample _ _ _ => none
  | .imbalanceCapRaise _ => none
  | .hotFlag _ _ => none
  | .thermalStep _ _ => none
  | .gatingHoldExpiry _ => none
  | .wakeComplete _ => none
  | .cbputDeposit _ => none
  | .cbDeadline _ _ _ => none
  | .collComplete _ _ => none
  | .collAbort _ => none
  | .linkTraining _ _ => none
  | .linkRetrainTimeout _ => none
  | .stepBoundary => none
  | .hello _ => none
  | .sessionOpen _ _ => none
  | .create _ _ => none
  | .destroy _ => none
  | .reclaim _ _ => none
  | .expose _ _ _ _ => none
  | .remoteAppend _ _ _ => none
  | .remoteRead _ _ _ => none
  | .remoteWrite _ _ _ => none
  | .remoteAdd _ _ _ => none
  | .recall _ _ => none
  | .give _ _ _ => none
  | .attestReport _ _ => none
  | .attestCert _ => none
  | .mread _ _ _ _ => none
  | .mwriteScrubRate _ _ _ => none
  | .slateDisposal _ _ => none
  | .sessionClose _ => none
  | .reclaimWindowExpiry _ => none
  | .upset _ _ => none
  | .recoveryImageWrite _ _ => none
  | .linkRetrain _ => none
  | .queueRegistration _ _ => none

/-- The extension byte that the instruction's immediate carries. -/
def extByte : Instr → Option Byte
  | .addi _ _ i => i.ext
  | .andi _ _ i => i.ext
  | .ori _ _ i => i.ext
  | .xori _ _ i => i.ext
  | .lih _ i => i.ext
  | .jmp o => o.ext
  | .jal _ o => o.ext
  | .br _ _ o => o.ext
  | .brcEq _ _ o => o.ext
  | .brcNe _ _ o => o.ext
  | .brcLt _ _ o => o.ext
  | .brcGe _ _ o => o.ext
  | .brcLtu _ _ o => o.ext
  | .brcGeu _ _ o => o.ext
  | .trapUser _ i => i.ext
  | .vbcastImm _ i => i.ext
  | _ => none

/-- The instruction that the decoder reads from a slot whose bits are `w`, with no EXT header. -/
def decodeTableWord (nbits w : Nat) : Option Instr :=
  match decodeSlot (BitVec.ofNat 32 (w % 2 ^ nbits)) none with
  | .ok i => some i
  | .error _ => none

end Sys2Proof
end

