-- ==== Sys2Proof/Machine/Aes.lean ====
section
/-! DEFINITION. AES-256 in XTS mode, which spec/05 R78 and spec/29 R364 name without stating it: the cipher as the public standards
FIPS 197 and IEEE 1619 give it (PRESUMED, log 14). -/

namespace Sys2Proof.Machine

/-- Byte by byte. -/
def xorBytes (a b : List Byte) : List Byte := List.zipWith (· ^^^ ·) a b

/-! GF(2^8) with x^8 + x^4 + x^3 + x + 1. -/

/-- Times x. -/
def aesX (a : Byte) : Byte := (a <<< 1) ^^^ (if a.msb then 0x1B#8 else 0#8)

/-- The product. -/
def aesMul (a b : Byte) : Byte := (List.range 8).foldr (fun k r => aesX r ^^^ (if b.getLsbD k then a else 0#8)) 0#8

/-- The inverse, which is the 254th power; 0 for 0. -/
def aesInv (a : Byte) : Byte :=
  ((List.range 7).foldl (fun (r : Byte × Byte) _ => let s := aesMul r.1 r.1; (s, aesMul r.2 s)) (a, 1#8)).2

/-- SubBytes of a byte. -/
def aesSub (a : Byte) : Byte :=
  let b := aesInv a
  b ^^^ b.rotateLeft 1 ^^^ b.rotateLeft 2 ^^^ b.rotateLeft 3 ^^^ b.rotateLeft 4 ^^^ 0x63#8

/-- InvSubBytes of a byte. -/
def aesUnsub (a : Byte) : Byte := aesInv (a.rotateLeft 1 ^^^ a.rotateLeft 3 ^^^ a.rotateLeft 6 ^^^ 0x05#8)

/-! The state: 16 bytes, byte `r + 4 c` in row `r` of column `c`. -/

/-- ShiftRows: row `r` moves `r` columns to the left. -/
def aesShift (s : List Byte) : List Byte := (List.range 16).map fun i => s.getD ((i + 4 * (i % 4)) % 16) 0

/-- InvShiftRows. -/
def aesUnshift (s : List Byte) : List Byte := (List.range 16).map fun i => s.getD ((i + 12 * (i % 4)) % 16) 0

/-- Each column times the circulant matrix whose first row is `m`. -/
def aesMix (m : List Byte) (s : List Byte) : List Byte :=
  (List.range 16).map fun i => (List.range 4).foldl (fun r k =>
    r ^^^ aesMul (m.getD ((k + 4 - i % 4) % 4) 0) (s.getD (i / 4 * 4 + k) 0)) 0#8

/-- The 60 words of the key schedule of a 32-byte key, 4 bytes each. -/
def aesWords (key : List Byte) : List (List Byte) :=
  (List.range 52).foldl (fun ws k =>
    let t := ws.getD (k + 7) []
    let u := if k % 8 = 0 then xorBytes ((t.drop 1 ++ t.take 1).map aesSub) [1#8 <<< (k / 8), 0, 0, 0]
      else if k % 8 = 4 then t.map aesSub else t
    ws ++ [xorBytes (ws.getD k []) u]) ((List.range 8).map fun i => (key.drop (4 * i)).take 4)

/-- The 15 round keys. -/
def aesKeys (key : List Byte) : List (List Byte) :=
  let ws := aesWords key
  (List.range 15).map fun r => ((ws.drop (4 * r)).take 4).flatten

/-- One block encrypted under 15 round keys. -/
def aesEncrypt (ks : List (List Byte)) (block : List Byte) : List Byte :=
  let mid := (List.range 13).foldl (fun s r => xorBytes (aesMix [2, 3, 1, 1] (aesShift (s.map aesSub))) (ks.getD (r + 1) []))
    (xorBytes block (ks.getD 0 []))
  xorBytes (aesShift (mid.map aesSub)) (ks.getD 14 [])

/-- One block decrypted under 15 round keys. -/
def aesDecrypt (ks : List (List Byte)) (block : List Byte) : List Byte :=
  let mid := (List.range 13).foldl (fun s r =>
      aesMix [14, 11, 13, 9] (xorBytes ((aesUnshift s).map aesUnsub) (ks.getD (13 - r) [])))
    (xorBytes block (ks.getD 14 []))
  xorBytes ((aesUnshift mid).map aesUnsub) (ks.getD 0 [])

/-! XTS. -/

/-- Times α in GF(2^128), of 16 bytes, least significant first. -/
def xtsNext (t : List Byte) : List Byte :=
  let v := t.foldr (fun b r => b.toNat + 256 * r) 0
  let w := 2 * v % 2 ^ 128 ^^^ (if 2 ^ 127 ≤ v then 0x87 else 0)
  (List.range 16).map fun i => BitVec.ofNat 8 (w / 256 ^ i)

/-- `n` blocks of data, each masked before and after `f` with the next power of α times `t`. -/
def xtsBlocks (f : List Byte → List Byte) : Nat → List Byte → List Byte → List Byte
  | 0, _, _ => []
  | n + 1, t, data => xorBytes (f (xorBytes (data.take 16) t)) t ++ xtsBlocks f n (xtsNext t) (data.drop 16)

/-- The mask of the first block: the 128-bit tweak, least significant byte first, encrypted under the second key of the pair. -/
def xtsMask (pair : List Byte) (tweak : Nat) : List Byte :=
  aesEncrypt (aesKeys ((pair.drop 32).take 32)) ((List.range 16).map fun i => BitVec.ofNat 8 (tweak / 256 ^ i))

/-- A data unit of whole blocks encrypted under a key pair of 64 bytes and a tweak. -/
def xtsEncrypt (pair : List Byte) (tweak : Nat) (data : List Byte) : List Byte :=
  xtsBlocks (aesEncrypt (aesKeys (pair.take 32))) (data.length / 16) (xtsMask pair tweak) data

/-- A data unit of whole blocks decrypted. -/
def xtsDecrypt (pair : List Byte) (tweak : Nat) (data : List Byte) : List Byte :=
  xtsBlocks (aesDecrypt (aesKeys (pair.take 32))) (data.length / 16) (xtsMask pair tweak) data

end Sys2Proof.Machine
end

