-- ==== Sys2Proof/Config.lean ====
section
/-! DEFINITION. What the manual leaves open or to the implementation, as opaque constants: nothing in Lean can evaluate
one or prove a value of it. The values that a run draws are applied to a counter of State (log 5). -/

namespace Sys2Proof.Config

/-- A free value: item `k` of the `n`-th draw (log 5). -/
opaque free : Nat → Nat → Nat

/-- Nanoseconds that the reference timer advances at the `n`-th step (log 4; spec/13 R180). -/
opaque ticks : Nat → Nat

/-- SHA-384 (spec/31 R378). -/
opaque sha384 : List Byte → List Byte

/-- HMAC-SHA-384 of a message under a key (spec/29 R369). -/
opaque hmac : List Byte → List Byte → List Byte

/-- HKDF-SHA-384: input keying material, salt, info (spec/31 R381). -/
opaque hkdf : List Byte → List Byte → List Byte → List Byte

/-- The ECDSA P-384 signature, r then s, under the device identity key (spec/31 R384). -/
opaque sign : List Byte → List Byte

/-- The ECDHE P-384 shared secret of the peer's public key and the device's ephemeral key of draw `n` (spec/31 R381). -/
opaque ecdh : List Byte → Nat → List Byte

/-- The device's ephemeral public key of draw `n` (spec/31 R381). -/
opaque ephemeral : Nat → List Byte

/-- AES-256 key wrap under a key (spec/29 R368). -/
opaque keyWrap : List Byte → List Byte → List Byte

/-- The XTS key pair that the module generated for its `n`-th context, by key version; pair 0 is firmware's (spec/05 R79). -/
opaque keyPair : (n version : Nat) → List Byte

/-- AES-256-GCM encryption under a key and a nonce, with the additional authenticated data: the ciphertext, then the tag
(spec/31 R381). -/
opaque gcmSeal : (key : List Byte) → (nonce : Nat) → (aad text : List Byte) → List Byte

/-- The MiB of device memory that firmware reserves in all (spec/05 R61, spec/29 R359). -/
opaque reservedMiB : Nat

/-- Firmware raises a context's KEYV at the `n`-th draw, to rotate its keys (spec/05 R79 names no occasion). -/
opaque rotates : (asid n : Nat) → Bool

/-- Both signatures over a firmware image verify (spec/31 R377). -/
opaque genuine : List Byte → Bool

/-- The 4 KiB blocks of device memory that firmware reserves beside what it reserves for contexts, by raw address divided by 4096
(spec/05 R61). -/
opaque reserved : List Nat

/-- The device secret (spec/29 R364). -/
opaque deviceSecret : List Byte

/-- SHA-384 of the device identity public key (spec/31 R384). -/
opaque identity : List Byte

/-- The identity certificate, DER-encoded (spec/31 R388). -/
opaque certificate : List Byte

/-- The FEAT bits that the module offers (spec/31 R384, R385). -/
opaque offer : W64

/-- The site of the harvested die, 0 to 8 (spec/01 R8). -/
opaque harvested : Nat

/-- What a SECDED decoder of `w` data bits finds in a data word and its check bits: the number of wrong bits, 0 for a
code word, and the word it returns when that number is 1 (spec/27 R347 names the codes, not their matrices). -/
opaque secdedErrors : (w data check : Nat) → Nat

/-- The corrected word of a SECDED word with one wrong bit (spec/27 R347). -/
opaque secdedWord : (w data check : Nat) → Nat

/-- The syndrome of a SECDED word written raw (spec/27 R347 names the codes, not their matrices). -/
opaque secdedSyndrome : (w data check : Nat) → Nat

/-- The syndrome of a code word that an upset struck, by its place (spec/27 R350, R353). -/
opaque syndrome : Nat → Nat → Nat

/-- Where firmware puts what it fixes for a context when it creates it: item 0 the device-physical block of its first tables and
its frame area, 1 the virtual block of the frame area, 2 the raw address of the save area, 3 the raw address of the event log,
9 the raw address of its group table, and for ASID 0 of the backing of ROUND and PASSES (spec/25 R332, R337, R342, spec/05 R58,
spec/29 R362, R368). -/
opaque firmwarePlace : (asid item : Nat) → Nat

/-- The number of entries of the rings that firmware sizes: item 0 the event log, 1 an arrival log (spec/25 R337,
spec/07 R104). -/
opaque ringSize : Nat → Nat

/-- The grace period, in nanoseconds, that firmware sets before the `n`-th draw, where it sets one (spec/03 R41). -/
opaque graceSet : (n : Nat) → Option Nat

/-- The measured current of a die exceeds its limit at the `n`-th draw (spec/33 R395). -/
opaque overCurrent : (die n : Nat) → Bool

/-- By how many entries firmware extends the full arrival log of a die at the `n`-th attempt to add to it (spec/07 R104). -/
opaque logRoom : (die n : Nat) → Nat

/-- The supply policy that firmware holds for a context: `some` when it supplies the DETREAD values itself
(spec/25 R331). -/
opaque supplies : (asid draw : Nat) → Option W64

/-- A patrol pass of a level on a die at a PERIOD runs late (spec/27 R352). -/
opaque late : (die level period : Nat) → Bool

/-- The MiB of a live die's D-pad that firmware configures as combine buffer at boot (spec/21 R299); it is at most 96. -/
opaque combineMiB : (die : Nat) → Nat

/-- What a granule of a die's combine buffer storage holds, by its raw address: the stream of the die, the slot, the position and the
first byte of the row (spec/21 R299 states no layout). -/
opaque combineWord : Nat → Nat × Nat × Nat × Nat

/-- The slot at which a combine stream begins to allocate in deterministic mode (spec/21 R301, spec/03 R48). -/
opaque slotBase : Nat

/-- The pad attribute bits that firmware gives a context, by 64 KiB block of the scratchpad windows (spec/05 R51). -/
opaque padTable : (asid : Nat) → List (Nat × Nat)

/-- The counters that firmware allocates to a context, by bits 31:0 of their handles (spec/07 R95). -/
opaque counters : (asid : Nat) → List Nat

/-- The LPDDR6 frames that firmware maps into a context, by raw address divided by 4096 (spec/05 R80). -/
opaque frames : (asid : Nat) → List Nat

/-- The group table that firmware gives a context: group, rank, number of ranks (spec/21 R294). -/
opaque groupTable : (asid : Nat) → List (Nat × Nat × Nat)

end Sys2Proof.Config
end

