-- ==== Sys2Proof/Machine/Store.lean ====
section
/-! DEFINITION. Sparse data by key, in one canonical form: keys strictly rising, and no entry equal to what an unlisted
key reads as. Memory (bytes by raw address), presence, poison and the other sparse tables of the module are stores. -/

namespace Sys2Proof.Machine

/-- Data by key. -/
abbrev Store (α : Type) := List (Nat × α)

/-- The entry of a key; `d` where none is listed. -/
def Store.get {α : Type} (d : α) : Store α → Nat → α
  | [], _ => d
  | (k, a) :: m, i => if i = k then a else if i < k then d else Store.get d m i

/-- The store with one entry changed; setting `d` removes the entry. -/
def Store.set {α : Type} [DecidableEq α] (d : α) : Store α → Nat → α → Store α
  | [], i, v => if v = d then [] else [(i, v)]
  | (k, a) :: m, i, v =>
    if i < k then (if v = d then (k, a) :: m else (i, v) :: (k, a) :: m)
    else if i = k then (if v = d then m else (i, v) :: m)
    else (k, a) :: Store.set d m i v

/-- The keys rise strictly from `lo` and no entry is `d`. -/
def Store.wfFrom {α : Type} [DecidableEq α] (d : α) : Nat → Store α → Bool
  | _, [] => true
  | lo, (k, a) :: m => decide (lo ≤ k) && decide (a ≠ d) && Store.wfFrom d (k + 1) m

/-- The canonical form. -/
def Store.wf {α : Type} [DecidableEq α] (d : α) (m : Store α) : Bool := Store.wfFrom d 0 m

/-- The entries of a run of values from key `i`: those that are not `d`. -/
def Store.run {α : Type} [DecidableEq α] (d : α) : Nat → List α → Store α
  | _, [] => []
  | i, v :: vs => if v = d then Store.run d (i + 1) vs else (i, v) :: Store.run d (i + 1) vs

/-- The entries below a key. -/
def Store.below {α : Type} (m : Store α) (i : Nat) : Store α := m.filter fun e => e.1 < i

/-- The entries at or above a key. -/
def Store.from {α : Type} (m : Store α) (i : Nat) : Store α := m.filter fun e => i ≤ e.1

/-- Writes the list of values to consecutive keys from `i`. -/
def Store.setList {α : Type} [DecidableEq α] (d : α) (m : Store α) (i : Nat) (vs : List α) : Store α :=
  Store.below m i ++ Store.run d i vs ++ Store.from m (i + vs.length)

/-- The values of `n` consecutive keys from `i`, of a store that lists no key below `i`. -/
def Store.take {α : Type} (d : α) : Nat → Nat → Store α → List α
  | 0, _, _ => []
  | n + 1, i, [] => d :: Store.take d n (i + 1) []
  | n + 1, i, (k, a) :: m => if k = i then a :: Store.take d n (i + 1) m else d :: Store.take d n (i + 1) ((k, a) :: m)

/-- The values of `n` consecutive keys from `i`. -/
def Store.getList {α : Type} (d : α) (m : Store α) (i n : Nat) : List α := Store.take d n i (Store.from m i)

/-- The entry of each key from `i` to `i + n - 1` set to one value. -/
def Store.fill {α : Type} [DecidableEq α] (d : α) (m : Store α) (i n : Nat) (v : α) : Store α :=
  Store.setList d m i (List.replicate n v)

end Sys2Proof.Machine
end

