-- ==== Sys2Proof/Machine/State.lean ====
section
/-! DEFINITION. The state of the module as plain data: the cores and their registers, storage, counters, engines, contexts,
launches, sessions, power and hibernation, and the machine right after reset. -/

namespace Sys2Proof.Machine

/-- Who raises it: nobody. The manual gives every stop of a core as a trap, an event or a wait, and each is a next state. -/
inductive Fault
  deriving DecidableEq, Repr

/-- Why an instruction has no meaning. -/
inductive Refusal where
  /-- Raised by the dispatcher for an instruction that has no meaning yet; safe, nothing is claimed about it. -/
  | notModelled (mnemonic : String)
  deriving DecidableEq, Repr

/-- The causes of spec/25 R330. -/
inductive Cause where
  | illegal | bundle | priv | qovf | qunf | stream | page | prot | align | race | watchcap | bank | park | spawnbusy
  | diverge | fmt | negvar | detread | counter | cbfit | cbdup | cbmiss | cbtime | collabort | poison | softerr
  | screen | user | preempt | power | savepoison | grace | killed
  deriving DecidableEq, Repr

/-- A trap: its cause, its detail code and its two detail words (spec/25 R327, R330), and for a translation fault what the
access did, as the fresh walk of R345 asks it again: 1 a write, 2 a fetch, 4 a presence operation. -/
structure Trap where
  cause  : Cause
  detail : Nat := 0
  w0     : W64 := 0
  w1     : W64 := 0
  acc    : Nat := 0
  deriving DecidableEq, Repr

/-- A moment register: the means and the variances of 64 lanes (spec/19). -/
structure Moment where
  mean : Lanes
  var  : Lanes
  deriving DecidableEq, Repr

/-- An offset register (spec/17 R237). -/
structure Oreg where
  addr   : BitVec 21
  stride : W64
  deriving DecidableEq, Repr

/-- A stream descriptor register, field by field (spec/15 R220). -/
structure Sd where
  cursor : Nat
  qn     : Nat
  bound  : Bool
  loaded : Bool
  write  : Bool
  sx     : Bool
  esize  : Nat
  str    : Vector W64 4
  cnt    : Vector W32 4
  base   : W64
  deriving DecidableEq, Repr

/-- The stream state of one descriptor that a restart image holds (spec/03 R40). -/
structure SdState where
  cursor : Nat
  qn     : Nat
  bound  : Bool
  loaded : Bool
  deriving DecidableEq, Repr

/-- An entry pushed to a write stream and not yet written (spec/15 R224, R225): the q register, the byte writes by raw
address, and whether the take that pushed it has committed. -/
structure Pushed where
  q         : Nat
  writes    : List (Nat × Byte)
  committed : Bool
  deriving DecidableEq, Repr

/-- A loop being captured or replayed: the LOOP bundle's address, the length in bundles, the trip-count register and the
bundles captured so far by position (spec/11 R141). -/
structure Loop where
  head : W64
  len  : Nat
  xt   : BitVec 5
  body : List (Nat × BitVec 128)
  deriving DecidableEq, Repr

/-- The loop state of a restart image (spec/03 R40). -/
structure LoopImage where
  head  : W64
  len   : Nat
  xt    : BitVec 5
  pos   : Nat
  count : W64
  deriving DecidableEq, Repr

/-- The restart image of a take (spec/03 R40). -/
structure Image where
  o    : Vector Oreg 8
  sd   : Vector SdState 16
  loop : Option LoopImage
  deriving DecidableEq, Repr

/-- The take in force: the watched lines it has logged, the watched bytes it has written and not yet published, the
poisoned units its whole writes have cleared, the units that its copies poison with it, the granules whose FULL setting is held with it, the cores it has reserved,
the rows it will free, whether it has performed an atomic, how often it was discarded by pre-emption and how often
replayed, and its age; `started` says that its first bundle has been dispatched (spec/03 R37-R41, spec/05 R55, spec/07 R85-R89, R103, spec/15 R230, spec/27 R350). -/
structure Take where
  started  : Bool
  log      : List Nat
  overlay  : Store (Option Byte)
  clean    : List Nat
  foul     : List Nat
  full     : List Nat
  spawns   : List Nat
  frees    : List Nat
  atomic   : Bool
  preempts : Nat
  replays  : Nat
  ageStep  : W64
  ageClk   : W64
  deriving DecidableEq, Repr

/-- A valid entry of the supply latch (spec/13 R183). -/
structure Supply where
  addr  : W64
  slot  : Nat
  value : W64
  used  : Bool
  deriving DecidableEq, Repr

/-- A leaf translation held in a cache (spec/05 R59, R63): `base` is the first address it maps, `size` its bytes, `frame`
the device-physical address of the first byte; `mixed` says that it was taken from one of 16 entries of a 64 KiB page that differ (R60). -/
structure Tlb where
  asid  : Nat
  base  : Nat
  size  : Nat
  frame : Nat
  x     : Bool
  own   : Bool
  h     : Bool
  wa    : Bool
  w     : Bool
  mixed : Bool
  deriving DecidableEq, Repr

/-- A bundle that dispatch has latched: its 128 bits, the next slot to issue, whether the rest of its slots are skipped
(the LOOP bundle of a loop of no trips), whether it replays the head of a captured loop, and the target of a taken branch
(spec/11 R132, R141, R142, spec/13 R171). -/
structure Bundle where
  word   : BitVec 128
  slot   : Nat
  skip   : Bool
  replay : Bool
  target : Option W64
  deriving DecidableEq, Repr

/-- A blocking slot that its port still has to issue while other ports have gone on: its bundle at that slot, the bundle's address
and number, the x registers as the slot reads them, the watched line at which it stalls, the granules that it reads, whether it
empties them, and whether it is an acquire (spec/11 R142, R144, R146, spec/07 R89, R99). -/
structure Slipped where
  bundle   : Bundle
  pc       : W64
  no       : Nat
  x        : Vector W64 32
  stalled  : Option (Nat × W64)
  granules : List Nat
  clears   : Bool
  acquires : Bool
  deriving DecidableEq, Repr

/-- The repetitions that a REP bundle still has to issue, and the number already issued (spec/11 R140). -/
structure Rep where
  left : Nat
  done : Nat
  deriving DecidableEq, Repr

/-- What a core does: it holds no shot; it runs; a blocking or stalling slot waits; it is stopped; its handler shot has
ended and firmware has not yet read ACTION (spec/13 R188, spec/25). -/
inductive Run where
  | idle | running | blocked | stopped | ended
  deriving DecidableEq, Repr

/-- Why a core is stopped. -/
inductive Why where
  | none | trap | preempt | power | loaded
  deriving DecidableEq, Repr

/-- The kinds of shot (spec/03 R28, R36, spec/25 R333, R337). -/
inductive ShotKind where
  | placed | spawned | handler | event
  deriving DecidableEq, Repr

/-- The shot a core holds. -/
structure Shot where
  launch : Nat
  index  : Nat
  kind   : ShotKind
  deriving DecidableEq, Repr

/-- Membership of a gang: the cores of its members in order, lead first, and this member's position (spec/03 R34). -/
structure Gang where
  cores : List Nat
  pos   : Nat
  deriving DecidableEq, Repr

/-- What firmware keeps of a shot whose registers stand in its context's save area: its core, what it is, why it was stopped,
its detail words, what its faulting access did (`acc` of Trap), and the age of its take (spec/25 R333, R338, R345, spec/07 R89). -/
structure Saved where
  core    : Nat
  shot    : Shot
  gang    : Option Gang
  why     : Why
  dw0     : W64
  dw1     : W64
  acc     : Nat
  ageStep : W64
  ageClk  : W64
  deriving DecidableEq, Repr

/-- A reservation that an idle core holds (spec/03 R36). -/
structure Reservation where
  by_    : Nat
  launch : Nat
  asid   : Nat
  entry  : W64
  args   : List W64
  ready  : Bool
  deriving DecidableEq, Repr

/-- A mode write in flight: the value and the bundles that still use the previous value (spec/09 R128). -/
structure ModeWrite where
  value : W64
  left  : Nat
  deriving DecidableEq, Repr

/-- A core: every register and every piece of control state that spec/01 R13 and the chapters give it. `qhead` is the physical
slot of the oldest entry of each q register (spec/13 R186), `acc` what the access of the recorded translation fault did
(spec/25 R345), `stalled` the watched line at which a read has stalled for a reader slot and since when (spec/07 R89). -/
structure Core where
  x         : Vector W64 32
  p         : Vector W64 8
  v         : Vector Lanes 32
  q         : Vector (List Lanes) 16
  qhead     : Vector Nat 16
  m         : Vector Moment 16
  z         : Vector (Vector Lanes 64) 8
  rows      : Vector Nat 8
  parked    : List Nat
  bufs      : Store Byte
  scales    : Store Byte
  o         : Vector Oreg 8
  sd        : Vector Sd 16
  cd        : Vector (BitVec 512) 32
  hold      : Vector (Option Lanes) 2
  fmt       : W64
  mom       : W64
  fmtWrites : List ModeWrite
  momWrites : List ModeWrite
  flags     : BitVec 6
  flagsNew  : BitVec 6
  fmtSet    : Bool
  nvclamp    : Bool
  nvclampNew : Bool
  momSet    : Bool
  cause     : W64
  tinfo     : W64
  takepc    : W64
  tser      : W64
  dw0       : W64
  dw1       : W64
  acc       : Nat
  stalled   : Option (Nat × W64)
  ctx       : W64
  pc        : W64
  bundle    : Option Bundle
  rep       : Option Rep
  slipped   : List Slipped
  loop      : Option Loop
  image     : Image
  take      : Take
  pushed    : List Pushed
  latch     : List Supply
  tlb       : List Tlb
  oldCode   : List (Nat × BitVec 128)
  upsets    : Store Nat
  pending   : Option Trap
  run       : Run
  why       : Why
  shot      : Option Shot
  gang      : Option Gang
  issued    : Nat
  resident  : Nat
  reserved  : Option Reservation
  evicting  : Bool
  evictAt   : W64
  ballast   : Option Nat
  fenced    : Bool
  testing   : Bool
  skips     : Nat
  passes    : Nat
  passed    : Bool
  gated     : Bool
  holdAt    : W64
  awaitStep : Option W64
  deriving DecidableEq, Repr

/-- The metadata of a device-memory line (spec/05 R76). -/
structure LineMeta where
  poison : Bool
  zeroed : Bool
  keyv   : Nat
  deriving DecidableEq, Repr

/-- A watch-directory entry: the writer slot and the reader slots, each an agent and its take serial (spec/07 R86). -/
structure Watch where
  writer  : Option (Nat × W64)
  readers : List (Nat × W64)
  deriving DecidableEq, Repr

/-- A reply of a base die or controller on its way: `bad` lists the lines, by position, that come back with their POISON bit
(spec/05 R72). -/
structure Reply where
  src    : Nat
  tag    : Nat
  len    : Nat
  status : Nat
  data   : List Byte
  bad    : List Nat
  deriving DecidableEq, Repr

/-- Storage by raw address (spec/13 R186): bytes; EMPTY granules; claimed granules with the claiming agent plus one; poisoned
scratchpad granules; line metadata; wrong bits or lanes of code words; the watch directory; the frame key table; for each
LPDDR6 line the key pair, as 256 × (its number) + version, and the tweak that it was last encrypted with (spec/05 R78, R79;
`mem` holds the plaintext of such a line, log 14), and for each encrypted tier block the GEN of its key and its tweak; the
syndromes of code words in error that were written raw; the owner of each 64 KiB scratchpad block; the MiB of each die's D-pad configured as combine buffer; base-die replies on their way and
the tags each requester port has in use; the cluster translation caches; after a restart, the lines of device memory that are no
longer ZEROED by it, and none before (spec/29 R374 step 3). -/
structure Storage where
  mem      : List Host.Cell
  empty    : Store Bool
  claims   : Store Nat
  poison   : Store Bool
  lines    : Store LineMeta
  flaws    : Store Nat
  watch    : Store Watch
  keys     : Store Nat
  seals    : Store (Option (Nat × Nat))
  syns     : Store (Option Nat)
  owners   : Store Nat
  cbMiB    : Store Nat
  replies  : List Reply
  tags     : List (Nat × Nat)
  clusterTlb : Store (List Tlb)
  blank    : Option (Store Bool)
  deriving DecidableEq, Repr

/-- An add held at a home for an open take, in program order (spec/07 R96); that of a collective is tested for overflow when it
reaches the home, not when it is issued (R97). -/
structure HeldAdd where
  agent  : Nat
  key    : Nat
  amount : W64
  op     : Option Nat
  tested : Bool
  deriving DecidableEq, Repr

/-- What the home of a counter reports to firmware: an add from outside any take that was not applied, because it would
overflow or because the counter is poisoned (spec/07 R97, spec/27 R351). -/
structure AddReport where
  key      : Nat
  amount   : W64
  poisoned : Bool
  deriving DecidableEq, Repr

/-- The counters, by die and index: value, owning context, poison mark, wrong bits, the held adds, and what the homes have
reported to firmware (spec/07 R95-R97, spec/27 R347, R351). -/
structure Sync where
  value    : Store W64
  owner    : Store Nat
  poisoned : Store Bool
  flaws    : Store Nat
  held     : List HeldAdd
  reports  : List AddReport
  deriving DecidableEq, Repr

/-- The kinds of engine operation that stay in flight (spec/21 R279). -/
inductive OpKind where
  | copy | coll | put
  deriving DecidableEq, Repr

/-- An engine operation issued and not completed: the issuing agent (a core, or 4096 + die for a dispatcher) and port, its
context and launch, whether its take has committed, the bundle that issued it, its descriptor, the counter it adds to and the
amount; the source bytes that it has still to read and the bytes that it will write, in order, by raw address and whether they
are watched (level 9 names operand-buffer bytes of its core, level 10 scale bytes); the bytes in hand (`row`) and the poisoned ones
among them (`bads`); for a put the stream, slot, position, token (in `step`), allocation (in `dsts`), whether it sets
the arrival bit and whether it is late; for a collective the step and the destination bytes (in `dsts`)
(spec/21 R279-R285, R294-R297, R302). -/
structure EngineOp where
  id        : Nat
  kind      : OpKind
  agent     : Nat
  port      : Nat
  asid      : Nat
  launch    : Option Nat
  committed : Bool
  bundle    : Nat
  desc      : BitVec 512
  step      : W64
  key       : Option Nat
  amount    : W64
  reads     : List (Nat × Bool)
  writes    : List (Nat × Bool)
  dsts      : List Nat
  bads      : List Nat
  stream    : Nat
  slot      : Nat
  pos       : Nat
  fresh     : Bool
  late      : Bool
  row       : List Byte
  deriving DecidableEq, Repr

/-- A live slot of a combine stream: `bad` holds the poisoned elements by position, `seq` is the allocation number of the stream,
`turn` its place among the slots of the stream that have become complete, `uid` the model's own name for the allocation, by which a put finds it (spec/21 R301-R305). -/
structure CSlot where
  token    : Nat
  pairs    : List (Nat × W32)
  arrived  : Nat
  putBy    : List (Nat × Nat)
  rows     : List (Nat × List Byte)
  bad      : List (Nat × Nat)
  seq      : Nat
  uid      : Nat
  deadline : Option Nat
  complete : Bool
  turn     : Nat
  late     : Bool
  deriving DecidableEq, Repr

/-- A combine stream's configuration, slots, recent set and statistics; the slots that have been used, in the order of their last
allocation, but for those that a cbdrop freed since, latest first (spec/21 R299-R307, spec/03 R48). -/
structure CStream where
  configured : Bool
  asid       : Nat
  launch     : Nat
  counter    : Option Nat
  rlen       : Nat
  rofs       : Nat
  timeout    : Nat
  rlg        : Nat
  sub        : Nat
  tmodeStep  : Bool
  tokenOrder : Bool
  outBf16    : Bool
  inF32      : Bool
  k          : Nat
  d          : Nat
  s          : Nat
  ring       : W64
  slots      : Store (Option CSlot)
  recent     : List Nat
  used       : List Nat
  dropped    : List Nat
  completed  : Nat
  nextSeq    : Nat
  late       : Nat
  released   : Nat
  timeouts   : Nat
  drops      : Nat
  deriving DecidableEq, Repr

/-- What a slot can change outside the registers that a held slot's record keeps, and that would outlive a discard: operand buffers
and scale memories of its core, bytes, presence, poison, line metadata and keys, and combine streams (spec/25 R326). -/
structure Effects where
  bufs    : Store Byte
  scales  : Store Byte
  mem     : List Host.Cell
  empty   : Store Bool
  poison  : Store Bool
  lines   : Store LineMeta
  seals   : Store (Option (Nat × Nat))
  blank   : Option (Store Bool)
  streams : Store CStream
  deriving DecidableEq, Repr

/-- The effects that slots of core `agent` had while slots earlier in program order were held: `past` names those by bundle number
and slot (spec/25 R326; log 98). -/
structure Undo where
  agent  : Nat
  past   : List (Nat × Nat)
  before : Effects
  after  : Effects
  deriving DecidableEq, Repr

/-- A core as it stood when a port of it held a slot, named by bundle number and slot, and the number that the next engine operation
had then (spec/25 R326; log 98). -/
structure Held where
  agent : Nat
  key   : Nat × Nat
  next  : Nat
  core  : Core
  deriving DecidableEq, Repr

/-- The engines: operations in flight, the number of the next one, and the combine streams by 16 × die + stream; and, while a port of
a core holds a slot, what a trap of that slot takes back (spec/25 R326). -/
structure Engines where
  ops     : List EngineOp
  next    : Nat
  streams : Store CStream
  held    : List Held
  undos   : List Undo
  deriving DecidableEq, Repr

/-- One row of a context's collective group table: group, this device's rank, the number of ranks (spec/21 R294). -/
structure Group where
  group : Nat
  rank  : Nat
  n     : Nat
  deriving DecidableEq, Repr

/-- An entry of an arrival log, by the fields of R104 and the counter that HANDLE names. -/
structure Arrival where
  key    : Nat
  handle : Nat
  value  : W64
  src    : Nat
  origin : Nat
  seq    : Nat
  deriving DecidableEq, Repr

/-- The arrival log of one die for a context whose counters it has saved: `size` is the number of entries that it has room for,
`seq` the number of the next one (spec/07 R104). -/
structure Arrivals where
  die   : Nat
  saved : List (Nat × W64)
  log   : List Arrival
  size  : Nat
  seq   : Nat
  deriving DecidableEq, Repr

/-- A context (spec/03 R46, spec/05 R51 R58, spec/23 R323, spec/25, spec/31, spec/33 R393). `saved` lists its shots whose
registers stand in its save area, `keyGen` numbers its key pair among all that were generated (spec/05 R79), `away` its scratchpad blocks that others have claimed (R341), `parts` the 4 KiB
parts that the device holds of larger pages which the host owns (spec/05 R68); `halted` says
that a restart left it stopped (spec/29 R374). -/
structure Context where
  live     : Bool
  pres     : Nat
  dev      : Nat
  det      : Bool
  feat     : W64
  prio     : W64
  pwrcap   : W64
  root     : Nat
  pads     : Store Nat
  frameVa  : W64
  saveRaw  : Nat
  logRaw   : Nat
  logNext  : Nat
  keyv     : List Nat
  keyGen   : Nat
  session  : Option Nat
  detached : Option W64
  ticket   : List Byte
  wrong    : Nat
  exposed  : List (W64 × W64 × Bool)
  groups   : List Group
  arrivals : List Arrivals
  sliceAt  : Store W64
  saved    : List Saved
  away     : List Nat
  parts    : List Nat
  halted   : Bool
  deriving DecidableEq, Repr

/-- A user queue in a context's queue table (spec/23 R310, R318). -/
structure Queue where
  asid   : Nat
  num    : Nat
  header : W64
  age    : Nat
  deriving DecidableEq, Repr

/-- A packet that the selection has started, before its effect: the dispatcher's own copy (spec/23 R313, R318). -/
structure Picked where
  asid   : Nat
  num    : Nat
  index  : W64
  packet : List Byte
  deriving DecidableEq, Repr

/-- A packet started and not completed (spec/23 R317). -/
structure Started where
  asid   : Nat
  num    : Nat
  index  : W64
  launch : Option Nat
  op     : Option Nat
  deriving DecidableEq, Repr

/-- A completion add that the dispatcher has still to make (spec/23 R317, R323). -/
structure CompAdd where
  asid  : Nat
  key   : Nat
  value : W64
  deriving DecidableEq, Repr

/-- The kinds of loop level (spec/03 R25). -/
inductive LevelKind where
  | temporal | cores | dies
  deriving DecidableEq, Repr

/-- A loop level after the launch's extents are in place (spec/03 R25). -/
structure Level where
  kind   : LevelKind
  xreg   : Nat
  step   : W64
  extent : Nat
  cores  : Bool
  gang   : Bool
  deriving DecidableEq, Repr

/-- A started launch (spec/03 R24-R43, spec/23 R316-R323); `span` is the first die and the number of dies over which its D index was
divided at its start (R29). -/
structure Launch where
  id      : Nat
  asid    : Nat
  num     : Nat
  index   : W64
  prio    : Nat
  entry   : W64
  cls     : Nat
  levels  : List Level
  args    : List W64
  record  : W64
  handler : W64
  comp    : Option (Nat × W64)
  span    : Nat × Nat
  nextJ   : Store Nat
  ended   : Nat
  status  : Nat
  cause   : Nat
  tstart  : Option W64
  dies    : Nat
  ranOn   : List Nat
  retired : Bool
  deriving DecidableEq, Repr

/-- An event that belongs to no take and is to be delivered; `waits` says since when it waits for a core, `given` that its handler
has been started (spec/25 R335, R337). -/
structure Event where
  cause  : Cause
  launch : Nat
  asid   : Nat
  die    : Nat
  w0     : W64
  w1     : W64
  waits  : Option W64
  given  : Bool
  deriving DecidableEq, Repr

/-- The contexts, queues, packets and launches of the dispatchers and of firmware. -/
structure Sched where
  contexts : Store Context
  queues   : List Queue
  rr       : Store Nat
  selected : Store (Option Picked)
  started  : List Started
  adds     : List CompAdd
  launches : List Launch
  next     : Nat
  events   : List Event
  deriving DecidableEq, Repr

/-- What a message of the Verend host transport holds: a request (spec/31 R388), or the host's reply to a FETCH (R389). -/
inductive Ask where
  | open_ (proposal : W64)
  | create (arg : W64)
  | destroy
  | reclaim (ticket : List Byte)
  | expose (va pages : W64) (write : Bool)
  | append (queue : W64) (packet : List Byte)
  | read (va bytes : W64)
  | write (va : W64) (data : List Byte)
  | add (handle value : W64)
  | recall (va : W64)
  | give (va : W64) (data : List Byte)
  | report (nonce : List Byte)
  | cert
  | mread (object offset bytes : W64)
  | scrubRate (offset : W64) (data : List Byte)
  | disposal (data : List Byte)
  | close
  | fetched (va : W64) (granted : Bool) (data : List Byte)
  deriving DecidableEq, Repr

/-- A session of the Verend host transport: `next` is the sequence number of the next request to be performed, `sent` that of
the next message of the device, `waiting` holds messages that arrived early or wait, `taken` numbers the replies to FETCHes that were
taken up while a request before them waits, `replies` what has been answered, by the request's
and the reply's sequence numbers (spec/31 R380, R381, R385). -/
structure Session where
  sid     : Nat
  alive   : Bool
  opened  : Bool
  feat    : W64
  keyIn   : List Byte
  keyOut  : List Byte
  next    : Nat
  taken   : List Nat
  sent    : Nat
  waiting : List (Req × Ask)
  replies : List (Nat × Nat × List Byte)
  deriving DecidableEq, Repr

/-- A page move in flight: its FETCH was last sent at `since`, in session `sid` (spec/05 R68, R69, spec/31 R389). -/
structure PageMove where
  asid  : Nat
  va    : W64
  sid   : Nat
  seq   : Nat
  since : W64
  deriving DecidableEq, Repr

/-- What the module has sent to the outside: a reply of a session and a FETCH of a session, each with its datagram, an ACCEPT
datagram, STEP to the peer of an Oxsin port, a contribution to a collective step on the Oxsin ports, a restart report (spec/31, spec/21 R294, spec/29 R375). -/
inductive Sent where
  | reply (sid seq : Nat) (body datagram : List Byte)
  | fetch (sid seq asid : Nat) (va : W64) (datagram : List Byte)
  | step (port : Nat) (value : W64)
  | accept (sid : Nat) (datagram : List Byte)
  | notReady
  | contribution (asid group : Nat) (step : W64) (data : List Byte)
  | level (n : Nat)
  | stalled (asid key : Nat)
  | report
  deriving DecidableEq, Repr

/-- The outside as the module sees it: sessions, page moves in flight, what has been sent, Oxsin ports. -/
structure Peers where
  sessions : List Session
  nextSid  : Nat
  moves    : List PageMove
  outbox   : List Sent
  ports    : Vector Nat 16
  portAt   : Vector W64 16
  deriving DecidableEq, Repr

/-- The boot state (spec/31 R377). -/
inductive Boot where
  | off | recovery | up
  deriving DecidableEq, Repr

/-- Where the module stands between a power-fail warning and the resumption of its shots: warned, quiescent, drained, or booted
with a valid slate that waits for the restart (spec/29). -/
inductive Phase where
  | normal | warned | quiet | drained | restarting
  deriving DecidableEq, Repr

/-- A set entry of the hibernation list (spec/13 R192, spec/29 R360). -/
structure HibEntry where
  raw   : W64
  pages : Nat
  prio  : Nat
  flags : Nat
  deriving DecidableEq, Repr

/-- The restart report (spec/29 R375, spec/31 R388 object 0x04). -/
structure Report where
  regions : List (Nat × Nat × Nat)
  stopped : List (Nat × Nat)
  pages   : List (Nat × W64)
  deriving DecidableEq, Repr

/-- What the fixed image of a drain holds beside listed bytes: the 4 KiB blocks of firmware-reserved device memory in the order
in which the tier holds them, and firmware's own records, which have no layout: contexts, queue tables, started launches and
carried operations, counter ownership, the frame key table, block ownership, the context each core is resident for, the cores
that have passed in the current round, the list, the sites of the live dies, and the pages that quiescence named
(spec/29 R362, R374; log 53). -/
structure Kept where
  blocks   : List Nat
  sched    : Sched
  owner    : Store Nat
  poisoned : Store Bool
  ops      : List EngineOp
  nextOp   : Nat
  keys     : Store Nat
  owners   : Store Nat
  resident : List (Nat × Nat)
  passed   : List Nat
  hiblist  : Store (Option HibEntry)
  sites    : List Nat
  pages    : List (Nat × W64)
  deriving DecidableEq, Repr

/-- A logical die: CURLIM as written, lost phases, screen round, whether it is shed (spec/27 R354, spec/29 R371,
spec/33 R395). -/
structure Die where
  curlim : Nat
  lost   : Nat
  round  : Nat
  shed   : Bool
  deriving DecidableEq, Repr

/-- A cluster: the hot flag, the clock steps taken off for heat in 100 MHz, the next core to be screened (spec/27 R354,
spec/33 R398). -/
structure Cluster where
  hot     : Bool
  steps   : Nat
  screen  : Nat
  deriving DecidableEq, Repr

/-- A stacked pair: the clock caps of its two layers in 100 MHz (10 is no cap), those that the sensor has come to and those that the
dispatcher's estimate asks for, of which the lower is in force; since when its measured currents have stayed within 5 %, and the wake requests of its in-rush arbiter in request order (spec/23
R320, spec/33 R394, R397). -/
structure Pair where
  capUp  : Nat
  capLo  : Nat
  needUp : Nat
  needLo : Nat
  calm   : Option W64
  wakes  : List Nat
  deriving DecidableEq, Repr

/-- The module as a whole; `kept` is what the last drain saved, while its slate stands, `keyGens` counts the key pairs generated
for contexts, `stepAt` is CLK at the last STEP boundary (spec/31 R391), `stepw` is STEP at the power-fail warning, `rejected` says
that a rejected slate is kept (spec/29 R366, R373). -/
structure Module where
  boot     : Boot
  lives    : List Nat
  images   : Vector (List (List Byte)) 2
  bootm    : List Byte
  clk      : W64
  step     : W64
  stepNext : Option W64
  stepAt   : W64
  hibbud   : W64
  keyGens  : Nat
  kept     : Option Kept
  hiblist  : Store (Option HibEntry)
  hibheld  : Bool
  level    : Nat
  levelAt  : W64
  genmax   : Nat
  phase    : Phase
  stepw    : W64
  rejected : Bool
  report   : Option Report
  dailies  : Store W64
  lastSyn  : Store Nat
  scrub    : Vector Nat 7
  dies     : Vector Die 8
  clusters : Vector Cluster 128
  pairs    : Vector Pair 64
  grace    : Nat
  window   : Nat
  udp      : Nat
  deriving DecidableEq, Repr

/-- What moves next: a core or control core, or one of the events of spec/95 (log 3). -/
inductive Move where
  | core (n : Nat)
  | event (i : Instr)
  deriving DecidableEq, Repr

/-- The module. `core` is the agent `cur` that moves (a core number, or 2048 + 2 × die + k for a control core); the others
stand in `cores`, by number. `agenda` holds the moves that come next and `fresh` the number of the next draw of a free value
(log 3, log 5). -/
structure State where
  core   : Core
  cur    : Nat
  cores  : Store Core
  st     : Storage
  sync   : Sync
  eng    : Engines
  sched  : Sched
  peers  : Peers
  mod    : Module
  agenda : List Move
  fresh  : Nat
  deriving DecidableEq, Repr

/-- FMT after reset (spec/09 R125). -/
def fmtReset : W64 := 0x0000000088880000

/-- MOM after reset (spec/09 R127). -/
def momReset : W64 := 0x000000003F800000

/-- An unloaded stream descriptor (spec/15 R220). -/
def Sd.reset : Sd :=
  { cursor := 0, qn := 0, bound := false, loaded := false, write := false, sx := false, esize := 0,
    str := Vector.replicate 4 0, cnt := Vector.replicate 4 0, base := 0 }

/-- The stream state of an unloaded descriptor. -/
def SdState.reset : SdState := { cursor := 0, qn := 0, bound := false, loaded := false }

/-- The restart image of a shot that has just started. -/
def Image.reset : Image :=
  { o := Vector.replicate 8 { addr := 0, stride := 0 }, sd := Vector.replicate 16 SdState.reset, loop := none }

/-- A take with no effects. -/
def Take.reset : Take :=
  { started := false, log := [], overlay := [], clean := [], foul := [], full := [], spawns := [], frees := [], atomic := false, preempts := 0,
    replays := 0, ageStep := 0, ageClk := 0 }

/-- A core after reset: it holds no shot; its registers stand at the values of a shot start (log 6). -/
def Core.reset : Core :=
  { x := Vector.replicate 32 0, p := (Vector.replicate 8 0).set 0 (BitVec.allOnes 64),
    v := Vector.replicate 32 Lanes.zero, q := Vector.replicate 16 [], qhead := Vector.replicate 16 0,
    m := Vector.replicate 16 { mean := Lanes.zero, var := Lanes.zero },
    z := Vector.replicate 8 (Vector.replicate 64 Lanes.zero), rows := Vector.replicate 8 0, parked := [],
    bufs := [], scales := [], o := Vector.replicate 8 { addr := 0, stride := 0 }, sd := Vector.replicate 16 Sd.reset,
    cd := Vector.replicate 32 0, hold := Vector.replicate 2 none, fmt := fmtReset, mom := momReset, fmtWrites := [],
    momWrites := [], flags := 0, flagsNew := 0, fmtSet := false, nvclamp := false, nvclampNew := false, momSet := false,
    cause := 0, tinfo := 0, takepc := 0, tser := 0, dw0 := 0, dw1 := 0, acc := 0, stalled := none, ctx := 0, pc := 0, bundle := none, rep := none, slipped := [],
    loop := none, image := Image.reset, take := Take.reset, pushed := [], latch := [], tlb := [], oldCode := [],
    upsets := [], pending := none, run := .idle, why := .none, shot := none, gang := none, issued := 0, resident := 0,
    reserved := none, evicting := false, evictAt := 0, ballast := none, fenced := false, testing := false, skips := 0,
    passes := 0, passed := false, gated := false, holdAt := 0, awaitStep := none }

/-- PRIO after reset (spec/23 R323). -/
def prioReset : W64 := 0x000007D000010003

/-- PWRCAP after reset (spec/33 R393). -/
def pwrcapReset : W64 := 0x0000000000640A00

/-- A context that does not exist; FEAT holds the version alone (spec/31 R385). -/
def Context.none : Context :=
  { live := false, pres := 0, dev := 0, det := false, feat := 0x0100000000000000, prio := prioReset, pwrcap := pwrcapReset, root := 0,
    pads := [], frameVa := 0, saveRaw := 0, logRaw := 0, logNext := 0, keyv := [], keyGen := 0, session := Option.none,
    detached := Option.none, ticket := [], wrong := 0, exposed := [], groups := [], arrivals := [], sliceAt := [],
    saved := [], away := [], parts := [], halted := false }

/-- A stream that is not configured. -/
def CStream.none : CStream :=
  { configured := false, asid := 0, launch := 0, counter := Option.none, rlen := 0, rofs := 0, timeout := 0, rlg := 0,
    sub := 0, tmodeStep := false, tokenOrder := false, outBf16 := false, inF32 := false, k := 0, d := 0, s := 0,
    ring := 0, slots := [], recent := [], used := [], dropped := [], completed := 0, nextSeq := 0, late := 0, released := 0, timeouts := 0, drops := 0 }

/-- The machine right after reset: nothing booted, no context, no shot, storage with nothing listed (log 6, log 7). -/
def State.reset : State :=
  { core := Core.reset, cur := 0, cores := [],
    st := { mem := [], empty := [], claims := [], poison := [], lines := [], flaws := [], watch := [], keys := [], seals := [], syns := [], blank := none,
            owners := [], cbMiB := [], replies := [], tags := [], clusterTlb := [] },
    sync := { value := [], owner := [], poisoned := [], flaws := [], held := [], reports := [] },
    eng := { ops := [], next := 0, streams := [], held := [], undos := [] },
    sched := { contexts := [], queues := [], rr := [], selected := [], started := [], adds := [], launches := [],
               next := 0, events := [] },
    peers := { sessions := [], nextSid := 1, moves := [], outbox := [], ports := Vector.replicate 16 0,
               portAt := Vector.replicate 16 0 },
    mod := { boot := .off, lives := [], images := Vector.replicate 2 [], bootm := [], clk := 0, step := 0,
             stepNext := none, stepAt := 0, hibbud := 0, keyGens := 0, kept := none, hiblist := [], hibheld := false, level := 0, levelAt := 0, genmax := 0,
             phase := .normal, stepw := 0, rejected := false, report := none, dailies := [], lastSyn := [],
             scrub := #v[10, 10, 10, 600, 3600, 0, 86400],
             dies := Vector.replicate 8 { curlim := 375, lost := 0, round := 0, shed := false },
             clusters := Vector.replicate 128 { hot := false, steps := 0, screen := 0 },
             pairs := Vector.replicate 64 { capUp := 10, capLo := 10, needUp := 10, needLo := 10, calm := none, wakes := [] },
             grace := 10000000, window := 600, udp := 47103 },
    agenda := [], fresh := 0 }

end Sys2Proof.Machine
end

