-- ==== Sys2Proof/Machine/Regs.lean ====
section
/-! DEFINITION. Results of an effect, the agents, and the one home of every register: reads and writes of x, p, v, m, z, o
and the accumulator rows (spec/11 R147, spec/17 R231), and the free values. -/

namespace Sys2Proof.Machine

/-- Why a slot does not end in its own effect: it raises a trap, with the storage unit whose error was met if there is one;
it waits, with no effect or in the state given; it stalls for a reader slot of a watched line (spec/07 R89); or a register word in
error was read (spec/27 R350). -/
inductive Stop where
  | trap (t : Trap) (unit : Option Nat := none)
  | wait
  | waitIn (s : State)
  | stall (line : Nat)
  | flaw (word : Nat)
  deriving DecidableEq, Repr

/-- The result of an effect. -/
abbrev Res (α : Type) := Except Stop α

/-- Raises a trap. -/
def trap {α : Type} (c : Cause) (detail : Nat := 0) (w0 w1 : W64 := 0) : Res α :=
  .error (.trap { cause := c, detail := detail, w0 := w0, w1 := w1 })

/-- Raises a trap unless the condition holds. -/
def need (b : Bool) (c : Cause) (detail : Nat := 0) (w0 w1 : W64 := 0) : Res Unit :=
  if b then .ok () else trap c detail w0 w1

/-- The code of a cause (spec/25 R330). -/
def Cause.code : Cause → Nat
  | .illegal => 0x01 | .bundle => 0x02 | .priv => 0x03 | .qovf => 0x04 | .qunf => 0x05 | .stream => 0x06
  | .page => 0x07 | .prot => 0x08 | .align => 0x09 | .race => 0x0A | .watchcap => 0x0B | .bank => 0x0C
  | .park => 0x0D | .spawnbusy => 0x0E | .diverge => 0x0F | .fmt => 0x10 | .negvar => 0x11 | .detread => 0x12
  | .counter => 0x13 | .cbfit => 0x14 | .cbdup => 0x15 | .cbmiss => 0x16 | .cbtime => 0x17 | .collabort => 0x18
  | .poison => 0x19 | .softerr => 0x1A | .screen => 0x1B | .user => 0x1C | .preempt => 0x1D | .power => 0x1E
  | .savepoison => 0x1F | .grace => 0x20 | .killed => 0x21

/-- The `k`-th item of the free value of this step (log 5). -/
def State.free (s : State) (k : Nat) : Nat := Config.free s.fresh k

/-- The state after a free value has been drawn. -/
def State.drawn (s : State) : State := { s with fresh := s.fresh + 1 }

/-! Agents. -/

/-- The core with a number. -/
def State.coreAt (s : State) (n : Nat) : Core := if n = s.cur then s.core else Store.get Core.reset s.cores n

/-- Every core that is listed, with its number; the others are as after reset. -/
def State.listed (s : State) : List (Nat × Core) := (s.cur, s.core) :: s.cores

/-- Makes core `n` the one that moves. -/
def State.focus (s : State) (n : Nat) : State :=
  if n = s.cur then s
  else { s with core := Store.get Core.reset s.cores n, cur := n,
                cores := Store.set Core.reset (Store.set Core.reset s.cores n Core.reset) s.cur s.core }

/-- Applies a change to core `n`. -/
def State.onCore (s : State) (n : Nat) (f : Core → Core) : State :=
  if n = s.cur then { s with core := f s.core }
  else { s with cores := Store.set Core.reset s.cores n (f (Store.get Core.reset s.cores n)) }

/-- Runs an operation of the current core on core `n`, and returns to the present one. -/
def State.withCore (s : State) (n : Nat) (f : State → State) : State := (f (s.focus n)).focus s.cur

/-- An agent number above the cores names a control core (spec/13, firmware-only instructions). -/
def isControl (n : Nat) : Bool := 2048 ≤ n

/-- The logical die of an agent (spec/01 R12). -/
def dieOf (n : Nat) : Nat := if isControl n then (n - 2048) / 2 else n / 256

/-- The cluster of a core, counted over the module: 16 × die + cluster. -/
def clusterOf (n : Nat) : Nat := n / 16

/-- The stacked pair of a core, counted over the module: 8 × die + pair (spec/01 R11). -/
def pairOf (n : Nat) : Nat := n / 32

/-- The ASID the current agent runs for: that of CTX; firmware is 0 (spec/05 R63). -/
def State.asid (s : State) : Nat := if isControl s.cur then 0 else field s.core.ctx 15 0

/-- The context of an ASID. -/
def State.context (s : State) (a : Nat) : Context := Store.get Context.none s.sched.contexts a

/-- The current agent's context. -/
def State.ctx (s : State) : Context := s.context s.asid

/-- The state with a context changed. -/
def State.setContext (s : State) (a : Nat) (c : Context) : State :=
  { s with sched := { s.sched with contexts := Store.set Context.none s.sched.contexts a c } }

/-- The number of live dies (spec/31 R379); a module that has not booted counts as whole. -/
def State.liveDies (s : State) : Nat := if s.mod.lives.isEmpty then 8 else s.mod.lives.length

/-- The logical dies of a device of a presentation: the first and how many (spec/01 R16, R18). -/
def deviceDies (live pres dev : Nat) : Nat × Nat :=
  if pres = 0 then (0, live) else if pres = 1 then (4 * dev, 4) else (dev, 1)

/-- The first logical die and the die count N of a context's device. -/
def State.dies (s : State) (c : Context) : Nat × Nat := deviceDies s.liveDies c.pres c.dev

/-- FEAT of the context that runs; firmware sees what the module offers (spec/31 R385). -/
def State.feat (s : State) : W64 := if isControl s.cur then BitVec.allOnes 64 else s.ctx.feat

/-- The context runs in deterministic mode (spec/03 R46). -/
def State.det (s : State) : Bool := !isControl s.cur && s.core.ctx.getLsbD 30

/-! Registers of the current core. -/

/-- x register `n`; x0 reads 0 (spec/11 R147). -/
def State.x (s : State) (n : BitVec 5) : W64 := if n = 0 then 0 else s.core.x[n.toNat]

/-- Writes x register `n`; a write to x0 is ignored (spec/11 R147). -/
def State.setX (s : State) (n : BitVec 5) (v : W64) : State :=
  if n = 0 then s else { s with core := { s.core with x := s.core.x.set n.toNat v } }

/-- p register `n`; p0 reads all ones (spec/11 R147). -/
def State.p (s : State) (n : BitVec 3) : W64 := if n = 0 then BitVec.allOnes 64 else s.core.p[n.toNat]

/-- Writes p register `n`; a write to p0 is ignored (spec/11 R147). -/
def State.setP (s : State) (n : BitVec 3) (v : W64) : State :=
  if n = 0 then s else { s with core := { s.core with p := s.core.p.set n.toNat v } }

/-- Writes lane 0 of p register `n` and leaves the other lanes (spec/13 R168). -/
def State.setPLane0 (s : State) (n : BitVec 3) (b : Bool) : State :=
  s.setP n ((s.p n &&& ~~~1#64) ||| (if b then 1#64 else 0#64))

/-- Lane 0 of the guard (spec/13 R161). -/
def State.guard (s : State) (g : BitVec 3) : Bool := (s.p g).getLsbD 0

/-- Lane `i` is active under the guard (spec/15 R193). -/
def State.active (s : State) (g : BitVec 3) (i : Nat) : Bool := (s.p g).getLsbD i

/-- v register `n` (of 32). -/
def State.v (s : State) (n : Nat) : Lanes := s.core.v.getD n Lanes.zero

/-- Writes v register `n`. -/
def State.setV (s : State) (n : Nat) (a : Lanes) : State :=
  { s with core := { s.core with v := s.core.v.setIfInBounds n a } }

/-- m register `n` (of 16). -/
def State.m (s : State) (n : Nat) : Moment := s.core.m.getD n { mean := Lanes.zero, var := Lanes.zero }

/-- Writes m register `n`. -/
def State.setM (s : State) (n : Nat) (a : Moment) : State :=
  { s with core := { s.core with m := s.core.m.setIfInBounds n a } }

/-- Row `r` of z register `z`. -/
def State.zrow (s : State) (z r : Nat) : Lanes := (s.core.z.getD z (Vector.replicate 64 Lanes.zero)).getD r Lanes.zero

/-- Writes row `r` of z register `z` (spec/17 R231). -/
def State.setZrow (s : State) (z r : Nat) (a : Lanes) : State :=
  { s with core := { s.core with
      z := s.core.z.setIfInBounds z ((s.core.z.getD z (Vector.replicate 64 Lanes.zero)).setIfInBounds r a) } }

/-- The rows of z register `z`. -/
def State.zreg (s : State) (z : Nat) : Vector Lanes 64 := s.core.z.getD z (Vector.replicate 64 Lanes.zero)

/-- Writes all rows of z register `z`. -/
def State.setZ (s : State) (z : Nat) (a : Vector Lanes 64) : State :=
  { s with core := { s.core with z := s.core.z.setIfInBounds z a } }

/-- ROWS of z register `z`; 0 when it is not configured (spec/17 R231, R252). -/
def State.rows (s : State) (z : Nat) : Nat := s.core.rows.getD z 0

/-- Offset register `n`. -/
def State.o (s : State) (n : Nat) : Oreg := s.core.o.getD n { addr := 0, stride := 0 }

/-- Writes offset register `n`. -/
def State.setO (s : State) (n : Nat) (r : Oreg) : State :=
  { s with core := { s.core with o := s.core.o.setIfInBounds n r } }

/-- `advance(oj)`: the address plus the stride, modulo 2^21 (spec/17 R237). -/
def State.advance (s : State) (n : Nat) : State :=
  let r := s.o n
  s.setO n { r with addr := r.addr + r.stride.setWidth 21 }

/-- Stream descriptor `n`. -/
def State.sd (s : State) (n : Nat) : Sd := s.core.sd.getD n Sd.reset

/-- Writes stream descriptor `n`. -/
def State.setSd (s : State) (n : Nat) (d : Sd) : State :=
  { s with core := { s.core with sd := s.core.sd.setIfInBounds n d } }

/-- The entries that q register `n` holds, oldest first. -/
def State.q (s : State) (n : Nat) : List Lanes := s.core.q.getD n []

/-- Writes the entries of q register `n`. -/
def State.setQ (s : State) (n : Nat) (es : List Lanes) : State :=
  { s with core := { s.core with q := s.core.q.setIfInBounds n es } }

/-- Takes the oldest entry off q register `n`. -/
def State.dropHead (s : State) (n : Nat) : State :=
  { s with core := { s.core with q := s.core.q.setIfInBounds n ((s.q n).drop 1),
                                 qhead := s.core.qhead.setIfInBounds n ((s.core.qhead.getD n 0 + 1) % 8) } }

/-- Empties q register `n` (spec/15 R219, R226). -/
def State.emptyQ (s : State) (n : Nat) : State :=
  { s with core := { s.core with q := s.core.q.setIfInBounds n [], qhead := s.core.qhead.setIfInBounds n 0 } }

/-- The descriptor that feeds q register `n`; none when the register is linked (spec/11 R148, spec/15 R223). -/
def State.boundTo (s : State) (n : Nat) : Option Nat :=
  (List.range 16).find? fun k => (s.sd k).bound && (s.sd k).qn == n

/-- Adds a message to what the module has sent (log 3). -/
def State.send (s : State) (m : Sent) : State :=
  { s with peers := { s.peers with outbox := s.peers.outbox ++ [m] } }

end Sys2Proof.Machine
end

