-- ==== Sys2Proof/Machine/Memory.lean ====
section
/-! DEFINITION. Storage by raw address (spec/13 R186): where a device-physical address lies (spec/01 R16-R18, spec/05 R61),
bytes, poison and errors (spec/27 R347-R353), presence and claims (spec/05 R53-R55), and the watch directory
(spec/07 R85-R91). -/

namespace Sys2Proof.Machine

/-- Raw address of a level and its offset bits 59:0. -/
def rawOf (level off : Nat) : Nat := level * 2 ^ 60 + off

/-- LEVEL of a raw address. -/
def levelOf (raw : Nat) : Nat := raw / 2 ^ 60

/-- OFFSET of a raw address: bits 48:0. -/
def offsetOf (raw : Nat) : Nat := raw % 2 ^ 49

/-- The U-pad of core `n`. -/
def uPad (n off : Nat) : Nat := rawOf 0 (n * 2 ^ 49 + off)

/-- The C-pad of cluster `c` of the module. -/
def cPad (c off : Nat) : Nat := rawOf 1 (c * 2 ^ 53 + off)

/-- The D-pad of logical die `d`. -/
def dPad (d off : Nat) : Nat := rawOf 2 (d * 2 ^ 57 + off)

/-- 1 GiB. -/
def GiB : Nat := 2 ^ 30

/-- The first stack and the stack count of a device (spec/01 R16, R18). -/
def stacksOf (live pres dev : Nat) : Nat × Nat :=
  if pres = 0 then (0, 16) else if pres = 1 then (8 * dev, 8)
  else (16 * dev / live, 16 * (dev + 1) / live - 16 * dev / live)

/-- The first channel pair and the pair count of a device (spec/01 R16, R18). -/
def pairsOf (live pres dev : Nat) : Nat × Nat :=
  if pres = 0 then (0, 32) else if pres = 1 then (16 * dev, 16)
  else (32 * dev / live, 32 * (dev + 1) / live - 32 * dev / live)

/-- The raw address of a device-physical address of a device; none outside both ranges (spec/01 R17, spec/05 R61). -/
def place (live pres dev pa : Nat) : Option Nat :=
  let blk := pa / 4096
  let (s0, n) := stacksOf live pres dev
  if pa < n * (48 * GiB) then
    some (rawOf 3 ((s0 + blk % n) * (48 * GiB) + blk / n * 4096 + pa % 4096))
  else if 0x040000000000 ≤ pa then
    let q := pa - 0x040000000000
    let b := q / 4096
    let (p0, k) := pairsOf live pres dev
    if q < k * (128 * GiB) then
      some (rawOf 4 ((p0 + b % k) * (128 * GiB) + b / k * 4096 + q % 4096))
    else none
  else none

/-- The raw address of a device-physical address of a context's device. -/
def State.place (s : State) (c : Context) (pa : Nat) : Option Nat := Machine.place s.liveDies c.pres c.dev pa

/-- Bytes of a level's storage under one die, cluster or core, or in the module (spec/01 R14, R15). -/
def levelSize : Nat → Nat
  | 0 => 0x200000 | 1 => 0x1000000 | 2 => 0x10000000 | 3 => 768 * GiB | 4 => 4096 * GiB | 6 => 3072 * GiB | _ => 0

/-- The storage unit that poison marks: a 16-byte granule of a pad, a 64-byte line of device memory (spec/27 R351). -/
def unitSize (raw : Nat) : Nat := if levelOf raw < 3 then 16 else 64

/-- First byte of the poison unit that holds a byte. -/
def unitOf (raw : Nat) : Nat := raw / unitSize raw * unitSize raw

/-- First byte of the code word that holds a byte: 8 bytes in a pad, a line in device memory (spec/27 R347). -/
def wordOf (raw : Nat) : Nat := if levelOf raw < 3 then raw / 8 * 8 else raw / 64 * 64

/-- First byte of the granule that holds a byte. -/
def granuleOf (raw : Nat) : Nat := raw / 16 * 16

/-- First byte of the 64-byte line that holds a byte. -/
def lineOf (raw : Nat) : Nat := raw / 64 * 64

/-- A line as after reset (spec/05 R76). -/
def LineMeta.reset : LineMeta := { poison := false, zeroed := false, keyv := 0 }

/-- A line of device memory is one of those that a restart has made ZEROED and nothing has changed since (spec/29 R374 step 3). -/
def State.isBlank (s : State) (raw : Nat) : Bool :=
  s.st.blank.any fun t => (levelOf raw == 3 || levelOf raw == 4) && !Store.get false t raw

/-- The metadata of the line that starts at a raw address. -/
def State.line (s : State) (raw : Nat) : LineMeta :=
  if s.isBlank raw then { LineMeta.reset with zeroed := true } else Store.get LineMeta.reset s.st.lines raw

/-- The state with a line's metadata changed. -/
def State.setLine (s : State) (raw : Nat) (m : LineMeta) : State :=
  { s with st := { s.st with lines := Store.set LineMeta.reset s.st.lines raw m
                             blank := s.st.blank.map fun t => Store.set false t raw true } }

/-- The raw address of the entry of an LPDDR6 frame in the frame key table, 16 bits each, in HBM that firmware reserves (spec/05 R80;
the place is free, log 107). -/
def keyPlace (raw : Nat) : Nat := rawOf 3 (Config.firmwarePlace 0 4 % (12288 * GiB) + 2 * (offsetOf raw / 4096))

/-- The ASID that the frame key table in HBM gives a frame (spec/05 R80). -/
def State.tableKey (s : State) (raw : Nat) : Nat :=
  (Store.get 0 s.st.mem (keyPlace raw)).toNat + 256 * (Store.get 0 s.st.mem (keyPlace raw + 1)).toNat

/-- The ASID whose key pair an LPDDR6 line uses: that of the entry its controller holds cached, else the table's (spec/05 R80;
log 107). -/
def State.keyAsid (s : State) (raw : Nat) : Nat :=
  let k := Store.get 0 s.st.keys (raw / 4096)
  if k ≠ 0 then k else s.tableKey raw

/-- The key versions that an ASID holds live; firmware's is version 0 (spec/05 R79). -/
def State.keyVersions (s : State) (a : Nat) : List Nat := if a = 0 then [0] else (s.context a).keyv

/-- A line of LPDDR6 whose KEYV names no live version of its frame's context reads as poisoned, unless it is ZEROED
(spec/05 R79, R80). -/
def State.staleKey (s : State) (raw : Nat) : Bool :=
  let m := s.line raw
  levelOf raw == 4 && !m.zeroed && !(s.keyVersions (s.keyAsid raw)).contains m.keyv

/-! Encryption of LPDDR6 lines (spec/05 R78-R80, log 14). -/

/-- The device-physical address of an LPDDR6 byte in a device (spec/01 R17, spec/05 R61). -/
def lpddrAddr (live pres dev raw : Nat) : Nat :=
  let (p0, k) := pairsOf live pres dev
  let o := offsetOf raw % (128 * GiB)
  0x040000000000 + (o / 4096 * k + (offsetOf raw / (128 * GiB) - p0)) * 4096 + o % 4096

/-- The tweak of a line at a device-physical address: address bits 51:6 in bits 45:0, KEYV in bits 55:48 (R78). -/
def tweakOf (addr keyv : Nat) : Nat := addr / 64 % 2 ^ 46 + keyv % 2 ^ 8 * 2 ^ 48

/-- The number of an ASID's key pair; firmware's is 0 (R79). -/
def State.keyGen (s : State) (a : Nat) : Nat := if a = 0 then 0 else (s.context a).keyGen

/-- The key pair, as 256 × (its number) + version, and the tweak under which a line is written or read now in version `v` of its
frame's context (R78, R80). Of a line of ASID 0 the tweak is its device-physical address under presentation ONE (DESIGN CHOICE,
log 14). -/
def State.sealNow (s : State) (l v : Nat) : Nat × Nat :=
  let a := s.keyAsid l
  let c := s.context a
  let addr := if a = 0 then lpddrAddr s.liveDies 0 0 l else lpddrAddr s.liveDies c.pres c.dev l
  (256 * s.keyGen a + v % 256, tweakOf addr v)

/-- The key pair and tweak that a line was last encrypted with; firmware's where nothing has been written. -/
def State.sealOf (s : State) (l : Nat) : Nat × Nat :=
  (Store.get none s.st.seals l).getD (0, tweakOf (lpddrAddr s.liveDies 0 0 l) 0)

/-- The line is decrypted with the key and tweak that encrypted it, or has no key in play (R78-R80). -/
def State.unlocked (s : State) (l : Nat) : Bool :=
  levelOf l != 4 || (s.line l).zeroed || s.sealOf l == s.sealNow l (s.line l).keyv

/-- Bytes cut or filled to a length. -/
def sized (n : Nat) (l : List Byte) : List Byte := (l ++ List.replicate n 0).take n

/-- The key pair that a number names, the data key before the tweak key. -/
def keyOf (n : Nat) : List Byte := sized 64 (Config.keyPair (n / 256) (n % 256))

/-- The byte that decryption gives: the plaintext, or what another key or tweak makes of the ciphertext (R78-R80). -/
def State.plain (s : State) (raw : Nat) : Byte :=
  let l := lineOf raw
  if s.unlocked l then Store.get 0 s.st.mem raw
  else
    let (k0, t0) := s.sealOf l
    let (k1, t1) := s.sealNow l (s.line l).keyv
    let cipher := xtsEncrypt (keyOf k0) t0 (Store.getList 0 s.st.mem l 64)
    (xtsDecrypt (keyOf k1) t1 cipher).getD (raw - l) 0

/-- A line is encrypted afresh in version `v` of its frame's context, its bytes as decryption gives them (R78, R79). -/
def State.reseal (s : State) (l v : Nat) : State :=
  if levelOf l ≠ 4 then s
  else
    let mem := if s.unlocked l then s.st.mem
      else Store.setList 0 s.st.mem l ((List.range 64).map fun k => s.plain (l + k))
    { s with st := { s.st with mem := mem, seals := Store.set none s.st.seals l (some (s.sealNow l v)) } }

/-- The newest key version of a line's frame (R79). -/
def State.newestKey (s : State) (l : Nat) : Nat := (s.keyVersions (s.keyAsid l)).getLastD 0

/-- The version in which a write encrypts a line: the one that its KEYV names while that is live, else the newest (R79, R80). -/
def State.keyFor (s : State) (l : Nat) : Nat :=
  let v := (s.line l).keyv
  if (s.keyVersions (s.keyAsid l)).contains v then v else s.newestKey l

/-- Wrong bits (or byte-lanes, in a line) of a code word. -/
def State.flaws (s : State) (w : Nat) : Nat := Store.get 0 s.st.flaws w

/-- The decoder reports a code word uncorrectable: two wrong bits or lanes always; with more, it may miss (spec/05 R77,
spec/27 R347). -/
def State.uncorrectable (s : State) (w : Nat) : Bool :=
  let n := s.flaws w
  n == 2 || (2 < n && s.free w % 2 == 0)

/-- The poison unit of a byte holds no trustworthy data: it is marked, its key is stale, or a word of it decodes as
uncorrectable (spec/27 R351). -/
def State.poisoned (s : State) (raw : Nat) : Bool :=
  let u := unitOf raw
  if levelOf raw < 3 then
    Store.get false s.st.poison u || (!s.st.flaws.isEmpty && (s.uncorrectable u || s.uncorrectable (u + 8)))
  else (s.line u).poison || s.staleKey u || (!s.st.flaws.isEmpty && s.uncorrectable u)

/-- The byte stored at a raw address, as memory holds it; an unlisted byte is 0 (log 2). -/
def State.memByte (s : State) (raw : Nat) : Byte := Store.get 0 s.st.mem raw

/-- The byte that a read of storage returns; a byte of a word that was miscorrected is free (spec/05 R77). -/
def State.stored (s : State) (raw : Nat) : Byte :=
  if s.st.flaws.isEmpty then s.plain raw
  else if 2 < s.flaws (wordOf raw) then BitVec.ofNat 8 (s.free (raw + 1)) else s.plain raw

/-- The byte that a read by the current agent returns: its own take's unpublished write, else the stored byte
(spec/07 R84). -/
def State.byte (s : State) (raw : Nat) : Byte :=
  match Store.get none s.core.take.overlay raw with
  | some b => b
  | none => s.stored raw

/-- `n` bytes from a raw address. -/
def State.bytes (s : State) (raw n : Nat) : List Byte := (List.range n).map fun k => s.byte (raw + k)

/-- The number that bytes hold, least significant first (spec/00 R1). -/
def leNat : List Byte → Nat
  | [] => 0
  | b :: bs => b.toNat + 256 * leNat bs

/-- The `n` bytes of a number, least significant first (spec/00 R1). -/
def leBytes : Nat → Nat → List Byte
  | 0, _ => []
  | n + 1, v => BitVec.ofNat 8 v :: leBytes n (v / 256)

/-! The dailies (spec/27 R353). -/

/-- The die that counts the events of a raw address (spec/27 R352, R353). -/
def State.patrolDie (s : State) (raw : Nat) : Nat :=
  let l := levelOf raw
  if l = 3 then offsetOf raw / (48 * GiB) * s.liveDies / 16
  else if l = 4 then offsetOf raw / (128 * GiB) * s.liveDies / 32
  else if l = 6 then 0
  else raw / 2 ^ 57 % 8

/-- Word `w` of the dailies entry of die `d` and level `v`. -/
def State.daily (s : State) (d v w : Nat) : W64 := Store.get 0 s.mod.dailies ((7 * d + v) * 8 + w)

/-- The state with a word of a dailies entry changed. -/
def State.setDaily (s : State) (d v w : Nat) (x : W64) : State :=
  { s with mod := { s.mod with dailies := Store.set 0 s.mod.dailies ((7 * d + v) * 8 + w) x } }

/-- Adds one to a count of the dailies, saturating (spec/27 R353). -/
def State.countDaily (s : State) (raw w : Nat) : State :=
  let d := s.patrolDie raw
  let v := levelOf raw
  let x := s.daily d v w
  s.setDaily d v w (if x = BitVec.allOnes 64 then x else x + 1)

/-- Bits of the syndrome of a code word, by its raw address: 7 of SECDED (39,32), 8 of (72,64), 12 symbols of a line, 16 of a tier
segment (spec/27 R347, R353). -/
def synBits (raw : Nat) : Nat :=
  match levelOf raw with
  | 3 | 4 => 96
  | 5 => if [0, 2, 3, 4, 5].contains (raw % 2 ^ 20 / 2 ^ 16) then 7 else 8
  | 6 => 128
  | _ => 8

/-- The syndrome of a code word in error: that of the image where it was written raw, free where an upset struck (spec/27 R353),
zero-extended. -/
def State.syndromeOf (s : State) (raw : Nat) : Nat :=
  match Store.get none s.st.syns raw with
  | some v => v % 2 ^ synBits raw
  | none => Config.syndrome s.fresh raw % 2 ^ synBits raw

/-- Records an error event in the dailies of its level: kind 1 corrected, 2 uncorrected (spec/27 R353). -/
def State.countEvent (s : State) (raw kind : Nat) : State :=
  let d := s.patrolDie raw
  let v := levelOf raw
  let s1 := s.countDaily raw (kind - 1)
  let s2 := s1.setDaily d v 3 (BitVec.ofNat 64 raw)
  let s3 := s2.setDaily d v 4 s.mod.step
  let keep := s3.daily d v 5
  let s4 := s3.setDaily d v 5 ((keep &&& 0xFF00) ||| BitVec.ofNat 64 kind)
  { s4 with mod := { s4.mod with
      lastSyn := Store.set 0 s4.mod.lastSyn (7 * d + v) (s.syndromeOf raw) } }

/-- Marks the poison unit of a byte (spec/27 R351). -/
def State.markPoison (s : State) (raw : Nat) : State :=
  let u := unitOf raw
  if levelOf raw < 3 then { s with st := { s.st with poison := Store.set false s.st.poison u true } }
  else s.setLine u { s.line u with poison := true }

/-- The state with the errors of one code word gone. -/
def State.clearFlaw (s : State) (w : Nat) : State :=
  { s with st := { s.st with flaws := Store.set 0 s.st.flaws w 0, syns := Store.set none s.st.syns w none } }

/-- Removes repeats from a list, keeping first occurrences. -/
def dedup (l : List Nat) : List Nat := l.foldl (fun acc a => if acc.contains a then acc else acc ++ [a]) []

/-- A word of three or more wrong bits or lanes that the decoder takes for another code word: it stands corrected to wrong data
from now on, each byte free (spec/05 R77, spec/27 R347). A line's metadata stays as it was (DESIGN CHOICE, log 16). -/
def State.miscorrect (s : State) (w : Nat) : State :=
  let n := if levelOf w < 3 then 8 else 64
  let t := s.clearFlaw w
  if 3 ≤ levelOf w ∧ (s.line w).zeroed then t
  else (({ t with st := { t.st with
    mem := Store.setList 0 t.st.mem w ((List.range n).map fun k => BitVec.ofNat 8 (s.free (w + k + 1))) } }).reseal w (s.line w).keyv)

/-- What reading a code word does to it: a correctable error is written back and counted, an uncorrectable one poisons its
unit and is counted (spec/27 R350, R351); one that is miscorrected counts as corrected (spec/05 R77). A word that has been found
uncorrectable is not found again: its unit is poisoned (DESIGN CHOICE, log 94). -/
def State.settleWord (s : State) (w : Nat) : State :=
  if s.flaws w = 0 then s
  else if s.flaws w = 1 then (s.countEvent w 1).clearFlaw w
  else if s.uncorrectable w then ((s.markPoison w).countEvent w 2).clearFlaw w
  else (s.countEvent w 1).miscorrect w

/-- Settles every code word that holds one of the bytes. -/
def State.settle (s : State) (raws : List Nat) : State :=
  if s.st.flaws.isEmpty then s else (dedup (raws.map wordOf)).foldl State.settleWord s

/-! Writes. -/

/-- The bytes written cover the whole of the unit of `size` bytes at `u`. -/
def covers (ws : List (Nat × Byte)) (u size : Nat) : Bool :=
  (List.range size).all fun k => ws.any fun w => w.1 == u + k

/-- A write to the unit at `u` is dropped: it is partial and the unit is poisoned (spec/05 R74, spec/27 R351). -/
def State.drops (s : State) (ws : List (Nat × Byte)) (u : Nat) : Bool := s.poisoned u && !covers ws u (unitSize u)

/-- What the writes do to the marks of one unit that they are not dropped from: a whole write clears poison; a line loses
ZEROED and has the key version it is written under (spec/05 R74, R79, R80). -/
def State.touchUnit (s : State) (ws : List (Nat × Byte)) (u : Nat) : State :=
  let whole := covers ws u (unitSize u)
  if levelOf u < 3 then
    if whole then { s with st := { s.st with poison := Store.set false s.st.poison u false } } else s
  else
    let m := s.line u
    s.setLine u { poison := m.poison && !whole, zeroed := false,
                  keyv := if levelOf u = 4 then s.keyFor u else 0 }

/-- The units that a list of byte writes touches. -/
def unitsOf (ws : List (Nat × Byte)) : List Nat := dedup (ws.map fun w => unitOf w.1)

/-- Performs byte writes to storage, LPDDR6 lines under the key of their frames that their KEYV names: partial writes to poisoned units are dropped
and counted, an error that such a write meets being counted as it is found, and the others are stored (spec/05 R74, spec/27 R351,
R353). -/
def State.writeBytes (s : State) (ws : List (Nat × Byte)) : State :=
  let us := unitsOf ws
  let bad := us.filter (s.drops ws)
  let good := us.filter fun u => !(s.drops ws u)
  let ok := ws.filter fun w => !bad.contains (unitOf w.1)
  let s1 := s.settle ((ok.map (·.1)).filter fun a => !covers ws (wordOf a) (if levelOf a < 3 then 8 else 64))
  let s2 := if s1.st.flaws.isEmpty then s1 else (dedup (ok.map fun w => wordOf w.1)).foldl State.clearFlaw s1
  let s2k := good.foldl (fun t u => t.reseal u (t.keyFor u)) s2
  let s3 := { s2k with st := { s2k.st with mem := ok.foldl (fun m w => Store.set 0 m w.1 w.2) s2k.st.mem } }
  let s4 := good.foldl (fun t u => t.touchUnit ws u) s3
  bad.foldl (fun t u => (((t.settleWord (wordOf u)).settleWord (wordOf (u + 8))).markPoison u).countDaily u 2) s4

/-- The byte writes of a run of bytes from a raw address. -/
def runOf (raw : Nat) (bs : List Byte) : List (Nat × Byte) := (List.range bs.length).map fun k => (raw + k, bs.getD k 0)

/-- Firmware writes the frame key entry of a 4 KiB block of LPDDR6, and its controller holds it; a block of HBM has none
(spec/05 R80). -/
def State.setKey (s : State) (raw a : Nat) : State :=
  if levelOf raw = 4 then
    let t := s.writeBytes (runOf (keyPlace raw) (leBytes 2 a))
    { t with st := { t.st with keys := Store.set 0 t.st.keys (raw / 4096) a } }
  else s

/-- The LPDDR6 frames that the controllers hold as an ASID's, by raw address. -/
def State.keyedFrames (s : State) (a : Nat) : List Nat := (s.st.keys.filter fun e => e.2 == a).map fun e => 4096 * e.1

/-! Presence and claims (spec/05 R53-R55). -/

/-- The granule at `g` is EMPTY. -/
def State.isEmpty (s : State) (g : Nat) : Bool := Store.get false s.st.empty g

/-- The agent that claims the granule. -/
def State.claimer (s : State) (g : Nat) : Option Nat :=
  match Store.get 0 s.st.claims g with | 0 => none | k + 1 => some k

/-- Sets a granule FULL and drops any claim on it (spec/05 R53, R54). -/
def State.setFull (s : State) (g : Nat) : State :=
  { s with st := { s.st with empty := Store.set false s.st.empty g false, claims := Store.set 0 s.st.claims g 0 } }

/-- Sets a granule EMPTY and drops any claim on it (spec/05 R53, R54). -/
def State.setEmpty (s : State) (g : Nat) : State :=
  { s with st := { s.st with empty := Store.set false s.st.empty g true, claims := Store.set 0 s.st.claims g 0 } }

/-- The current agent claims a granule (spec/05 R54). -/
def State.claim (s : State) (g : Nat) : State :=
  { s with st := { s.st with claims := Store.set 0 s.st.claims g (s.cur + 1) } }

/-! The watch directory (spec/07 R85-R91). -/

/-- A line with no entry. -/
def Watch.none : Watch := { writer := Option.none, readers := [] }

/-- The entry of a line. -/
def State.watchOf (s : State) (l : Nat) : Watch := Store.get Watch.none s.st.watch l

/-- The state with a line's entry changed. -/
def State.setWatch (s : State) (l : Nat) (w : Watch) : State :=
  { s with st := { s.st with watch := Store.set Watch.none s.st.watch l w } }

/-- A die agent coded as the SRC field of R71: 4 the dispatcher, 7 the combine buffer controller, 8 the collective engine,
9 the host transport engine. -/
def dieAgent (die k : Nat) : Nat := 2 ^ 13 + die * 2 ^ 10 + k

/-- An agent coded as the SRC field of R71 with port bits 00; 4096 + die is the dispatcher of a die. -/
def srcOf (n : Nat) : Nat :=
  if 4096 ≤ n then dieAgent (n - 4096) 4
  else if isControl n then dieAgent ((n - 2048) / 2) (2 + n % 2) else n * 4

/-- Detail word 1 of RACE (spec/07 R88). -/
def raceWord (other : Nat × W64) (kind : Nat) : W64 :=
  BitVec.ofNat 64 (other.2.toNat % 2 ^ 16 * 2 ^ 48 + srcOf other.1 * 2 ^ 34 + kind)

/-- Adds a line to the take log; WATCHCAP when it would be the 257th (spec/07 R85). -/
def State.logLine (s : State) (l : Nat) (va : W64) : Res State :=
  if s.core.take.log.contains l then .ok s
  else if s.core.take.log.length < 256 then
    .ok { s with core := { s.core with take := { s.core.take with log := s.core.take.log ++ [l] } } }
  else trap .watchcap 0 (va &&& ~~~63#64)

/-- The take of core `n` is older than that of core `m`: STEP, clk and core number at which its TAKEPC was first entered
(spec/07 R89). -/
def State.older (s : State) (n m : Nat) : Bool :=
  let a := (s.coreAt n).take
  let b := (s.coreAt m).take
  if a.ageStep ≠ b.ageStep then decide (a.ageStep.toNat < b.ageStep.toNat)
  else if a.ageClk ≠ b.ageClk then decide (a.ageClk.toNat < b.ageClk.toNat)
  else decide (n < m)

/-- The watched lines at which a core is stalled for a reader slot, and since when: that of its blocked slot, and those of the slots
that its ports hold (spec/07 R89, spec/11 R142). -/
def Core.stalls (c : Core) : List (Nat × W64) :=
  (if c.run = .blocked then c.stalled.toList else []) ++ c.slipped.filterMap (·.stalled)

/-- A core is stalled for a reader slot of a line (spec/07 R89). -/
def Core.stallsAt (c : Core) (l : Nat) : Bool := c.stalls.any fun e => e.1 == l

/-- The stalled readers of a line that take a free slot of it before the current agent does: the older ones, and all where it is
not stalled there itself (spec/07 R89). -/
def State.ahead (s : State) (l : Nat) : Nat :=
  (s.cores.filter fun e => e.2.stallsAt l && (!s.core.stallsAt l || s.older e.1 s.cur)).length

/-- The check of a watched read of a line: the log, then the directory; of several readers that wait for a slot the oldest takes
it (spec/07 R85, R87, R89). -/
def State.watchRead (s : State) (l : Nat) (va : W64) : Res State := do
  let s1 ← s.logLine l va
  let e := s.watchOf l
  match e.writer with
  | some b => if b.1 = s.cur then .ok s1 else trap .race 0 (va &&& ~~~63#64) (raceWord b 1)
  | none =>
    if e.readers.any (·.1 == s.cur) then .ok s1
    else if e.readers.length + s.ahead l < 3 then .ok (s1.setWatch l { e with readers := e.readers ++ [(s.cur, s.core.tser)] })
    else .error (.stall l)

/-- The check of a watched write of a line (spec/07 R85-R87); which of several readers is named is free. -/
def State.watchWrite (s : State) (l : Nat) (va : W64) : Res State := do
  let s1 ← s.logLine l va
  let e := s.watchOf l
  let others := e.readers.filter (·.1 != s.cur)
  match e.writer with
  | some b => if b.1 = s.cur then .ok s1 else trap .race 0 (va &&& ~~~63#64) (raceWord b 3)
  | none =>
    match others with
    | [] => .ok (s1.setWatch l { writer := some (s.cur, s.core.tser), readers := [] })
    | r :: _ => trap .race 0 (va &&& ~~~63#64) (raceWord (others.getD (s.free l % others.length) r) 2)

/-- Another agent's open write stands on the line. -/
def State.openWrite (s : State) (l : Nat) : Bool :=
  match (s.watchOf l).writer with | some b => b.1 != s.cur | none => false

/-- The line's entry holds a slot of some take. -/
def State.openSlot (s : State) (l : Nat) : Bool := (s.watchOf l).writer.isSome || !(s.watchOf l).readers.isEmpty

/-- Releases every slot of agent `n` on a line. -/
def State.unwatch (s : State) (n l : Nat) : State :=
  let e := s.watchOf l
  s.setWatch l { writer := e.writer.filter (·.1 != n), readers := e.readers.filter (·.1 != n) }

end Sys2Proof.Machine
end

