-- ==== Sys2Proof/Machine/Translate.lean ====
section
/-! DEFINITION. Virtual addresses: the scratchpad windows (spec/05 R49-R51), the page-table walk (R57-R61), the order of
the checks over a footprint (R62), and the translation caches (R63). -/

namespace Sys2Proof.Machine

/-- What an access does, as the checks of R62 see it. -/
structure Acc where
  write    : Bool := false
  fetch    : Bool := false
  presence : Bool := false
  deriving DecidableEq, Repr

/-- What the access of a trap did, as `acc` of Trap codes it. -/
def Acc.code (a : Acc) : Nat := (if a.write then 1 else 0) + (if a.fetch then 2 else 0) + (if a.presence then 4 else 0)

/-- A failed check: its place in the order of R62, the cause and the detail. -/
structure Fail where
  rank   : Nat
  cause  : Cause
  detail : Nat
  deriving DecidableEq, Repr

/-- One byte of a footprint, resolved: its virtual and raw addresses, and whether it is watched. -/
structure Touch where
  va      : W64
  raw     : Nat
  watched : Bool
  deriving DecidableEq, Repr

/-- PAGE NONCANON (R62). -/
def Fail.nonCanon : Fail := ⟨0, .page, 1⟩
/-- PAGE NOPAD (R62). -/
def Fail.noPad : Fail := ⟨1, .page, 6⟩
/-- PAGE NOTVALID (R62). -/
def Fail.notValid : Fail := ⟨2, .page, 2⟩
/-- PAGE BADPTE (R62). -/
def Fail.badPte : Fail := ⟨2, .page, 3⟩
/-- PAGE BADPA (R62). -/
def Fail.badPa : Fail := ⟨3, .page, 4⟩
/-- PAGE HOSTOWNED (R62). -/
def Fail.hostOwned : Fail := ⟨4, .page, 5⟩
/-- PROT GRANT (R62). -/
def Fail.grant : Fail := ⟨5, .prot, 3⟩
/-- PROT FETCH (R62). -/
def Fail.fetch : Fail := ⟨6, .prot, 2⟩
/-- PROT PRESENCE (R62). -/
def Fail.presence : Fail := ⟨7, .prot, 4⟩
/-- PROT WRITE (R62). -/
def Fail.write : Fail := ⟨8, .prot, 1⟩
/-- ALIGN MISALIGNED (R62). -/
def Fail.misaligned : Fail := ⟨9, .align, 1⟩

/-- Bits 63:57 all equal bit 56 (spec/05 R57). -/
def canonical (va : W64) : Bool := field va 63 57 == (if va.getLsbD 56 then 127 else 0)

/-- First address of the scratchpad windows (R49). -/
def padBase : Nat := 0xFFFFFC0000000000

/-- The U-pad window (R49). -/
def uBase : Nat := 0xFFFFFF0000000000

/-- The C-pad window (R49). -/
def cBase : Nat := 0xFFFFFE0000000000

/-- The raw address that a scratchpad window address names; none is NOPAD (R49, R14). -/
def State.padRaw (s : State) (va : W64) : Option Nat :=
  let a := va.toNat
  if uBase ≤ a then
    if a - uBase < 0x200000 ∧ s.cur < 2048 then some (uPad s.cur (a - uBase)) else none
  else if cBase ≤ a then
    let o := a - cBase
    if o < 16 * 0x1000000 then some (cPad (16 * dieOf s.cur + o / 0x1000000) (o % 0x1000000)) else none
  else
    let o := a - padBase
    let k := o / 0x10000000
    let (d0, n) := s.dies s.ctx
    let r := o % 0x10000000
    if k < n ∧ r + Store.get 0 s.st.cbMiB (d0 + k) * 0x100000 < 0x10000000 then some (dPad (d0 + k) r) else none

/-- The attribute bits of the 64 KiB that a window address lies in: 1 GRANT, 2 WRITE, 4 WATCH (R51); firmware has every
range, unwatched. -/
def State.padBits (s : State) (va : W64) : Nat :=
  if isControl s.cur then 3 else Store.get 0 s.ctx.pads ((va.toNat - padBase) / 65536)

/-- The 8-byte table entry at a device-physical address (R58); one in a poisoned line is free (DESIGN CHOICE, log 108). -/
def State.entryAt (s : State) (c : Context) (pa : Nat) : Except Fail W64 :=
  match s.place c pa with
  | some raw => .ok (if s.poisoned raw then BitVec.ofNat 64 (s.free raw) else BitVec.ofNat 64 (leNat ((List.range 8).map fun k => s.stored (raw + k))))
  | none => .error Fail.badPa

/-- FRAME of an entry, as a device-physical address (R59). -/
def frameOf (e : W64) : Nat := field e 51 12 * 4096

/-- The fields of an entry that shall be zero are zero (R59). -/
def entryZero (e : W64) : Bool := field e 63 52 == 0 && field e 11 8 == 0

/-- The leaf as a cached translation. -/
def leafOf (asid : Nat) (e : W64) (base size frame : Nat) : Tlb :=
  { asid := asid, base := base, size := size, frame := frame, x := e.getLsbD 7, own := e.getLsbD 6, h := e.getLsbD 5,
    wa := e.getLsbD 4, w := e.getLsbD 1, mixed := false }

/-- One level of the walk that is not the last: the next table, or a leaf where one is allowed (R58, R59). -/
def walkEntry (level : Nat) (asid : Nat) (va : Nat) (e : W64) : Except Fail (Nat ⊕ Tlb) :=
  let size := if level = 2 then 2 ^ 30 else 2 ^ 21
  if !e.getLsbD 0 then .error Fail.notValid
  else if !entryZero e then .error Fail.badPte
  else if e.getLsbD 2 then
    if level = 1 ∨ e.getLsbD 3 ∨ frameOf e % size ≠ 0 then .error Fail.badPte
    else .ok (.inr (leafOf asid e (va / size * size) size (frameOf e)))
  else if field e 7 3 ≠ 0 ∨ e.getLsbD 1 then .error Fail.badPte
  else .ok (.inl (frameOf e))

/-- The last level: a 4 KiB page, or one of 16 entries of a 64 KiB page (R58, R60). When the 16 entries differ in more than
FRAME bits 15:12, which of them translates is free. -/
def State.walkLast (s : State) (c : Context) (asid va table : Nat) : Except Fail Tlb := do
  let i := va / 4096 % 512
  let e ← s.entryAt c (table + 8 * i)
  let group ← (List.range 16).mapM fun k => s.entryAt c (table + 8 * (i / 16 * 16 + k))
  let strip := fun (g : W64) => g &&& ~~~0xF000#64
  let wide := group.any fun g => g.getLsbD 0 && g.getLsbD 3
  let mixed := wide && !(group.all fun g => strip g == strip e)
  let e' := if mixed then group.getD (s.free (va / 65536) % 16) e else e
  if !e'.getLsbD 0 then .error Fail.notValid
  else if !entryZero e' || !e'.getLsbD 2 then .error Fail.badPte
  else if wide then .ok { leafOf asid e' (va / 65536 * 65536) 65536 (frameOf e' / 65536 * 65536) with mixed := mixed }
  else .ok (leafOf asid e' (va / 4096 * 4096) 4096 (frameOf e'))

/-- The walk of a context's tables from the root (R58, R62). -/
def State.walk (s : State) (asid : Nat) (va : W64) : Except Fail Tlb := do
  let c := s.context asid
  let a := va.toNat
  let e1 ← s.entryAt c (c.root + 8 * field va 56 39)
  match ← walkEntry 1 asid a e1 with
  | .inr t => .ok t
  | .inl t2 =>
    let e2 ← s.entryAt c (t2 + 8 * field va 38 30)
    match ← walkEntry 2 asid a e2 with
    | .inr t => .ok t
    | .inl t3 =>
      let e3 ← s.entryAt c (t3 + 8 * field va 29 21)
      match ← walkEntry 3 asid a e3 with
      | .inr t => .ok t
      | .inl t4 => s.walkLast c asid a t4

/-- The lines that a walk reads from a table on, with `n` more tables below it (R58, R60). -/
def State.linesFrom (s : State) (c : Context) (va : W64) : (n table : Nat) → List Nat
  | 0, t => let pa := t + 128 * field va 20 16
    [pa, pa + 64].filterMap (s.place c ·)
  | n + 1, t => let pa := t + 8 * (if n = 2 then field va 56 39 else if n = 1 then field va 38 30 else field va 29 21)
    ((s.place c pa).map lineOf).toList ++ match s.entryAt c pa with
      | .error _ => []
      | .ok e => match walkEntry (3 - n) 0 va.toNat e with
        | .ok (.inl below) => s.linesFrom c va n below
        | _ => []

/-- The lines that a walk of an address reads; a scratchpad address has none. -/
def State.walkLines (s : State) (asid : Nat) (va : W64) : List Nat :=
  if !canonical va || decide (padBase ≤ va.toNat) then [] else s.linesFrom (s.context asid) va 3 (s.context asid).root

/-- Walks of addresses meet the errors of the lines that they read: each is corrected, or poisons its line, and is counted
(spec/27 R350, R351, R353). -/
def State.meetWalks (s : State) (asid : Nat) (vas : List W64) : State :=
  if s.st.flaws.isEmpty then s else s.settle (vas.flatMap (s.walkLines asid))

/-- The cached translation maps the address for the ASID. -/
def Tlb.hits (t : Tlb) (asid va : Nat) : Bool := t.asid == asid && t.base ≤ va && va < t.base + t.size

/-- A cached translation is used; one that came from a 64 KiB page whose entries differ may be taken from any of them again, as
the free choice of the walk says (R60). -/
def State.useCached (s : State) (asid : Nat) (va : W64) (t : Tlb) : Except Fail Tlb :=
  if t.mixed && s.free (2 ^ 48 + va.toNat / 65536) % 2 == 0 then s.walk asid va else .ok t

/-- The translation of an address: the core's cache, the cluster's cache, the walk (R63). -/
def State.leaf (s : State) (asid : Nat) (va : W64) : Except Fail Tlb :=
  match s.core.tlb.find? (Tlb.hits · asid va.toNat) with
  | some t => s.useCached asid va t
  | none =>
    match (Store.get [] s.st.clusterTlb (clusterOf s.cur)).find? (Tlb.hits · asid va.toNat) with
    | some t => s.useCached asid va t
    | none => s.walk asid va

/-- The checks of one address in the order of R62 but for alignment, and what it resolves to: the raw address, whether it
is watched, which no page of a context without WATCH is (spec/31 R386), and the leaf that translated it. -/
def State.resolve (s : State) (acc : Acc) (va : W64) : Except Fail (Nat × Bool × Option Tlb) :=
  if !canonical va then .error Fail.nonCanon
  else if padBase ≤ va.toNat then
    match s.padRaw va with
    | none => .error Fail.noPad
    | some raw =>
      let b := s.padBits va
      if b % 2 = 0 then .error Fail.grant
      else if acc.fetch then .error Fail.fetch
      else if acc.write ∧ b / 2 % 2 = 0 then .error Fail.write
      else .ok (raw, decide (b / 4 % 2 = 1 ∧ 0 < levelOf raw), none)
  else
    match s.leaf s.asid va with
    | .error f => .error f
    | .ok t =>
      match s.place s.ctx (t.frame + (va.toNat - t.base)) with
      | none => .error Fail.badPa
      | some raw =>
        if t.h ∧ !t.own then .error Fail.hostOwned
        else if acc.fetch ∧ !t.x then .error Fail.fetch
        else if acc.presence then .error Fail.presence
        else if acc.write ∧ !t.w then .error Fail.write
        else .ok (raw, t.wa && s.feat.getLsbD 3, some t)

/-- The parts of a byte range that lie in one 4 KiB page each: first address and length. -/
def pagePieces (va : W64) (n : Nat) : List (W64 × Nat) :=
  let first := va.toNat % 4096
  (List.range ((first + n + 4095) / 4096)).map fun k =>
    let lo := if k = 0 then 0 else 4096 * k - first
    let hi := Nat.min n (4096 * (k + 1) - first)
    (va + BitVec.ofNat 64 lo, hi - lo)

/-- A byte range resolved. -/
structure Piece where
  va      : W64
  len     : Nat
  raw     : Nat
  watched : Bool
  leaf    : Option Tlb
  deriving DecidableEq, Repr

/-- The better of two failures found: lower in the order, then at the lower address (R62). Where one page fails NOTVALID and
another BADPTE the lowest address decides: R62 lets the first failing entry of one walk decide and ranks the two over several
pages nowhere (DESIGN CHOICE, log 89). -/
def worseOf (a b : Fail × W64) : Fail × W64 :=
  if b.1.rank < a.1.rank ∨ (b.1.rank = a.1.rank ∧ b.2.toNat < a.2.toNat) then b else a

/-- Resolves every page of byte ranges: their pieces, or the first failure in the order of R62 with the lowest address at
which it arises. -/
def partWith (res : W64 → Except Fail (Nat × Bool × Option Tlb)) (rs : List (W64 × Nat)) :
    Except (Fail × W64) (List Piece) :=
  (rs.flatMap fun r => pagePieces r.1 r.2).foldl (init := .ok []) fun out r =>
    match out, res r.1 with
    | .ok ps, .ok (raw, wa, t) => .ok (ps ++ [{ va := r.1, len := r.2, raw := raw, watched := wa, leaf := t }])
    | .ok _, .error f => .error (f, r.1)
    | .error b, .ok _ => .error b
    | .error b, .error f => .error (worseOf b (f, r.1))

/-- Resolves one part of a footprint of the current agent. -/
def State.resolvePart (s : State) (acc : Acc) (rs : List (W64 × Nat)) : Except (Fail × W64) (List Piece) :=
  partWith (s.resolve acc) rs

/-- The whole-footprint check of R62 for one part, then alignment: `bad` is the lowest misaligned address, if any. -/
def State.checkRanges (s : State) (acc : Acc) (rs : List (W64 × Nat)) (bad : Option W64) : Res (List Piece) :=
  match s.resolvePart acc rs with
  | .error (f, va) => .error (.trap { cause := f.cause, detail := f.detail, w0 := va, acc := acc.code })
  | .ok ps =>
    match bad with
    | some va => trap .align 1 va
    | none => .ok ps

/-- The address is misaligned for a power-of-two size: it is named, else none. -/
def misaligned (va : W64) (size : Nat) : Option W64 := if va.toNat % size = 0 then none else some va

/-- The bytes of resolved pieces, in order. -/
def touches (ps : List Piece) : List Touch :=
  ps.flatMap fun p => (List.range p.len).map fun k =>
    { va := p.va + BitVec.ofNat 64 k, raw := p.raw + k, watched := p.watched }

/-- Enters leaves into a cache that holds `n` entries: the newest first, the oldest lost (log 10). -/
def cacheAdd (n : Nat) (old : List Tlb) (new : List Tlb) : List Tlb :=
  (new.foldl (fun c t => if c.contains t then c else t :: c) old).take n

/-- The pieces of an access whose translation no cache held: their walks were made. -/
def State.walked (s : State) (ps : List Piece) : List Piece :=
  let near := Store.get [] s.st.clusterTlb (clusterOf s.cur)
  ps.filter fun p => p.leaf.any fun t => !s.core.tlb.contains t && !near.contains t

/-- The translations that an access used are held in the caches of the core and of its cluster (R63), and the walks made for it meet
the errors of the tables. Neither R11 nor R63 names a cache of the control cores beyond their own: those of all dies share one
more cluster cache, under cluster number 128 (DESIGN CHOICE, log 10). -/
def State.cache (s : State) (ps : List Piece) : State :=
  let new := ps.filterMap (·.leaf)
  if new.all s.core.tlb.contains then s
  else
    let c := clusterOf s.cur
    let cl := cacheAdd 1024 (Store.get [] s.st.clusterTlb c) new
    let s := s.meetWalks s.asid ((s.walked ps).map (·.va))
    { s with core := { s.core with tlb := cacheAdd 64 s.core.tlb new },
             st := { s.st with clusterTlb := Store.set [] s.st.clusterTlb c cl } }

end Sys2Proof.Machine
end

