-- ==== Sys2Proof/Machine/Access.lean ====
section
/-! DEFINITION. Loads and stores by virtual address: the checks of spec/05 R62, watching (spec/07 R85-R89), presence
(spec/05 R53-R56), poison (spec/27 R351), and the write streams whose entries an access waits for (spec/15 R224). -/

namespace Sys2Proof.Machine

/-- The bundles of device memory that a store of the core overwrites are remembered as they stood before each store until its
next take boundary: until then a fetch may return any of them, or the newest (spec/11 R400). -/
def State.noteCode (s : State) (raws : List Nat) : State :=
  match dedup ((raws.filter fun r => levelOf r = 3 || levelOf r = 4).map granuleOf) with
  | [] => s
  | gs => { s with core := { s.core with oldCode := s.core.oldCode ++ gs.map fun g =>
      (g, BitVec.ofNat 128 (leNat ((List.range 16).map fun k => s.stored (g + k)))) } }

/-- A write to storage by the current core (spec/05 R74, spec/11 R400). -/
def State.writeCore (s : State) (ws : List (Nat × Byte)) : State := (s.noteCode (ws.map (·.1))).writeBytes ws

/-- Writes every pushed stream entry that has not been written (spec/15 R224, R225). -/
def State.flushStreams (s : State) : State :=
  match s.core.pushed with
  | [] => s
  | ps => (ps.foldl (fun t p => t.writeCore p.writes) s) |> fun t => { t with core := { t.core with pushed := [] } }

/-- Writes the pushed entries of takes that have committed; those of the open take stay (spec/15 R225). -/
def State.flushCommitted (s : State) : State :=
  match s.core.pushed.filter (·.committed) with
  | [] => s
  | ps => (ps.foldl (fun t p => t.writeCore p.writes) s) |> fun t =>
      { t with core := { t.core with pushed := t.core.pushed.filter fun p => !p.committed } }

/-- The watched lines of a footprint, each with the first address touched in it. -/
def watchedLines (ts : List Touch) : List (Nat × W64) :=
  (ts.filter (·.watched)).foldl
    (fun acc t => if acc.any (·.1 == lineOf t.raw) then acc else acc ++ [(lineOf t.raw, t.va)]) []

/-- The watch checks of a footprint, line by line in the order in which its bytes touch them (spec/07 R87; of several lines that fail
R215 and R87 name none first: DESIGN CHOICE, log 110). -/
def State.watchAll (s : State) (write : Bool) (ts : List Touch) : Res State :=
  (watchedLines ts).foldlM (fun t l => if write then t.watchWrite l.1 l.2 else t.watchRead l.1 l.2) s

/-- The unit is poisoned as the take sees it: one that its own whole write has replaced is clean, one that its copy has
delivered poison to is not (spec/27 R351). -/
def State.bad (s : State) (raw : Nat) : Bool :=
  s.core.take.foul.contains (unitOf raw) || (s.poisoned raw && !s.core.take.clean.contains (unitOf raw))

/-- POISON for the first touched byte, in lane order, whose unit is poisoned: word 0 its address, word 1 the level (spec/27 R351).
R215 and R351 do not say which of several poisoned lanes word 0 names (DESIGN CHOICE, log 37). -/
def State.poisonCheck (s : State) (ts : List Touch) : Res Unit :=
  match ts.find? fun t => s.bad t.raw with
  | none => .ok ()
  | some t => .error (.trap { cause := .poison, detail := 0, w0 := t.va, w1 := BitVec.ofNat 64 (levelOf t.raw) }
      (some (unitOf t.raw)))

/-- A slot that a port of the core holds comes before an access in program order: a cwait, which acquires, or a consuming load that
reads one of its granules where either of the two writes it (spec/07 R92, R99, spec/11 R146). -/
def State.behindHeld (s : State) (write : Bool) (raws : List Nat) : Bool :=
  s.core.slipped.any fun e => e.acquires || ((write || e.clears) && raws.any fun r => e.granules.contains (granuleOf r))

/-- A granule of the bytes is one that an engine operation of the agent has still to write, or, for a write, to read: the access
waits until those parts of it have been performed (spec/07 R92, spec/11 R146). -/
def State.behindOps (s : State) (write : Bool) (raws : List Nat) : Bool :=
  !s.eng.ops.isEmpty &&
  let gs := dedup (raws.map granuleOf)
  s.eng.ops.any fun o => o.agent == s.cur &&
    (o.writes.any (fun w => gs.contains (granuleOf w.1)) || (write && o.reads.any fun r => gs.contains (granuleOf r.1)))

/-- An access waits for earlier accesses of its agent to its granules: those of held slots, and the parts of engine operations. -/
def State.behindParts (s : State) (write : Bool) (raws : List Nat) : Bool := s.behindHeld write raws || s.behindOps write raws

/-- An access to resolved bytes waits for the earlier accesses that `behindParts` names. -/
def State.afterParts (s : State) (write : Bool) (ts : List Touch) : Res Unit :=
  if s.behindParts write (ts.map (·.raw)) then .error .wait else .ok ()

/-- The checks of an access to byte ranges: translation, protection and alignment (spec/05 R62), as resolved bytes and the
state that has cached the translations. -/
def State.check (s : State) (acc : Acc) (rs : List (W64 × Nat)) (bad : Option W64) : Res (State × List Touch) :=
  match s.checkRanges acc rs bad with
  | .error e => .error e
  | .ok ps => .ok (s.cache ps, touches ps)

/-- Reads byte ranges as the current agent: checks, watching, poison, then the bytes in order (spec/13 R177,
spec/15 R212, R215). -/
def State.load (s : State) (rs : List (W64 × Nat)) (bad : Option W64) : Res (State × List Byte) := do
  let (s1, ts) ← s.check {} rs bad
  s1.afterParts false ts
  let s2 := s1.flushStreams
  let s3 ← s2.watchAll false ts
  s3.poisonCheck ts
  let s4 := s3.settle (ts.map (·.raw))
  pure (s4, ts.map fun t => s4.byte t.raw)

/-- The bytes to write, by raw address. -/
def writesOf (ts : List Touch) (bs : List Byte) : List (Nat × Byte) :=
  (ts.zip bs).map fun p => (p.1.raw, p.2)

/-- The watched bytes of a store: they stand in the take until its commit; a partial write to a poisoned unit is dropped, an error
that it meets being counted as it is found, a whole one makes the unit clean for the take (spec/07 R84, spec/27 R351, R353). -/
def State.storeWatched (s : State) (ws : List (Nat × Byte)) : State :=
  match ws with
  | [] => s
  | _ =>
    let us := unitsOf ws
    let bad := us.filter fun u => s.bad u && !covers ws u (unitSize u)
    let whole := us.filter fun u => s.bad u && covers ws u (unitSize u)
    let ok := ws.filter fun w => !bad.contains (unitOf w.1)
    let t := s.core.take
    let s1 := { s with core := { s.core with take := { t with
        overlay := ok.foldl (fun m w => Store.set none m w.1 (some w.2)) t.overlay
        clean := dedup (t.clean ++ whole)
        foul := t.foul.filter fun u => !whole.contains u } } }
    bad.foldl (fun a u => ((a.settleWord (wordOf u)).settleWord (wordOf (u + 8))).countDaily u 2) s1

/-- Stores resolved bytes: the unwatched ones at once, the watched ones in the take. -/
def State.put (s : State) (ts : List Touch) (bs : List Byte) : State :=
  let ps := ts.zip bs
  let un := ps.filter fun p => !p.1.watched
  let wa := ps.filter fun p => p.1.watched
  (s.writeCore (un.map fun p => (p.1.raw, p.2))).storeWatched (wa.map fun p => (p.1.raw, p.2))

/-- Writes byte ranges as the current agent (spec/13 R177, spec/15 R212). -/
def State.store (s : State) (rs : List (W64 × Nat)) (bad : Option W64) (bs : List Byte) : Res State := do
  let (s1, ts) ← s.check { write := true } rs bad
  s1.afterParts true ts
  let s2 := s1.flushStreams
  let s3 ← s2.watchAll true ts
  pure (s3.put ts bs)

/-- The granules of resolved bytes. -/
def granulesOf (ts : List Touch) : List Nat := dedup (ts.map fun t => granuleOf t.raw)

/-- The granules of the watched bytes. -/
def watchedGranules (ts : List Touch) : List Nat := granulesOf (ts.filter (·.watched))

/-- A write that sets presence FULL: at once, or with the take's commit where it is watched (spec/05 R53, R55). -/
def State.fillGranules (s : State) (ts : List Touch) : State :=
  let held := watchedGranules ts
  let now := (granulesOf ts).filter fun g => !held.contains g
  let s1 := now.foldl State.setFull s
  match held with
  | [] => s1
  | _ => { s1 with core := { s1.core with take := { s1.core.take with full := dedup (s1.core.take.full ++ held) } } }

/-- stf and vstf: the write, then FULL (spec/13 R177, spec/15 R213). -/
def State.storeFull (s : State) (ea : W64) (n : Nat) (bs : List Byte) : Res State := do
  let (s1, ts) ← s.check { write := true, presence := true } [(ea, n)] (misaligned ea n)
  s1.afterParts true ts
  let s2 := s1.flushStreams
  let s3 ← s2.watchAll true ts
  pure ((s3.put ts bs).fillGranules ts)

/-- ldw and vldw: wait until every granule is FULL and unclaimed, then read and, with `clr`, claim, as one action
(spec/05 R54). A granule that the agent's own take has claimed blocks it as any other. -/
def State.consume (s : State) (ea : W64) (n : Nat) (clr : Bool) : Res (State × List Byte) := do
  let (s1, ts) ← s.check { presence := true } [(ea, n)] (misaligned ea n)
  s1.afterParts clr ts
  let s2 := s1.flushStreams
  let gs := granulesOf ts
  if gs.any fun g => s2.isEmpty g || (s2.claimer g).isSome then .error .wait
  else do
    let s3 ← s2.watchAll false ts
    s3.poisonCheck ts
    let s4 := s3.settle (ts.map (·.raw))
    let bs := ts.map fun t => s4.byte t.raw
    pure (if clr then gs.foldl State.claim s4 else s4, bs)

/-- The first address past the part of a window slot that holds storage (R49, R14). -/
def State.slotEnd (s : State) (a : Nat) : Nat :=
  if uBase ≤ a then uBase + 0x200000
  else if cBase ≤ a then cBase + ((a - cBase) / 0x1000000 + 1) * 0x1000000
  else
    let k := (a - padBase) / 0x10000000
    padBase + (k + 1) * 0x10000000 - Store.get 0 s.st.cbMiB ((s.dies s.ctx).1 + k) * 0x100000

/-- pclr: the granules of the range become EMPTY (spec/13 R177). The window slot is tested first, then GRANT and WRITE of
every 64 KiB, then alignment. NOPAD arises at the first address past the slot, the others at their 64 KiB (R62, log 87). It waits for
earlier accesses to its granules, as any access does (spec/07 R92, spec/11 R146). -/
def State.clearPresence (s : State) (ea : W64) (n : W64) : Res State :=
  if n = 0 then .ok s
  else if !canonical ea then trap .page 1 ea
  else if ea.toNat < padBase then
    -- device memory: the checks of every page of the range, which end in PROT PRESENCE
    if field ea 56 56 = 0 ∧ 2 ^ 56 < ea.toNat + 16 * n.toNat then trap .page 1 (BitVec.ofNat 64 (2 ^ 56))
    else match s.resolvePart { write := true, presence := true } [(ea, 16 * n.toNat)] with
    | .error (f, va) => .error (.trap { cause := f.cause, detail := f.detail, w0 := va, acc := 5 })
    | .ok _ => trap .prot 4 ea
  else match s.padRaw ea with
  | none => trap .page 6 ea
  | some raw =>
    let last := ea.toNat + 16 * n.toNat - 1
    if s.slotEnd ea.toNat ≤ last then trap .page 6 (BitVec.ofNat 64 (s.slotEnd ea.toNat))
    else
      let blocks := (List.range (last / 65536 - ea.toNat / 65536 + 1)).map fun k =>
        if k = 0 then ea else BitVec.ofNat 64 ((ea.toNat / 65536 + k) * 65536)
      match blocks.find? fun b => s.padBits b % 2 = 0 with
      | some b => trap .prot 3 b
      | none =>
        match blocks.find? fun b => s.padBits b / 2 % 2 = 0 with
        | some b => trap .prot 1 b
        | none =>
          if ea.toNat % 16 ≠ 0 then trap .align 1 ea
          else if s.behindParts true ((List.range n.toNat).map fun k => raw + 16 * k) then .error .wait
          else .ok ((List.range n.toNat).foldl (fun t k => t.setEmpty (raw + 16 * k)) s.flushStreams)

/-! One aligned word. -/

/-- A scalar load of `n` bytes (spec/13 R177). -/
def State.loadWord (s : State) (ea : W64) (n : Nat) : Res (State × Nat) := do
  let (s1, bs) ← s.load [(ea, n)] (misaligned ea n)
  pure (s1, leNat bs)

/-- A scalar store of `n` bytes (spec/13 R177). -/
def State.storeWord (s : State) (ea : W64) (n : Nat) (v : W64) : Res State :=
  s.store [(ea, n)] (misaligned ea n) (leBytes n v.toNat)

end Sys2Proof.Machine
end

