-- ==== Sys2Proof/Machine/Counters.lean ====
section
/-! DEFINITION. Counters: handles, values, held adds, adds from outside any take and the arrival log (spec/07 R95-R105). -/

namespace Sys2Proof.Machine

/-- The counter that a handle names for a context, by die and index; none is BADHANDLE (spec/07 R95). ASID 0 is no context and
owns no counter. -/
def State.counterKey (s : State) (asid : Nat) (h : W64) : Option Nat :=
  let (d0, n) := s.dies (s.context asid)
  let d := field h 31 29
  let key := (d0 + d) * 2 ^ 22 + field h 21 0
  if 0 < asid ∧ field h 63 32 = 0 ∧ field h 28 22 = 0 ∧ d < n ∧ Store.get 0 s.sync.owner key = asid then some key else none

/-- The arrival log that a counter's die keeps for its owner, while the counter is saved (spec/07 R104). -/
def State.arrivalsOf (s : State) (key : Nat) : Option Arrivals :=
  (s.context (Store.get 0 s.sync.owner key)).arrivals.find? (·.die == key / 2 ^ 22)

/-- The value of a counter; of a saved one, its saved value and what its arrival log adds to it (spec/07 R104, R105). -/
def State.counter (s : State) (key : Nat) : W64 :=
  match s.arrivalsOf key with
  | none => Store.get 0 s.sync.value key
  | some a =>
    let base := ((a.saved.find? (·.1 == key)).map (·.2)).getD 0
    (a.log.filter (·.key == key)).foldl (fun v e => v + e.value) base

/-- Wrong bits of a counter (spec/27 R347). -/
def State.counterFlaws (s : State) (key : Nat) : Nat := Store.get 0 s.sync.flaws key

/-- Reading a counter writes back a single wrong bit corrected (spec/27 R347, R350). -/
def State.settleCounter (s : State) (key : Nat) : State :=
  if s.counterFlaws key = 1 then { s with sync := { s.sync with flaws := Store.set 0 s.sync.flaws key 0 } } else s

/-- The state with a counter's value changed. -/
def State.setCounter (s : State) (key : Nat) (v : W64) : State :=
  let t := s.settleCounter key
  { t with sync := { t.sync with value := Store.set 0 t.sync.value key v } }

/-- The counter is marked poisoned, or an uncorrectable error stands in it: more than one wrong bit (spec/27 R347, R351; log 26). -/
def State.counterBad (s : State) (key : Nat) : Bool :=
  Store.get false s.sync.poisoned key || decide (2 ≤ s.counterFlaws key)

/-- An uncorrectable error that an access meets marks the counter (spec/27 R351). -/
def State.markCounter (s : State) (key : Nat) : State :=
  { s with sync := { s.sync with poisoned := Store.set false s.sync.poisoned key true,
                                 flaws := Store.set 0 s.sync.flaws key 0 } }

/-- The home reports an add that it did not apply to firmware (spec/07 R97, spec/27 R351). -/
def State.reportAdd (s : State) (key : Nat) (v : W64) (bad : Bool) : State :=
  { s with sync := { s.sync with reports := s.sync.reports ++ [{ key := key, amount := v, poisoned := bad }] } }

/-- The sum of the adds held for a counter. -/
def State.heldSum (s : State) (key : Nat) : Nat :=
  (s.sync.held.filter (·.key == key)).foldl (fun a h => a + h.amount.toNat) 0

/-- An add of `v` would carry the counter past 2^64 - 1, counting every add held for it (spec/07 R97). -/
def State.wouldOverflow (s : State) (key : Nat) (v : W64) : Bool :=
  2 ^ 64 ≤ (s.counter key).toNat + s.heldSum key + v.toNat

/-- The bits 31:0 of the handle that names a counter in its owner's device (spec/07 R95). -/
def State.handleOf (s : State) (key : Nat) : Nat :=
  let c := s.context (Store.get 0 s.sync.owner key)
  (key / 2 ^ 22 - (s.dies c).1) * 2 ^ 29 + key % 2 ^ 22

/-- The 16 bytes of an arrival-log entry (spec/07 R104). -/
def Arrival.bytes (e : Arrival) : List Byte :=
  leBytes 2 e.seq ++ leBytes 2 (e.origin % 4 + 4 * (e.src % 2 ^ 14)) ++ leBytes 4 e.handle ++ leBytes 8 e.value.toNat

/-- Where the counter images and the arrival log of a die begin in a context's save area, behind the core and block images
(spec/25 R342; log 42). -/
def Context.arrivalsAt (c : Context) (die : Nat) : Nat := c.saveRaw + 262144 * 2048 + 66560 * 131072 + 2 ^ 30 * die

/-- Where entry `seq` of an arrival log stands. -/
def Context.arrivalAt (c : Context) (a : Arrivals) (seq : Nat) : Nat :=
  c.arrivalsAt a.die + 2 ^ 29 + 16 * (seq % Nat.max 1 a.size)

/-- Appends an add to the arrival log of its die; SRC is zero but for a module agent's add (spec/07 R104). -/
def State.logArrival (s : State) (key : Nat) (a : Arrivals) (v : W64) (src origin : Nat) : State :=
  let asid := Store.get 0 s.sync.owner key
  let c := s.context asid
  let e : Arrival := { key := key, handle := s.handleOf key, value := v, src := if origin = 0 then src else 0, origin := origin,
                       seq := a.seq % 2 ^ 16 }
  let a' := { a with log := a.log ++ [e], seq := a.seq + 1 }
  (s.writeBytes (runOf (c.arrivalAt a a.seq) e.bytes)).setContext asid
    { c with arrivals := c.arrivals.map fun b => if b.die == a.die then a' else b }

/-- The arrival log is full (spec/07 R104). -/
def Arrivals.full (a : Arrivals) : Bool := a.size ≤ a.log.length

/-- Firmware extends a full arrival log that holds up an add; by how much, and at which attempt, is free (spec/07 R104). -/
def State.extendLog (s : State) (key : Nat) : State :=
  match s.arrivalsOf key with
  | none => s
  | some a =>
    if !a.full then s
    else s.setContext (Store.get 0 s.sync.owner key)
      (let c := s.context (Store.get 0 s.sync.owner key)
       { c with arrivals := c.arrivals.map fun b =>
           if b.die == a.die then { b with size := b.size + Config.logRoom a.die s.fresh } else b })

/-- Applies an add that has been accepted: to the arrival log of a saved counter, else to the value; an add to a poisoned
counter is dropped and reported (spec/07 R96, R104, spec/27 R351). -/
def State.applyAdd (s : State) (key : Nat) (v : W64) (src origin : Nat) : State :=
  match s.arrivalsOf key with
  | some a => s.logArrival key a v src origin
  | none => if s.counterBad key then (s.markCounter key).reportAdd key v true else s.setCounter key (s.counter key + v)

/-- An add from a module agent outside any take: one that would overflow is not applied, and the home reports it; one to a counter
that firmware has saved joins its log, and is tested when the log is applied (spec/07 R97, R101, R104, R105). -/
def State.outsideAdd (s : State) (key : Nat) (v : W64) (src : Nat) : State :=
  if (s.arrivalsOf key).isNone && s.wouldOverflow key v then s.reportAdd key v false else s.applyAdd key v src 0

/-- A held add takes effect: one that was tested when it was issued applies, a collective's is tested now (spec/07 R96, R97). -/
def State.releaseHeld (s : State) (h : HeldAdd) (src : Nat) : State :=
  if h.tested then s.applyAdd h.key h.amount src 0 else s.outsideAdd h.key h.amount src

/-- Holds an add for the current take: POISON on a poisoned counter, then OVERFLOW (spec/07 R96, R97, spec/27 R351). -/
def State.holdAdd (s : State) (handle : W64) (key : Nat) (v : W64) (op : Option Nat) : Res State :=
  if s.counterBad key then trap .poison 0 handle
  else if s.wouldOverflow key v then trap .counter 1
  else .ok { s with sync := { s.sync with
      held := s.sync.held ++ [{ agent := s.cur, key := key, amount := v, op := op, tested := true }] } }

/-- Holds the add of a collective: it is tested when it reaches the home (spec/07 R97, spec/21 R296). -/
def State.holdUntested (s : State) (handle : W64) (key : Nat) (v : W64) (op : Nat) : Res State :=
  if s.counterBad key then trap .poison 0 handle
  else .ok { s with sync := { s.sync with
      held := s.sync.held ++ [{ agent := s.cur, key := key, amount := v, op := some op, tested := false }] } }

/-- The counter that the handle in `h` names for the running context, or COUNTER BADHANDLE (spec/07 R95). -/
def State.needCounter (s : State) (h : W64) : Res Nat :=
  match s.counterKey s.asid h with
  | some k => .ok k
  | none => trap .counter 2

end Sys2Proof.Machine
end

