-- ==== Sys2Proof/Machine/Ops.lean ====
section
/-! DEFINITION. The operations of a take and of a trap: discard (spec/03 R40), commit and the take boundary (R37-R39), taking
a trap (spec/25 R325-R328) and resuming (spec/13 R188), replay after a register error (spec/27 R350), and the frame in
which every slot runs. -/

namespace Sys2Proof.Machine

/-! The slot that is issuing. -/

/-- Slot `k` of a bundle (spec/11 R132). -/
def slotWord (w : BitVec 128) (k : Nat) : W32 := w.extractLsb' (32 * k) 32

/-- The class code of a slot word. -/
def classOf (w : W32) : Nat := field w 31 29

/-- The word is a nop slot. -/
def isNop (w : W32) : Bool := w == 0xFFFFFFFF

/-- The word is a `done` slot. -/
def isDone (w : W32) : Bool := w == 0x10800000

/-- The order in which the four slots take effect: ascending, but a `done` after every other slot (spec/11 R134,
spec/13 R174); nops, which have no effect, come last. -/
def slotOrder (w : BitVec 128) : List Nat :=
  let ks := [0, 1, 2, 3]
  ks.filter (fun k => !isDone (slotWord w k) && !isNop (slotWord w k)) ++ ks.filter (fun k => isDone (slotWord w k)) ++
    ks.filter (fun k => isNop (slotWord w k))

/-- The number of the slot that a latched bundle issues next. -/
def Bundle.slotNo (b : Bundle) : Nat := (slotOrder b.word).getD b.slot 0

/-- The issue port of slot `k`, coded as PORT of CAUSE (spec/11 R133, spec/25 R327). -/
def portOf (w : BitVec 128) (k : Nat) : Nat :=
  let c := classOf (slotWord w k)
  let before := fun (p : Nat → Bool) => ((List.range k).filter fun j => p (classOf (slotWord w j))).length
  if c = 0 then 0
  else if c = 1 ∨ c = 5 then (if before (fun x => x == 1 || x == 5) = 0 then 1 else 2)
  else if c = 2 then 3
  else if c = 3 then (if before (fun x => x == 3) = 0 then 4 else 5)
  else 6

/-- SLOT and PORT of the slot that is issuing; none when no bundle is latched (a check at dispatch). -/
def State.where_ (s : State) : Nat × Nat :=
  match s.core.bundle with
  | some b => (b.slotNo, portOf b.word b.slotNo)
  | none => (0, 6)

/-- The latched-operand port of the issuing slot: 0 for V0, 1 for V1. -/
def State.vport (s : State) : Nat := if s.where_.2 = 2 then 1 else 0

/-- The command port of the issuing slot: 0 for C0, 1 for C1. -/
def State.cport (s : State) : Nat := if s.where_.2 = 5 then 1 else 0

/-! Sticky flags (spec/09 R129). -/

/-- The flag bits of the current bundle join those of the bundles before it; those raised in a setfmt's own bundle are
lost (spec/09 R129). -/
def Core.foldFlags (c : Core) : Core :=
  { c with flags := if c.fmtSet then c.flags else c.flags ||| c.flagsNew, flagsNew := 0, fmtSet := false,
           nvclamp := if c.momSet then c.nvclamp else c.nvclamp || c.nvclampNew, nvclampNew := false, momSet := false }

/-- Every mode write in flight takes effect (spec/09 R128). -/
def Core.modesNow (c : Core) : Core :=
  { c with fmt := (c.fmtWrites.getLast?.map (·.value)).getD c.fmt, fmtWrites := [],
           mom := (c.momWrites.getLast?.map (·.value)).getD c.mom, momWrites := [] }

/-! Restart image (spec/03 R40). -/

/-- Runs of protected words of a core: the first, as `class × 2^16 + index`, and how many (spec/13 R186). -/
abbrev Words := List (Nat × Nat)

/-- A run of words of a class. -/
def run_ (cls first n : Nat) : Words := [(cls * 2 ^ 16 + first, n)]

/-- The word lies in one of the runs. -/
def inWords (ws : Words) (w : Nat) : Bool := ws.any fun r => r.1 ≤ w && w < r.1 + r.2

/-- The core once words of it have been overwritten: they hold no error any more (spec/27 R350). -/
def Core.wroteWords (c : Core) (ws : Words) : Core := { c with upsets := c.upsets.filter fun e => !inWords ws e.1 }

/-- The words of an x register. -/
def wX (n : BitVec 5) : Words := if n = 0 then [] else run_ 0 (2 * n.toNat) 2

/-- The restart image of a take that begins at address `pc`. -/
def Core.snapshot (c : Core) (pc : W64) : Image :=
  { o := c.o, sd := Vector.ofFn fun i => { cursor := c.sd[i].cursor, qn := c.sd[i].qn, bound := c.sd[i].bound, loaded := c.sd[i].loaded },
    loop := match c.loop with
      | some l => some { head := l.head, len := l.len, xt := l.xt, pos := (pc - l.head).toNat / 16,
                         count := if l.xt = 0 then 0 else c.x[l.xt.toNat] }
      | none => none }

/-- The core with its restart image restored: offset registers, stream state, every q register empty, loop state
(spec/03 R40, spec/15 R225, spec/11 R141). -/
def Core.restored (c : Core) : Core :=
  let im := c.image
  let sd := c.sd.mapIdx fun i d =>
    let t := im.sd.getD i SdState.reset
    { d with cursor := t.cursor, qn := t.qn, bound := t.bound, loaded := t.loaded }
  let x := match im.loop with
    | some l => if l.xt = 0 then c.x else c.x.set l.xt.toNat l.count
    | none => c.x
  let again := run_ 6 0 16 ++ match im.loop with | some l => wX l.xt | none => []
  { c with o := im.o, sd := sd, q := Vector.replicate 16 [], qhead := Vector.replicate 16 0, x := x,
           upsets := (c.wroteWords again).upsets
           loop := im.loop.map fun l => { head := l.head, len := l.len, xt := l.xt, body := [] } }

/-! Discard (spec/03 R40). -/

/-- The engine operation belongs to the open take of agent `n`. -/
def EngineOp.ofTake (o : EngineOp) (n : Nat) : Bool := o.agent == n && !o.committed

/-- A byte of an engine operation as a touched byte. -/
def partTouch (p : Nat × Bool) : Touch := { va := 0, raw := p.1, watched := p.2 }

/-- The scratchpad granules that a copy fills (spec/05 R53). -/
def EngineOp.granules (o : EngineOp) : List Nat :=
  dedup ((o.writes.filter fun w => levelOf w.1 < 3).map fun w => granuleOf w.1)

/-- A source read waits while another agent's open write stands on a watched line of it (spec/07 R90). -/
def State.openSource (s : State) (ts : List Touch) : Bool := ts.any fun t => t.watched && s.openWrite (lineOf t.raw)

/-- The bytes of a source, each with whether its unit is poisoned (spec/21 R285). -/
def State.sourceBytes (s : State) (ts : List Touch) : State × List (Byte × Bool) :=
  let s1 := s.settle (ts.map (·.raw))
  (s1, ts.map fun t => (s1.byte t.raw, s1.bad t.raw))

/-- Bytes written to the operand buffers (level 9) or scale memories (level 10) of the current core. -/
def State.writeRegs (s : State) (ws : List (Nat × Byte)) : State :=
  ws.foldl (fun t w =>
    if levelOf w.1 = 9 then { t with core := { t.core with bufs := Store.set 0 t.core.bufs (w.1 % 2 ^ 60) w.2 } }
    else { t with core := { t.core with scales := Store.set 0 t.core.scales (w.1 % 2 ^ 60) w.2 } }) s

/-- Copies values to resolved destination bytes as the current agent: unwatched ones at once, with FULL set on every scratchpad
granule; watched ones, with their FULL settings, in the take; poison goes with its byte to the destination unit
(spec/05 R53, R55, spec/07 R90, spec/21 R285, spec/27 R351). -/
def State.deliver (s : State) (ts : List Touch) (vs : List (Byte × Bool)) : State :=
  let ps := ts.zip vs
  let un := ps.filter fun p => !p.1.watched
  let wa := ps.filter fun p => p.1.watched
  let s1 := s.writeCore (un.map fun p => (p.1.raw, p.2.1))
  let s2 := (un.filter (·.2.2)).foldl (fun t p => t.markPoison p.1.raw) s1
  let s3 := s2.storeWatched (wa.map fun p => (p.1.raw, p.2.1))
  let foul := dedup ((wa.filter (·.2.2)).map fun p => unitOf p.1.raw)
  let t := s3.core.take
  ({ s3 with core := { s3.core with take := { t with foul := dedup (t.foul ++ foul) } } }).fillGranules
    (ts.filter fun t => levelOf t.raw < 3)

/-- The bytes that an engine operation moves: those that it has in hand, else its source as it stands; the poisoned ones are
marked (spec/21 R285, R288). -/
def State.opBytes (s : State) (o : EngineOp) : State × List (Byte × Bool) :=
  let (s1, vals) := match o.reads with
    | [] => (s, o.row.map fun b => (b, false))
    | rs => s.sourceBytes (rs.map partTouch)
  match o.bads with
  | [] => (s1, vals)
  | bads => (s1, (vals.zip (List.range vals.length)).map fun v => (v.1.1, v.1.2 || bads.contains v.2))

/-- A source byte that an operation has still to read stands on a watched line with an open write of another agent
(spec/07 R90, R91). -/
def State.sourceOpen (s : State) (o : EngineOp) : Bool :=
  o.reads.any fun r => r.2 && (s.watchOf (lineOf r.1)).writer.any (·.1 != o.agent)

/-- The bytes of a copy move, those whose destination `part` names: a poisoned byte leaves a free value in a buffer
(spec/21 R284, R285). The current core is the one that issued it. -/
def State.moveParts (s : State) (o : EngineOp) (part : Nat × Bool → Bool) : State :=
  let (s1, vals) := s.opBytes o
  let ps := (o.writes.zip vals).filter fun p => part p.1
  let regs := ps.filter fun p => 9 ≤ levelOf p.1.1
  let mem := ps.filter fun p => levelOf p.1.1 < 9
  let s2 := s1.writeRegs (regs.map fun p => (p.1.1, if p.2.2 then BitVec.ofNat 8 (s.free p.1.1) else p.2.1))
  match mem with
  | [] => s2
  | _ => s2.deliver (mem.map fun p => partTouch p.1) (mem.map (·.2))

/-- What a cancelled copy leaves: each unwatched granule of its destination has been written, with FULL set, or not; which, is
free. One whose source is still open to another agent's write has moved nothing (spec/03 R40, spec/07 R90, spec/21 R284;
log 11). -/
def State.cancelCopy (s : State) (o : EngineOp) : State :=
  if 4096 ≤ o.agent ∨ s.sourceOpen o then s
  else s.withCore o.agent fun t => t.moveParts o fun w => !w.2 && s.free (granuleOf w.1) % 2 == 0

/-- A cancelled put leaves its position undeposited (spec/21 R302). -/
def State.cancelPut (s : State) (o : EngineOp) : State :=
  let st := Store.get CStream.none s.eng.streams o.stream
  match Store.get none st.slots o.slot with
  | none => s
  | some c =>
    if o.fresh ∧ o.dsts = [c.uid] then
      let c' := { c with putBy := c.putBy.filter fun p => !(p.1 == o.pos && p.2 == o.agent) }
      let st' := { st with slots := Store.set none st.slots o.slot (some c') }
      { s with eng := { s.eng with streams := Store.set CStream.none s.eng.streams o.stream st' } }
    else s

/-- Cancels one engine operation of a discarded take. -/
def State.cancelOp (s : State) (o : EngineOp) : State :=
  match o.kind with
  | .put => s.cancelPut o
  | .copy => s.cancelCopy o
  | _ => s

/-- The engine operations of the discarded take end, but a collective goes on without its counter add (spec/03 R40,
spec/21 R296). -/
def State.cancelOps (s : State) : State :=
  let mine := s.eng.ops.filter fun o => o.ofTake s.cur && o.kind != .coll
  let s1 := mine.foldl State.cancelOp s
  { s1 with eng := { s1.eng with
      ops := (s1.eng.ops.filter fun o => !(o.ofTake s.cur && o.kind != .coll)).map fun o =>
        if o.ofTake s.cur then { o with key := none, committed := true } else o } }

/-- Drops the held adds of the discarded take; those of copies that a committed take issued stay (spec/07 R96). -/
def State.dropAdds (s : State) : State :=
  let opTaken := fun (k : Nat) => s.eng.ops.any fun o => o.id == k && o.ofTake s.cur
  { s with sync := { s.sync with held := s.sync.held.filter fun h =>
      !(h.agent == s.cur && (match h.op with | none => true | some k => opTaken k)) } }

/-- Releases the reservations of the discarded take; the cores are idle from now on (spec/03 R36, spec/33 R397). -/
def State.dropSpawns (s : State) : State :=
  s.core.take.spawns.foldl (fun t n => t.onCore n fun c => { c with reserved := none, holdAt := s.mod.clk }) s

/-- Drops the claims of the discarded take: the granules are FULL again (spec/05 R54). -/
def State.dropClaims (s : State) : State :=
  { s with st := { s.st with claims := s.st.claims.filter fun e => e.2 != s.cur + 1 } }

/-- Releases the watch-directory slots of the current agent (spec/07 R86). -/
def State.unwatchAll (s : State) : State := s.core.take.log.foldl (fun t l => t.unwatch s.cur l) s

/-- The core after its take has been discarded: restart image restored, at TAKEPC, latch entries unused again, modes in
force (spec/03 R40, spec/09 R128-R130, spec/11 R145, spec/13 R183). -/
def Core.discarded (c : Core) : Core :=
  let c1 := c.foldFlags.modesNow.restored
  { c1 with pc := c1.takepc, bundle := none, rep := none, slipped := [], hold := Vector.replicate 2 none, oldCode := [],
            pending := none, issued := 0, awaitStep := none, stalled := none, latch := c1.latch.map fun e => { e with used := false },
            pushed := [],
            take := { Take.reset with preempts := c1.take.preempts, replays := c1.take.replays,
                                      ageStep := c1.take.ageStep, ageClk := c1.take.ageClk } }

/-- Nothing of the current core is held by a port any more. -/
def State.dropHeld (s : State) : State :=
  { s with eng := { s.eng with held := s.eng.held.filter (·.agent != s.cur), undos := s.eng.undos.filter (·.agent != s.cur) } }

/-- Discards the open take of the current core (spec/03 R40); what takes that have committed pushed to streams is written
(spec/15 R225). -/
def State.discard (s : State) : State :=
  let s1 := s.flushCommitted.dropAdds.cancelOps.dropSpawns.dropClaims.unwatchAll.dropHeld
  { s1 with core := s1.core.discarded }

/-- The cores of the current core's gang, itself alone when it is in none (spec/03 R34). -/
def State.members (s : State) : List Nat := match s.core.gang with | some g => g.cores | none => [s.cur]

/-- Every member of the gang has the mode registers of the lead, which is never behind in its bundle (spec/03 R34,
spec/09 R128; log 88). -/
def State.evenModes (s : State) : State :=
  match s.core.gang with
  | none => s
  | some g =>
    let l := s.coreAt (g.cores.headD s.cur)
    g.cores.foldl (fun t n => t.onCore n fun c =>
      { c with fmt := l.fmt, mom := l.mom, fmtWrites := l.fmtWrites, momWrites := l.momWrites }) s

/-- Every member of the gang does the same where their takes are discarded: each resumes with one sequence of mode values
(spec/03 R35, spec/09 R128). -/
def State.eachMember (s : State) (f : State → State) : State :=
  s.members.foldl (fun t n => t.withCore n f) s.evenModes

/-! Taking a trap (spec/25 R325). -/

/-- The CAUSE word (spec/25 R327). -/
def causeWord (code detail port slot : Nat) (gang event pend : Bool) : W64 :=
  BitVec.ofNat 64 (code + 2 ^ 8 * (detail % 256) + 2 ^ 16 * (port % 16) + 2 ^ 20 * (slot % 4) +
    (if gang then 2 ^ 22 else 0) + (if event then 2 ^ 23 else 0) + (if pend then 2 ^ 24 else 0))

/-- Stops the current core with a trap recorded: the take is discarded; CAUSE, TINFO and the detail words are written,
TAKEPC and TSER hold what the take left (spec/25 R325, R327, R328). -/
def State.stopWith (s : State) (cause addr w0 w1 : W64) (acc : Nat) (why : Why) : State :=
  let s1 := s.discard
  { s1 with core := { s1.core with cause := cause, tinfo := addr, dw0 := w0, dw1 := w1, acc := acc, run := .stopped, why := why } }

/-- A PAGE trap comes of a walk, which has met the errors of its tables (spec/27 R350). -/
def State.metBy (s : State) (t : Trap) : State := if t.cause = .page then s.meetWalks s.asid [t.w0] else s

/-- Takes a trap at a slot and port: the core stops; in a gang, every member stops (spec/25 R325, R326, spec/03 R35). The raising
member's position stands in word 0 of DIVERGE alone: R35 asks for it in the detail and R330 gives no other cause a place for it
(DEDUCED, log 109). -/
def State.raiseAt (s : State) (t : Trap) (port slot : Nat) : State :=
  let s := s.metBy t
  let cw := causeWord t.cause.code t.detail port slot s.core.gang.isSome false false
  let addr := s.core.pc
  match s.core.gang with
  | none => s.stopWith cw addr t.w0 t.w1 t.acc .trap
  | some _ => s.eachMember fun v => v.stopWith cw addr t.w0 t.w1 t.acc .trap

/-- Takes a trap at the slot that is issuing. -/
def State.raise (s : State) (t : Trap) : State := s.raiseAt t s.where_.2 s.where_.1

/-- The slot waits: the core is blocked at it (spec/03 R44). -/
def State.block (s : State) : State := { s with core := { s.core with run := .blocked, stalled := none } }

/-- The slot stalls for a reader slot of a watched line, since now or since it first found none there (spec/07 R89). -/
def State.stall (s : State) (l : Nat) : State :=
  let since := match s.core.stalled with | some (m, t) => if m = l then t else s.mod.clk | none => s.mod.clk
  { s with core := { s.core with run := .blocked, stalled := some (l, since) } }

/-- Restarts the current core at TAKEPC (spec/13 R188 retake). -/
def State.restart (s : State) : State := { s with core := { s.core with run := .running, why := .none } }

/-- The raw address of a protected word of a core (spec/13 R186). -/
def regRaw (n word : Nat) : Nat := rawOf 5 (n * 2 ^ 49 + word)

/-- An uncorrectable error was met in word `class × 2^16 + index` of the current core: the take is replayed, at most twice;
then, or when it has performed an atomic, SOFTERR (spec/27 R350). -/
def State.replay (s : State) (word : Nat) : State :=
  let raw := regRaw s.cur word
  let cls := word / 2 ^ 16
  if s.members.any (fun n => (s.coreAt n).take.atomic) ∨ 2 ≤ s.core.take.replays then
    let d := if cls = 15 then 2 else if cls = 9 ∨ cls = 10 then 3 else 1
    let t : Trap := { cause := .softerr, detail := d, w0 := if cls = 15 then 0 else BitVec.ofNat 64 raw,
                      w1 := if cls = 15 then BitVec.ofNat 64 (word % 2 ^ 16) else BitVec.ofNat 64 (s.syndromeOf raw) }
    (s.countEvent raw 2).raise t
  else
    let again := fun (v : State) =>
      let v1 := v.discard
      { v1 with core := { v1.core with take := { v1.core.take with replays := v1.core.take.replays + 1 } } }.restart
    ((s.eachMember again).countEvent raw 2).countDaily raw 2

/-- How a slot ends that does not have its own effect. -/
def State.stop (s : State) : Stop → State
  | .trap t none => s.raise t
  | .trap t (some u) => (if Store.get false s.st.poison u || (s.line u).poison then s else
      if s.uncorrectable (wordOf u) || s.uncorrectable (wordOf u + 8) then
        ((s.settleWord (wordOf u)).settleWord (wordOf u + 8)) else s).raise t
  | .wait => s.block
  | .waitIn s' => s'.block
  | .stall l => s.stall l
  | .flaw w => s.replay w

/-! Protected words. -/

/-- Reads protected words: a correctable error is corrected and counted, an uncorrectable one stops the slot
(spec/27 R350). -/
def State.readWords (s : State) (ws : Words) : Res State :=
  (s.core.upsets.filter fun e => inWords ws e.1).foldlM (init := s) fun t e =>
    if e.2 = 1 then
      .ok ({ t.countEvent (regRaw t.cur e.1) 1 with core := { t.core with upsets := Store.set 0 t.core.upsets e.1 0 } })
    else .error (.flaw e.1)

/-- Words that have been overwritten hold no error any more (spec/27 R350). -/
def State.wroteWords (s : State) (ws : Words) : State := { s with core := s.core.wroteWords ws }

/-- The words that a restart image is taken from: the offset registers, the word of each stream descriptor that holds its stream
state, and the trip count of the loop (spec/03 R40, spec/27 R350; log 96). -/
def Core.imageWords (c : Core) : Words :=
  run_ 6 0 16 ++ ((List.range 16).flatMap fun k => run_ 7 (8 * k + 7) 1) ++
    match c.loop with | some l => wX l.xt | none => []

/-! Commit and the take boundary (spec/03 R37-R39). -/

/-- Publishes the watched writes of the take (spec/03 R38 step 2). -/
def State.publish (s : State) : State :=
  match s.core.take.overlay with
  | [] => s
  | o => s.core.take.foul.foldl State.markPoison (s.writeBytes (o.filterMap fun e => e.2.map fun b => (e.1, b)))

/-- The held adds of the take take effect; those of copies still in flight wait for their completion (spec/03 R38 step 3,
spec/07 R96, R100). They are releases: the entries pushed to write streams are written first (R98). -/
def State.applyHeld (s : State) : State :=
  let mine := s.sync.held.filter fun h => h.agent == s.cur && h.op.isNone
  let s0 := if mine.isEmpty then s else s.flushStreams
  let s1 := { s0 with sync := { s0.sync with held := s0.sync.held.filter fun h => !(h.agent == s.cur && h.op.isNone) } }
  mine.foldl (fun t h => t.releaseHeld h (srcOf s.cur)) s1

/-- The engine operations of the take belong to a committed take from now on. -/
def State.commitOps (s : State) : State :=
  { s with eng := { s.eng with ops := s.eng.ops.map fun o => if o.agent == s.cur then { o with committed := true } else o } }

/-- The reserved cores may start their shots (spec/03 R36, R38 step 3). -/
def State.startSpawns (s : State) : State :=
  s.core.take.spawns.foldl
    (fun t n => t.onCore n fun c => { c with reserved := c.reserved.map fun r => { r with ready := true } }) s

/-- Each claimed granule becomes EMPTY, and each held FULL setting takes effect (spec/05 R54, R55). -/
def State.settlePresence (s : State) : State :=
  let mine := (s.st.claims.filter fun e => e.2 == s.cur + 1).map (·.1)
  s.core.take.full.foldl State.setFull (mine.foldl State.setEmpty s)

/-- The core after its take has committed: rows freed, log clear, TSER advanced, supply latch empty, counts restarted
(spec/03 R38, R41, spec/13 R183, spec/15 R230, spec/27 R350). -/
def Core.committed (c : Core) : Core :=
  { c with parked := c.parked.filter fun r => !c.take.frees.contains r, take := Take.reset, tser := c.tser + 1, latch := [],
           pushed := c.pushed.map fun p => { p with committed := true } }

/-- Commits the take of the current core (spec/03 R38). -/
def State.commit (s : State) : State :=
  let s1 := s.publish.unwatchAll.applyHeld.commitOps.startSpawns.settlePresence
  { s1 with core := s1.core.committed }

/-- A linked q register holds an entry (spec/03 R39). -/
def State.qLeft (s : State) : Bool :=
  (List.range 16).any fun n => (s.boundTo n).isNone && !(s.q n).isEmpty

/-- A take begins at the bundle at `pc`: restart image, TAKEPC, age, no held operand, modes in force (spec/03 R37, R39, R40,
spec/07 R89, spec/09 R128). -/
def State.beginTake (s : State) (pc : W64) : State :=
  let c := s.core.foldFlags.modesNow
  { s with core := { c with takepc := pc, image := c.snapshot pc, hold := Vector.replicate 2 none, oldCode := [],
                            take := { Take.reset with ageStep := s.mod.step, ageClk := s.mod.clk } } }

/-- The take boundary before the bundle at `pc`: BUNDLE QNOTEMPTY when a linked q register is not empty, else the commit of
the ending take and the start of the next, once the words of the restart image have been read (spec/03 R37-R39,
spec/27 R350). -/
def State.boundary (s : State) (pc : W64) : Res State :=
  if s.qLeft then trap .bundle 6
  else do
    let t ← s.readWords s.core.imageWords
    pure (t.commit.beginTake pc)

/-! The frame of a slot. -/

/-- A slot that had waited runs on. -/
def State.running (s : State) : State :=
  if s.core.run = .blocked then { s with core := { s.core with run := .running, stalled := none } } else s

end Sys2Proof.Machine
end

