-- ==== Sys2Proof/Machine/Float.lean ====
section
/-! DEFINITION. Numbers (spec/09): exact values, the floating formats (R108), special values (R109), flags (R110), rounding
(R117), conversion (R118), and the f32 arithmetic of the vector, matrix and moment chapters. -/

namespace Sys2Proof.Machine

/-! Flags (spec/09 R110): INV, OVF, UNF, SATF, SCOVF, SCUNF, in the order of the bits 32 to 37 of FMT (R125). -/

/-- A set of sticky flags. -/
abbrev Flags := BitVec 6

/-- INV. -/
def fINV : Flags := 1
/-- OVF. -/
def fOVF : Flags := 2
/-- UNF. -/
def fUNF : Flags := 4
/-- SATF. -/
def fSAT : Flags := 8
/-- SCOVF. -/
def fSCOVF : Flags := 16
/-- SCUNF. -/
def fSCUNF : Flags := 32

/-! Exact values. -/

/-- The exact value `man × 2^exp` with a sign; zero keeps its sign. -/
structure Dy where
  neg : Bool
  man : Nat
  exp : Int
  deriving DecidableEq, Repr

/-- A value of a floating format, exactly. -/
inductive Fp where
  | nan
  | inf (neg : Bool)
  | fin (d : Dy)
  deriving DecidableEq, Repr

/-- The difference of two exponents as a shift count. -/
def expGap (hi lo : Int) : Nat := (hi - lo).toNat

/-- The magnitude of a value in units of `2^e`, for `e` at most its exponent. -/
def Dy.units (a : Dy) (e : Int) : Nat := a.man <<< expGap a.exp e

/-- The exact sum; a zero sum is -0 only when both operands are negative (R109, R119). -/
def Dy.add (a b : Dy) : Dy :=
  let e := if a.exp ≤ b.exp then a.exp else b.exp
  let x := a.units e
  let y := b.units e
  if a.neg = b.neg then { neg := a.neg, man := x + y, exp := e }
  else if x = y then { neg := false, man := 0, exp := e }
  else if y < x then { neg := a.neg, man := x - y, exp := e }
  else { neg := b.neg, man := y - x, exp := e }

/-- The exact product. -/
def Dy.mul (a b : Dy) : Dy := { neg := a.neg != b.neg, man := a.man * b.man, exp := a.exp + b.exp }

/-- The opposite. -/
def Dy.negate (a : Dy) : Dy := { a with neg := !a.neg }

/-- The value times `2^k`. -/
def Dy.scale (a : Dy) (k : Int) : Dy := { a with exp := a.exp + k }

/-- A natural number as an exact value. -/
def Dy.ofNat (n : Nat) : Dy := { neg := false, man := n, exp := 0 }

/-- An integer as an exact value. -/
def Dy.ofInt (i : Int) : Dy := { neg := decide (i < 0), man := i.natAbs, exp := 0 }

/-- `floor(log2 |a|)` of a nonzero value. -/
def Dy.top (a : Dy) : Int := (Nat.log2 a.man : Int) + a.exp

/-- `a ≤ b` of exact values. -/
def Dy.le (a b : Dy) : Bool :=
  let d := Dy.add b a.negate
  d.man == 0 || !d.neg

/-- Equal values; both zeros are equal. -/
def Dy.eq (a b : Dy) : Bool := (Dy.add b a.negate).man == 0

/-! Formats (R108). -/

/-- A floating format: field widths, bias, the code of its largest finite value, and the codes of infinity and of the
canonical NaN where it has them. -/
structure Format where
  ebits : Nat
  mbits : Nat
  bias  : Nat
  top   : Nat
  inf   : Option Nat
  nan   : Option Nat
  deriving DecidableEq, Repr

/-- f32. -/
def f32 : Format := { ebits := 8, mbits := 23, bias := 127, top := 0x7F7FFFFF, inf := some 0x7F800000, nan := some 0x7FC00000 }
/-- bf16. -/
def bf16 : Format := { ebits := 8, mbits := 7, bias := 127, top := 0x7F7F, inf := some 0x7F80, nan := some 0x7FC0 }
/-- e5m2. -/
def e5m2 : Format := { ebits := 5, mbits := 2, bias := 15, top := 0x7B, inf := some 0x7C, nan := some 0x7E }
/-- e4m3. -/
def e4m3 : Format := { ebits := 4, mbits := 3, bias := 7, top := 0x7E, inf := none, nan := some 0x7F }
/-- e2m1. -/
def e2m1 : Format := { ebits := 2, mbits := 1, bias := 1, top := 0x7, inf := none, nan := none }

/-- The sign bit of a code of the format. -/
def Format.sign (f : Format) : Nat := 2 ^ (f.ebits + f.mbits)

/-- The exponent of the smallest normal magnitude. -/
def Format.emin (f : Format) : Int := 1 - (f.bias : Int)

/-- The exponent of the smallest subnormal magnitude. -/
def Format.qmin (f : Format) : Int := f.emin - f.mbits

/-- The exact value of a magnitude code at most `top` (R108). -/
def Format.mag (f : Format) (neg : Bool) (m : Nat) : Dy :=
  let e := m >>> f.mbits
  let fr := m % 2 ^ f.mbits
  if e = 0 then { neg := neg, man := fr, exp := f.qmin }
  else { neg := neg, man := 2 ^ f.mbits + fr, exp := f.qmin + ((e : Int) - 1) }

/-- The value of a code (R108). -/
def Format.value (f : Format) (c : Nat) : Fp :=
  let neg := c / f.sign % 2 == 1
  let m := c % f.sign
  if m ≤ f.top then .fin (f.mag neg m) else if f.inf = some m then .inf neg else .nan

/-- The code of a magnitude with a sign. -/
def Format.signed (f : Format) (neg : Bool) (m : Nat) : Nat := if neg then f.sign + m else m

/-! Rounding (R117). -/

/-- The rounding modes of R117, by code. -/
inductive Rm where
  | rne | rtz | rup | rdn | sto
  deriving DecidableEq, Repr

/-- The mode of a code. -/
def Rm.ofCode : Nat → Rm
  | 0 => .rne | 1 => .rtz | 2 => .rup | 3 => .rdn | _ => .sto

/-- Of two neighbours in magnitude, the larger is chosen: `lo` is the smaller one in steps, and the value lies `rem / den` of a
step beyond it, with `rem` not 0 (R117). -/
def Rm.up (m : Rm) (rnd : Nat) (neg : Bool) (lo rem den : Nat) : Bool :=
  match m with
  | .rne => den < 2 * rem || (2 * rem == den && lo % 2 == 1)
  | .rtz => false
  | .rup => !neg
  | .rdn => neg
  | .sto => rnd < rem * 65536 / den

/-- A magnitude rounded to whole steps of `2^q`: the number of steps, and whether it was not exact (R117). -/
def Rm.steps (m : Rm) (rnd : Nat) (d : Dy) (q : Int) : Nat × Bool :=
  if q ≤ d.exp then (d.units q, false)
  else
    let k := expGap q d.exp
    let lo := d.man >>> k
    let rem := d.man % 2 ^ k
    if rem = 0 then (lo, false) else (if m.up rnd d.neg lo rem (2 ^ k) then lo + 1 else lo, true)

/-- A finite value rounded to a format: the magnitude code, which is above `top` on an overflow, and whether UNF is set
(R110, R117). -/
def Format.round (f : Format) (m : Rm) (rnd : Nat) (d : Dy) : Nat × Bool :=
  if d.man = 0 then (0, false)
  else
    let t := d.top
    let q := if t ≤ f.emin then f.qmin else t - f.mbits
    let (k, inexact) := m.steps rnd d q
    (expGap q f.qmin * 2 ^ f.mbits + k, inexact && decide (t < f.emin))

/-- An arithmetic result in f32: RNE, and infinity with OVF beyond the largest finite value (R109, R110, R117). -/
def toF32 (v : Fp) : W32 × Flags :=
  match v with
  | .nan => (0x7FC00000#32, 0)
  | .inf neg => (BitVec.ofNat 32 (f32.signed neg 0x7F800000), 0)
  | .fin d =>
    let (k, unf) := f32.round .rne 0 d
    if f32.top < k then (BitVec.ofNat 32 (f32.signed d.neg 0x7F800000), fOVF)
    else (BitVec.ofNat 32 (f32.signed d.neg k), if unf then fUNF else 0)

/-- A conversion to a floating format (R118); `sat` says that FMT.SAT is 0. -/
def Format.convert (f : Format) (sat : Bool) (m : Rm) (rnd : Nat) (v : Fp) : Nat × Flags :=
  match v with
  | .nan => match f.nan with | some c => (c, 0) | none => (0, fINV)
  | .inf neg => match f.inf with | some c => (f.signed neg c, 0) | none => (f.signed neg f.top, fSAT)
  | .fin d =>
    let (k, unf) := f.round m rnd d
    if f.top < k then
      match f.inf with
      | some c => if sat then (f.signed d.neg f.top, fSAT ||| fOVF) else (f.signed d.neg c, fOVF)
      | none => (f.signed d.neg f.top, fSAT ||| fOVF)
    else if k = 0 ∧ f.nan = none then (0, if unf then fUNF else 0)
    else (f.signed d.neg k, if unf then fUNF else 0)

/-- A conversion to an integer between two bounds: rounded, then saturated (R118, R211). -/
def toInt (lo hi : Int) (m : Rm) (rnd : Nat) (v : Fp) : Int × Flags :=
  match v with
  | .nan => (0, fINV)
  | .inf neg => (if neg then lo else hi, fSAT)
  | .fin d =>
    let (k, _) := m.steps rnd d 0
    let i : Int := if d.neg then -(k : Int) else k
    if i < lo then (lo, fSAT) else if hi < i then (hi, fSAT) else (i, 0)

/-! Arithmetic on values: the exact result, and INV where a NaN comes from other values (R109, R110). -/

/-- The value of an f32 code. -/
def ofF32 (a : W32) : Fp := f32.value a.toNat

/-- The opposite. -/
def Fp.negate : Fp → Fp
  | .nan => .nan
  | .inf n => .inf (!n)
  | .fin d => .fin d.negate

/-- The value is a NaN. -/
def Fp.isNan : Fp → Bool
  | .nan => true
  | _ => false

/-- The sum. -/
def Fp.add : Fp → Fp → Fp × Flags
  | .nan, _ => (.nan, 0)
  | _, .nan => (.nan, 0)
  | .inf a, .inf b => if a = b then (.inf a, 0) else (.nan, fINV)
  | .inf a, .fin _ => (.inf a, 0)
  | .fin _, .inf b => (.inf b, 0)
  | .fin a, .fin b => (.fin (a.add b), 0)

/-- The product. -/
def Fp.mul : Fp → Fp → Fp × Flags
  | .nan, _ => (.nan, 0)
  | _, .nan => (.nan, 0)
  | .inf a, .inf b => (.inf (a != b), 0)
  | .inf a, .fin b => if b.man = 0 then (.nan, fINV) else (.inf (a != b.neg), 0)
  | .fin a, .inf b => if a.man = 0 then (.nan, fINV) else (.inf (a.neg != b), 0)
  | .fin a, .fin b => (.fin (a.mul b), 0)

/-- `a × b + d`; a NaN operand gives a NaN and no INV (R110). -/
def Fp.fma (a b d : Fp) : Fp × Flags :=
  if a.isNan || b.isNan || d.isNan then (.nan, 0)
  else
    let (p, f) := a.mul b
    let (r, g) := p.add d
    (r, f ||| g)

/-- Rounds an exact result to f32, with the flags raised so far. -/
def finish (v : Fp × Flags) : W32 × Flags :=
  let (r, f) := toF32 v.1
  (r, v.2 ||| f)

/-! f32 arithmetic by RNE (spec/15 R197). -/

/-- `a + b`. -/
def f32Add (a b : W32) : W32 × Flags := finish ((ofF32 a).add (ofF32 b))
/-- `a - b`. -/
def f32Sub (a b : W32) : W32 × Flags := finish ((ofF32 a).add (ofF32 b).negate)
/-- `a × b`. -/
def f32Mul (a b : W32) : W32 × Flags := finish ((ofF32 a).mul (ofF32 b))
/-- `a × b + d`, with one rounding. -/
def f32Fma (a b d : W32) : W32 × Flags := finish ((ofF32 a).fma (ofF32 b) (ofF32 d))
/-- `d - a × b`, with one rounding. -/
def f32Fms (a b d : W32) : W32 × Flags := finish ((ofF32 a).negate.fma (ofF32 b) (ofF32 d))

/-- The canonical NaN of f32. -/
def f32NaN : W32 := 0x7FC00000#32

/-- The code is a NaN. -/
def isNaN (a : W32) : Bool := (ofF32 a).isNan

/-- The order of codes that are no NaN, -0 below +0, as an integer (R109). -/
def f32Key (a : W32) : Int := if a.msb then -(a.toNat % 2 ^ 31 : Nat) - 1 else (a.toNat : Int)

/-- The smaller, -0 below +0; NaN if either is one (R109, R197). -/
def f32Min (a b : W32) : W32 := if isNaN a || isNaN b then f32NaN else if f32Key b < f32Key a then b else a
/-- The larger, -0 below +0; NaN if either is one (R109, R197). -/
def f32Max (a b : W32) : W32 := if isNaN a || isNaN b then f32NaN else if f32Key a < f32Key b then b else a
/-- The magnitude (R197). -/
def f32Abs (a : W32) : W32 := if isNaN a then f32NaN else a &&& 0x7FFFFFFF#32
/-- The opposite (R197). -/
def f32Neg (a : W32) : W32 := if isNaN a then f32NaN else a ^^^ 0x80000000#32

/-- The value of a code, with NaN as none, for comparison: infinities beyond every finite value. -/
def f32Eq (a b : W32) : Bool :=
  !(isNaN a || isNaN b) && (a == b || (a.toNat % 2 ^ 31 == 0 && b.toNat % 2 ^ 31 == 0))

/-- `a < b`, ordered; -0 equals +0 (R202). -/
def f32Lt (a b : W32) : Bool := !(isNaN a || isNaN b) && !f32Eq a b && decide (f32Key a < f32Key b)

/-- The class of R198, one-hot. -/
def f32Class (a : W32) : W32 :=
  let m := a.toNat % 2 ^ 31
  let k : Nat :=
    if 0x7F800000 < m then (if a.getLsbD 22 then 9 else 8)
    else if m = 0x7F800000 then (if a.msb then 0 else 7)
    else if m = 0 then (if a.msb then 3 else 4)
    else if m < 0x00800000 then (if a.msb then 2 else 5)
    else (if a.msb then 1 else 6)
  1#32 <<< k

/-- Widens a code of a narrower format exactly to f32; a NaN is canonical (R116, R210). -/
def widen (f : Format) (c : Nat) : W32 := (toF32 (f.value c)).1

/-! Integer roots. -/

/-- One run of Newton's iteration for the square root, from above. -/
def isqrtFrom (n : Nat) : Nat → Nat → Nat
  | 0, x => x
  | fuel + 1, x =>
    let y := (x + n / x) / 2
    if y < x then isqrtFrom n fuel y else x

/-- `floor(sqrt n)`. -/
def isqrt (n : Nat) : Nat := if n = 0 then 0 else isqrtFrom n (Nat.log2 n + 2) (2 ^ (Nat.log2 n / 2 + 1))

/-- The correctly rounded square root of a positive value: 2^70 and more steps before the rounding, and a sticky bit. -/
def Dy.sqrt (d : Dy) : Dy :=
  let e := (d.exp - 140) / 2 * 2
  let n := d.units e
  let r := isqrt n
  if r * r = n then { neg := false, man := r, exp := e / 2 }
  else { neg := false, man := 2 * r + 1, exp := e / 2 - 1 }

/-- `a / b`, correctly rounded (spec/21 R303): 100 and more quotient bits before the rounding, and a sticky bit. -/
def f32Div (a b : W32) : W32 :=
  match ofF32 a, ofF32 b with
  | .nan, _ => f32NaN
  | _, .nan => f32NaN
  | .inf _, .inf _ => f32NaN
  | .inf x, .fin d => (toF32 (.inf (x != d.neg))).1
  | .fin d, .inf y => (toF32 (.fin { neg := d.neg != y, man := 0, exp := 0 })).1
  | .fin c, .fin d =>
    if d.man = 0 then (if c.man = 0 then f32NaN else (toF32 (.inf (c.neg != d.neg))).1)
    else
      let n := c.man * 2 ^ 128
      let q := n / d.man
      (toF32 (.fin { neg := c.neg != d.neg, man := if n % d.man = 0 then 2 * q else 2 * q + 1, exp := c.exp - d.exp - 129 })).1

/-- The square root of an f32 (spec/09 R124, vsqrt). -/
def f32Sqrt (a : W32) : W32 × Flags :=
  match ofF32 a with
  | .nan => (f32NaN, 0)
  | .inf neg => if neg then (f32NaN, fINV) else (a, 0)
  | .fin d => if d.man = 0 then (a, 0) else if d.neg then (f32NaN, fINV) else toF32 (.fin d.sqrt)

end Sys2Proof.Machine
end

