-- ==== Sys2Proof/Machine/Transc.lean ====
section
/-! DEFINITION. The interpolated functions of spec/09 R123 and R124. A function value at a table point is computed to far
more bits than f32 keeps, with an odd last bit where it is not exact, and then rounded once by RNE (log 20). -/

namespace Sys2Proof.Machine

/-- Fraction bits of the fixed-point numbers of this file. -/
def fx : Nat := 640

/-- `floor(π × 2^640)`. -/
def fxPi : Nat := 0x3243F6A8885A308D313198A2E03707344A4093822299F31D0082EFA98EC4E6C89452821E638D01377BE5466CF34E90C6CC0AC29B7C97C50DD3F84D5B5B54709179216D5D98979FB1BD1310BA698DFB5AC

/-- A fixed-point number that is not exact, as a value. -/
def ofFx (n : Nat) : Dy := { neg := false, man := 2 * n + 1, exp := -((fx : Int) + 1) }

/-- A value that is not negative, in fixed point. -/
def toFx (d : Dy) : Nat :=
  if -(fx : Int) ≤ d.exp then d.units (-(fx : Int)) else d.man >>> expGap (-(fx : Int)) d.exp

/-- The Taylor series of `e^y` from a term on. -/
def expSeries (y : Nat) : Nat → Nat → Nat → Nat → Nat
  | 0, _, _, acc => acc
  | fuel + 1, n, term, acc =>
    if term = 0 then acc
    else expSeries y fuel (n + 1) (term * y / (2 ^ fx * (n + 1))) (acc + term)

/-- Squares a fixed-point number `k` times. -/
def fxSquares : Nat → Nat → Nat
  | 0, x => x
  | k + 1, x => fxSquares k (x * x / 2 ^ fx)

/-- `e^-x` for a fixed-point `x` below 2^8. -/
def fxExpNeg (x : Nat) : Nat := 2 ^ (2 * fx) / fxSquares 11 (expSeries (x / 2 ^ 11) 160 0 (2 ^ fx) 0)

/-- `φ(u)` in fixed point: the standard normal density. -/
def fxPhi (u : Nat) : Nat := fxExpNeg (u * u / 2 ^ (fx + 1)) * 2 ^ fx / isqrt (2 * fxPi * 2 ^ fx)

/-- The sum of `u^(2n+1) / (1 × 3 × … × (2n+1))` from a term on. -/
def cdfSeries (sq : Nat) : Nat → Nat → Nat → Nat → Nat
  | 0, _, _, acc => acc
  | fuel + 1, n, term, acc =>
    if term = 0 then acc
    else cdfSeries sq fuel (n + 1) (term * sq / (2 ^ fx * (2 * n + 3))) (acc + term)

/-- `Φ(u) - 1/2` in fixed point. -/
def fxCdf (u : Nat) : Nat := fxPhi u * cdfSeries (u * u / 2 ^ fx) 700 0 u 0 / 2 ^ fx

/-- The binary digits of `log2 m` for a fixed-point `m` in [1, 2). -/
def log2Digits : Nat → Nat → Nat → Nat
  | 0, _, acc => acc
  | k + 1, m, acc =>
    let q := m * m / 2 ^ fx
    if q < 2 ^ (fx + 1) then log2Digits k q (2 * acc) else log2Digits k (q / 2) (2 * acc + 1)

/-- Takes the square root `k` times. -/
def isqrts : Nat → Nat → Nat
  | 0, x => x
  | k + 1, x => isqrts k (isqrt x)

/-- A value rounded to f32 by RNE. -/
def r32 (d : Dy) : W32 := (toF32 (.fin d)).1

/-! The functions at table points. -/

/-- `1/u`, u > 0. -/
def rcpAt (u : Dy) : W32 :=
  let n := 2 ^ (Nat.log2 u.man + 80)
  let q := n / u.man
  r32 { neg := false, man := if n % u.man = 0 then 2 * q else 2 * q + 1, exp := -u.exp - (Nat.log2 u.man + 80 : Nat) - 1 }

/-- `1/sqrt u`, u > 0. -/
def rsqrtAt (u : Dy) : W32 :=
  let e := (-u.exp) % 2
  let n := 2 ^ (Nat.log2 u.man + 160 + (Nat.log2 u.man + e.toNat) % 2)
  let q := n / u.man
  let r := isqrt q
  let x : Int := -u.exp - (Nat.log2 u.man + 160 + (Nat.log2 u.man + e.toNat) % 2 : Nat)
  r32 { neg := false, man := if r * r = q ∧ n % u.man = 0 then 2 * r else 2 * r + 1, exp := x / 2 - 1 }

/-- `2^u` for a multiple of 1/128 in [0, 1]. -/
def exp2At (u : Dy) : W32 :=
  let i := u.units (-7)
  let r := isqrts 7 (2 ^ (128 * 70 + i))
  r32 { neg := false, man := if i % 128 = 0 then 2 * r else 2 * r + 1, exp := -71 }

/-- `log2 u` for a value in [1, 2]. -/
def log2At (u : Dy) : W32 :=
  let m := toFx u
  if m = 2 ^ fx then 0
  else if m = 2 ^ (fx + 1) then 0x3F800000#32
  else r32 { neg := false, man := 2 * log2Digits 100 m 0 + 1, exp := -101 }

/-- `tanh u`, u > 0. -/
def tanhAt (u : Dy) : W32 :=
  let e := fxExpNeg (2 * toFx u)
  r32 (ofFx ((2 ^ fx - e) * 2 ^ fx / (2 ^ fx + e)))

/-- `Φ(u)`, u > 0. -/
def ncdfAt (u : Dy) : W32 := r32 (ofFx (2 ^ (fx - 1) + fxCdf (toFx u)))

/-- `Φ(-u)`, u > 0. -/
def ncdfNegAt (u : Dy) : W32 := r32 (ofFx (2 ^ (fx - 1) - fxCdf (toFx u)))

/-- `φ(u)`, u > 0. -/
def npdfAt (u : Dy) : W32 := r32 (ofFx (fxPhi (toFx u)))

/-! Interpolation (R123). -/

/-- The exact value of a finite f32. -/
def f32Dy (a : W32) : Dy := match ofF32 a with | .fin d => d | _ => Dy.ofNat 0

/-- `p(u)` on the interval that starts at `a` with 64 segments of width `2^hx`: the result, and the flags of its last
rounding (R123). -/
def interp (f : Dy → W32) (a : Dy) (hx : Int) (u : Dy) : W32 × Flags :=
  let d := u.add a.negate
  let s := if hx ≤ d.exp then d.units hx else d.man >>> expGap hx d.exp
  let at_ := fun (k : Nat) => a.add { neg := false, man := 2 * s + k, exp := hx - 1 }
  let t := u.add (at_ 0).negate
  let y0 := f32Dy (f (at_ 0))
  let y1 := f32Dy (f (at_ 1))
  let y2 := f32Dy (f (at_ 2))
  let times := fun (k : Nat) (y : Dy) => { y with man := k * y.man }
  let c1 := r32 ((((times 4 y1).add (times 3 y0).negate).add y2.negate).scale (-hx))
  let c2 := r32 ((times 2 ((y0.add (times 2 y1).negate).add y2)).scale (-2 * hx))
  let r := r32 (((f32Dy c2).mul t).add (f32Dy c1))
  toF32 (.fin (((f32Dy r).mul t).add y0))

/-- The value with its leading bit in position 0: `m` in [1, 2). -/
def Dy.unit (d : Dy) : Dy := { d with neg := false, exp := -(Nat.log2 d.man : Int) }

/-- 1 as an exact value. -/
def dyOne : Dy := Dy.ofNat 1

/-- `p(u)` over the octave of `u`, as vtanh, vncdf and vnpdf use it (R124). -/
def octave (f : Dy → W32) (u : Dy) : W32 × Flags :=
  interp f { neg := false, man := 1, exp := u.top } (u.top - 6) u

/-- The constant of R124: 1/sqrt(2π) rounded to f32. -/
def invSqrt2Pi : W32 := 0x3ECC422A#32

/-- `|x| < 2^k`. -/
def Dy.below (d : Dy) (k : Int) : Bool := d.man == 0 || decide (d.top < k)

/-! The eight functions (R124). -/

/-- vrcp. -/
def f32Rcp (a : W32) : W32 × Flags :=
  match ofF32 a with
  | .nan => (f32NaN, 0)
  | .inf n => (if n then 0x80000000#32 else 0, 0)
  | .fin d =>
    if d.man = 0 then (if d.neg then 0xFF800000#32 else 0x7F800000#32, 0)
    else
      let p := interp rcpAt dyOne (-6) d.unit
      toF32 (.fin { (f32Dy p.1).scale (-d.top) with neg := d.neg })

/-- vrsqrt. -/
def f32Rsqrt (a : W32) : W32 × Flags :=
  match ofF32 a with
  | .nan => (f32NaN, 0)
  | .inf n => if n then (f32NaN, fINV) else (0, 0)
  | .fin d =>
    if d.man = 0 then (if d.neg then 0xFF800000#32 else 0x7F800000#32, 0)
    else if d.neg then (f32NaN, fINV)
    else
      let q := d.top / 2
      let m := d.scale (-2 * q)
      let p := if d.top % 2 = 0 then interp rsqrtAt dyOne (-6) m else interp rsqrtAt (dyOne.scale 1) (-5) m
      toF32 (.fin ((f32Dy p.1).scale (-q)))

/-- vexp2. -/
def f32Exp2 (a : W32) : W32 × Flags :=
  match ofF32 a with
  | .nan => (f32NaN, 0)
  | .inf n => (if n then 0 else 0x7F800000#32, 0)
  | .fin d =>
    if (Dy.ofNat 128).le d then (0x7F800000#32, fOVF)
    else if !(Dy.ofInt (-150)).le d then (0, fUNF)
    else
      let lo : Int := if 0 ≤ d.exp then d.units 0 else d.man >>> expGap 0 d.exp
      let whole := decide (0 ≤ d.exp) || d.man % 2 ^ expGap 0 d.exp == 0
      let n : Int := if d.neg then (if whole then -lo else -lo - 1) else lo
      let p := interp exp2At { neg := false, man := 0, exp := 0 } (-6) (d.add (Dy.ofInt (-n)))
      toF32 (.fin ((f32Dy p.1).scale n))

/-- vlog2. -/
def f32Log2 (a : W32) : W32 × Flags :=
  match ofF32 a with
  | .nan => (f32NaN, 0)
  | .inf n => if n then (f32NaN, fINV) else (a, 0)
  | .fin d =>
    if d.man = 0 then (0xFF800000#32, 0)
    else if d.neg then (f32NaN, fINV)
    else
      let p := interp log2At dyOne (-6) d.unit
      toF32 (.fin ((Dy.ofInt d.top).add (f32Dy p.1)))

/-- vtanh. -/
def f32Tanh (a : W32) : W32 × Flags :=
  match ofF32 a with
  | .nan => (f32NaN, 0)
  | .inf n => (if n then 0xBF800000#32 else 0x3F800000#32, 0)
  | .fin d =>
    if d.below (-12) then (a, 0)
    else if !d.below 4 then (if d.neg then 0xBF800000#32 else 0x3F800000#32, 0)
    else
      let p := octave tanhAt { d with neg := false }
      let r := f32Min p.1 0x3F800000#32
      (if d.neg then f32Neg r else r, p.2)

/-- vncdf: the standard normal distribution function. -/
def f32Ncdf (a : W32) : W32 × Flags :=
  match ofF32 a with
  | .nan => (f32NaN, 0)
  | .inf n => (if n then 0 else 0x3F800000#32, 0)
  | .fin d =>
    if d.below (-12) then f32Fma a invSqrt2Pi 0x3F000000#32
    else if !d.below 4 then (if d.neg then 0 else 0x3F800000#32, 0)
    else
      let p := octave (if d.neg then ncdfNegAt else ncdfAt) { d with neg := false }
      (f32Min (f32Max p.1 0) 0x3F800000#32, p.2)

/-- vnpdf: the standard normal density. -/
def f32Npdf (a : W32) : W32 × Flags :=
  match ofF32 a with
  | .nan => (f32NaN, 0)
  | .inf _ => (0, 0)
  | .fin d =>
    if d.below (-12) then (invSqrt2Pi, 0)
    else if !d.below 4 then (0, 0)
    else
      let p := octave npdfAt { d with neg := false }
      (f32Max p.1 0, p.2)

end Sys2Proof.Machine
end

