-- ==== Sys2Proof/Machine/Flags.lean ====
section
/-! DEFINITION. The mode registers and the sticky flags: the fields of FMT (spec/09 R125) and MOM (R127) in force, raising
flags (R110, R129), setfmt and setmom (R126, R128), and what a ctlr of FMT or MOM reads. -/

namespace Sys2Proof.Machine

/-- Raises flags in the bundle that issues (spec/09 R129). -/
def State.flag (s : State) (f : Flags) : State :=
  { s with core := { s.core with flagsNew := s.core.flagsNew ||| f } }

/-- Raises NVCLAMP (spec/09 R127, R129). -/
def State.flagClamp (s : State) (b : Bool) : State :=
  { s with core := { s.core with nvclampNew := s.core.nvclampNew || b } }

/-- FMT in force for the bundle (spec/09 R128). -/
def State.fmt (s : State) : W64 := s.core.fmt

/-- MOM in force for the bundle (spec/09 R128). -/
def State.mom (s : State) : W64 := s.core.mom

/-- RM (spec/09 R125). -/
def State.rm (s : State) : Nat := field s.fmt 10 8
/-- FMT.SAT is 0: saturate. -/
def State.saturates (s : State) : Bool := !s.fmt.getLsbD 14
/-- AF. -/
def State.af (s : State) : Nat := field s.fmt 2 0
/-- BF. -/
def State.bf (s : State) : Nat := field s.fmt 5 3
/-- ACC is 1: i32 accumulation. -/
def State.acc (s : State) : Bool := s.fmt.getLsbD 6
/-- OUT is 1: escapes and side lists. -/
def State.out (s : State) : Bool := s.fmt.getLsbD 15
/-- SOV. -/
def State.sov (s : State) : Bool := s.fmt.getLsbD 13
/-- SCM. -/
def State.scm (s : State) : Nat := field s.fmt 12 11
/-- PNA. -/
def State.pna (s : State) : Nat := field s.fmt 19 16
/-- PMA. -/
def State.pma (s : State) : Nat := field s.fmt 23 20
/-- PNB. -/
def State.pnb (s : State) : Nat := field s.fmt 27 24
/-- PMB. -/
def State.pmb (s : State) : Nat := field s.fmt 31 28
/-- MOM.NV is 1: CLAMP (spec/09 R127). -/
def State.clamps (s : State) : Bool := s.mom.getLsbD 34
/-- MOM.CA. -/
def State.ca (s : State) : Nat := field s.mom 33 32
/-- MOM.K. -/
def State.k (s : State) : W32 := s.mom.setWidth 32

/-- A value that setfmt accepts: no invalid code, every PN in 2 to 8 and every PM in 1 to its PN (spec/09 R126); reserved
bits are ignored (spec/01 R7). -/
def fmtValid (v : W64) : Bool :=
  field v 2 0 ≤ 4 && field v 5 3 ≤ 4 && field v 10 8 ≤ 4 && field v 12 11 ≠ 3 &&
  2 ≤ field v 19 16 && field v 19 16 ≤ 8 && 1 ≤ field v 23 20 && field v 23 20 ≤ field v 19 16 &&
  2 ≤ field v 27 24 && field v 27 24 ≤ 8 && 1 ≤ field v 31 28 && field v 31 28 ≤ field v 27 24

/-- A value that setmom accepts: K finite and not negative (spec/09 R126); -0 has its sign bit set, and counts as negative
(log 21). -/
def momValid (v : W64) : Bool := (v.setWidth 32 : W32).toNat < 0x7F800000

/-- The bits of FMT that are not reserved and not sticky. -/
def fmtMask : W64 := 0x00000000FFFFFF7F

/-- The bits of MOM that are not reserved and not sticky. -/
def momMask : W64 := 0x00000007FFFFFFFF

/-- The value asks for a feature that the session does not hold: plane integers or outliers (spec/31 R386). -/
def fmtAbsent (feat v : W64) : Bool :=
  (!feat.getLsbD 2 && (field v 2 0 == 4 || field v 5 3 == 4)) || (!feat.getLsbD 8 && v.getLsbD 15)

/-- setfmt: the value is in flight for the bundle and four more, its flag bits are the flags (spec/09 R126, R128, R129). -/
def State.setFmt (s : State) (v : W64) : Res State :=
  if !fmtValid v || fmtAbsent s.feat v then trap .fmt 3
  else .ok { s with core := { s.core with
      fmtWrites := s.core.fmtWrites ++ [{ value := v &&& fmtMask, left := 5 }]
      flags := BitVec.ofNat 6 (field v 37 32), fmtSet := true } }

/-- setmom (spec/09 R126, R128, R129). -/
def State.setMom (s : State) (v : W64) : Res State :=
  if !momValid v then trap .fmt 3
  else .ok { s with core := { s.core with
      momWrites := s.core.momWrites ++ [{ value := v &&& momMask, left := 5 }]
      nvclamp := v.getLsbD 35, momSet := true } }

/-- What a ctlr of FMT returns: the value in force, with the flags of the bundles before this one (spec/09 R128, R129). -/
def State.readFmt (s : State) : W64 := s.core.fmt ||| (s.core.flags.setWidth 64 <<< 32)

/-- What a ctlr of MOM returns (spec/09 R128, R129). -/
def State.readMom (s : State) : W64 := s.core.mom ||| (if s.core.nvclamp then 0x800000000#64 else 0#64)

/-- The mode writes in flight after one more bundle: those that have used up the bundles that keep the previous value take
effect, in order (spec/09 R128). -/
def stepModes (now : W64) (ws : List ModeWrite) : W64 × List ModeWrite :=
  let aged := ws.map fun w => { w with left := w.left - 1 }
  (((aged.filter (·.left == 0)).getLast?.map (·.value)).getD now, aged.filter (·.left != 0))

/-- The core after a bundle has been executed: flags joined, mode writes aged (spec/09 R128, R129). -/
def Core.endBundle (c : Core) : Core :=
  let c1 := c.foldFlags
  let f := stepModes c1.fmt c1.fmtWrites
  let m := stepModes c1.mom c1.momWrites
  { c1 with fmt := f.1, fmtWrites := f.2, mom := m.1, momWrites := m.2 }

end Sys2Proof.Machine
end

