-- ==== Sys2Proof/Machine/Streams.lean ====
section
/-! DEFINITION. Streams (spec/15 R220-R227): the elements of a descriptor, fetching and writing entries, binding and
unbinding. -/

namespace Sys2Proof.Machine

/-- N, the number of elements of a stream (spec/15 R221). -/
def Sd.elems (d : Sd) : Nat := (d.cnt[0]).toNat * (d.cnt[1]).toNat * (d.cnt[2]).toNat * (d.cnt[3]).toNat

/-- The bytes of an element (spec/15 R220 ESIZE). -/
def Sd.size (d : Sd) : Nat := if d.esize = 0 then 4 else if d.esize = 1 then 2 else 1

/-- The address of element `k` (spec/15 R221). -/
def Sd.addr (d : Sd) (k : Nat) : W64 :=
  let n0 := (d.cnt[0]).toNat
  let n1 := (d.cnt[1]).toNat
  let n2 := (d.cnt[2]).toNat
  d.base + BitVec.ofNat 64 (k % n0) * d.str[0] + BitVec.ofNat 64 (k / n0 % n1) * d.str[1] +
    BitVec.ofNat 64 (k / n0 / n1 % n2) * d.str[2] + BitVec.ofNat 64 (k / n0 / n1 / n2) * d.str[3]

/-- The number of elements of the entry that starts at element `k`. -/
def Sd.entryLen (d : Sd) (k : Nat) : Nat := Nat.min 64 (d.elems - k)

/-- The byte ranges of the entry that starts at element `k`. -/
def Sd.entry (d : Sd) (k : Nat) : List (W64 × Nat) :=
  (List.range (d.entryLen k)).map fun i => (d.addr (k + i), d.size)

/-- Splits a list into runs of `n`. -/
def chunks {α : Type} (n : Nat) : Nat → List α → List (List α)
  | 0, _ => []
  | k + 1, l => l.take n :: chunks n k (l.drop n)

/-- An element widened to its lane (spec/15 R220 SX, R221). -/
def Sd.lane (d : Sd) (bs : List Byte) : W32 :=
  let v := leNat bs
  if d.sx then (BitVec.ofNat (8 * d.size) v).signExtend 32 else BitVec.ofNat 32 v

/-- 64 lanes from a list; missing lanes are zero. -/
def lanesOf (ls : List W32) : Lanes := Vector.ofFn fun i => ls.getD i.val 0

/-- Reads the entry of a read stream that starts at element `k`: the last entry is filled with zero (spec/15 R221, R224). -/
def State.fetchEntry (s : State) (d : Sd) (k : Nat) : Res (State × Lanes) := do
  let (s1, bs) ← s.load (d.entry k) none
  pure (s1, lanesOf ((chunks d.size (d.entryLen k) bs).map d.lane))

/-- The next entry of a read stream, in its q register: one already fetched, else one fetched now. DIR is tested before END
(spec/15 R224). -/
def State.streamHead (s : State) (n : Nat) (k : Nat) : Res (State × Lanes) :=
  let d := s.sd k
  if d.write then trap .stream 2
  else if d.elems ≤ d.cursor then trap .stream 1
  else
    match s.q n with
    | e :: _ => .ok (s, e)
    | [] => do
      let (s1, e) ← s.fetchEntry d d.cursor
      pure (s1.setQ n [e], e)

/-- A pop of a read stream: CURSOR advances by the entry's elements (spec/15 R224). -/
def State.streamPop (s : State) (n k : Nat) : Res (State × Lanes) := do
  let (s1, e) ← s.streamHead n k
  let d := s1.sd k
  pure ((s1.dropHead n).setSd k { d with cursor := d.cursor + d.entryLen d.cursor }, e)

/-- The entries pushed through q register `n` and not yet written. -/
def State.unwritten (s : State) (n : Nat) : List Pushed := s.core.pushed.filter (·.q == n)

/-- A push to a write stream: it waits for room, resolves the elements' addresses, and queues their low bytes
(spec/15 R224). -/
def State.streamPush (s : State) (n k : Nat) (e : Lanes) : Res State :=
  let d := s.sd k
  if !d.write then trap .stream 2
  else if d.elems ≤ d.cursor then trap .stream 1
  else if 8 ≤ (s.unwritten n).length then .error .wait
  else do
    let (s1, ts) ← s.check { write := true } (d.entry d.cursor) none
    s1.afterParts true ts
    let bs := (List.range (d.entryLen d.cursor)).flatMap fun i => leBytes d.size (e[i]?.getD 0).toNat
    let s2 := s1.setSd k { d with cursor := d.cursor + d.entryLen d.cursor }
    pure { s2 with core := { s2.core with
        pushed := s2.core.pushed ++ [{ q := n, writes := writesOf ts bs, committed := false }] } }

/-- Writes one pushed entry to storage (spec/15 R225). -/
def State.writeEntry (s : State) (i : Nat) : State :=
  match s.core.pushed[i]? with
  | none => s
  | some p => (s.writeCore p.writes) |> fun t => { t with core := { t.core with pushed := t.core.pushed.eraseIdx i } }

/-- The template of a 512-bit descriptor image (spec/15 R220); its QN is 0 after an sbind (DESIGN CHOICE, log 104). -/
def sdOfTemplate (t : BitVec 512) : Sd :=
  { cursor := 0, qn := 0, bound := false, loaded := true, write := t.getLsbD 451, sx := t.getLsbD 450,
    esize := field t 449 448, str := Vector.ofFn fun i => t.extractLsb' (192 + 64 * i.val) 64,
    cnt := Vector.ofFn fun i => t.extractLsb' (64 + 32 * i.val) 32, base := t.extractLsb' 0 64 }

/-- The image of a descriptor (spec/15 R220), as ctxsv saves it. -/
def Sd.image (d : Sd) : BitVec 512 :=
  let w := fun (i : Nat) (x : W64) => x.setWidth 512 <<< (192 + 64 * i)
  let c := fun (i : Nat) (x : W32) => x.setWidth 512 <<< (64 + 32 * i)
  (BitVec.ofNat 512 d.cursor <<< 464) ||| (BitVec.ofNat 512 d.qn <<< 460) |||
  (BitVec.ofNat 512 d.bound.toNat <<< 459) ||| (BitVec.ofNat 512 d.loaded.toNat <<< 458) |||
  (BitVec.ofNat 512 d.write.toNat <<< 451) ||| (BitVec.ofNat 512 d.sx.toNat <<< 450) |||
  (BitVec.ofNat 512 d.esize <<< 448) ||| w 0 d.str[0] ||| w 1 d.str[1] ||| w 2 d.str[2] ||| w 3 d.str[3] |||
  c 0 d.cnt[0] ||| c 1 d.cnt[1] ||| c 2 d.cnt[2] ||| c 3 d.cnt[3] ||| d.base.setWidth 512

/-- The descriptor of an image that ctxld restores (spec/15 R220, spec/13 R188). -/
def sdOfImage (t : BitVec 512) : Sd :=
  { sdOfTemplate t with cursor := field t 511 464, qn := field t 463 460, bound := t.getLsbD 459, loaded := t.getLsbD 458 }

/-- The template breaks no condition of spec/15 R222. -/
def templateGood (t : BitVec 512) : Bool :=
  let d := sdOfTemplate t
  field t 511 452 == 0 && d.esize != 3 && decide (d.elems ≠ 0) && decide (d.elems ≤ 2 ^ 48 - 1) &&
  d.base.toNat % d.size == 0 && decide (∀ i : Fin 4, (d.str[i]).toNat % d.size = 0) && !(d.write && d.sx)

/-- sbind (spec/15 R222). -/
def State.bindTemplate (s : State) (k : Nat) (va : W64) : Res State :=
  if (s.sd k).bound then trap .stream 3
  else do
    let (s1, bs) ← s.load [(va, 64)] (misaligned va 64)
    let t := BitVec.ofNat 512 (leNat bs)
    if templateGood t then pure (s1.setSd k (sdOfTemplate t)) else trap .stream 5

/-- qbind (spec/15 R223). -/
def State.bindQueue (s : State) (n k : Nat) : Res State :=
  let d := s.sd k
  if !d.loaded then trap .stream 4
  else if d.bound || (s.boundTo n).isSome then trap .stream 3
  else if !(s.q n).isEmpty then trap .stream 7
  else do
    let rest := (List.range (d.elems - d.cursor)).map fun i => (d.addr (d.cursor + i), d.size)
    let (s1, ts) ← s.check { write := d.write } rest none
    need (!ts.any (·.watched)) .stream 6
    pure (s1.setSd k { d with bound := true, qn := n })

/-- qunbind (spec/15 R226): the descriptor keeps its QN too (log 104). -/
def State.unbindQueue (s : State) (n : Nat) : Res State :=
  match s.boundTo n with
  | none => trap .stream 8
  | some k =>
    let s1 := s.flushStreams
    .ok ((s1.emptyQ n).setSd k { s1.sd k with bound := false })

/-- qcnt: the entries pushed and not popped of a linked register; of a streamed one, the entries fetched or not yet written,
which deterministic mode takes from the supply latch (spec/15 R218). -/
def State.queueCount (s : State) (n : Nat) : Nat :=
  match s.boundTo n with
  | none => (s.q n).length
  | some k => if (s.sd k).write then (s.unwritten n).length else (s.q n).length

/-- qclr (spec/15 R219). -/
def State.clearQueue (s : State) (n : Nat) : Res State :=
  match s.boundTo n with
  | none => .ok (s.emptyQ n)
  | some _ => trap .stream 3

/-- A further entry of a read stream is fetched ahead, when there is room and no check fails (spec/15 R223, R224). -/
def State.prefetch (s : State) (k : Nat) : State :=
  let d := s.sd k
  let have_ := (s.q d.qn).length
  let at_ := d.cursor + 64 * have_
  if d.bound && !d.write && decide (have_ < 8) && decide (at_ < d.elems) then
    match s.fetchEntry d at_ with
    | .ok (s1, e) => s1.setQ d.qn (s1.q d.qn ++ [e])
    | .error _ => s
  else s

end Sys2Proof.Machine
end

