-- ==== Sys2Proof/Machine/Operands.lean ====
section
/-! DEFINITION. Operands: the V operand codes as sources and destinations (spec/11 R145, R148, R151, spec/15 R193), memory
footprints of V slots (R212, R214), and the values of deterministic mode (spec/13 R183). -/

namespace Sys2Proof.Machine

/-! Reading. -/

/-- A pop of q register `n` (spec/11 R148, spec/15 R224). -/
def State.pop (s : State) (n : Nat) : Res (State × Lanes) :=
  match s.boundTo n with
  | some k => s.streamPop n k
  | none =>
    match s.q n with
    | e :: _ => .ok (s.dropHead n, e)
    | [] => trap .qunf

/-- A peek of q register `n` (spec/11 R148, spec/15 R224). -/
def State.peek (s : State) (n : Nat) : Res (State × Lanes) :=
  match s.boundTo n with
  | some k => s.streamHead n k
  | none =>
    match s.q n with
    | e :: _ => .ok (s, e)
    | [] => trap .qunf

/-- A V source operand (spec/11 R151): v register, pop, peek, the zero vector, or the operand that the port holds. -/
def State.src (s : State) (c : BitVec 6) : Res (State × Lanes) :=
  if c.toNat < 32 then .ok (s, s.v c.toNat)
  else if c.toNat < 48 then s.pop (c.toNat - 32)
  else if c.toNat < 56 then s.peek (c.toNat - 48)
  else if c.toNat = 63 then
    match s.core.hold.getD s.vport none with
    | some e => .ok (s, e)
    | none => trap .illegal 5
  else .ok (s, Lanes.zero)

/-- The h bit: the value read for operand a is held on the issuing port (spec/11 R145). -/
def State.holdOperand (s : State) (h : BitVec 1) (e : Lanes) : State :=
  if h = 1 then { s with core := { s.core with hold := s.core.hold.setIfInBounds s.vport (some e) } } else s

/-- Operand a of a V.R slot, held when h is 1. -/
def State.srcA (s : State) (c : BitVec 6) (h : BitVec 1) : Res (State × Lanes) := do
  let (s1, e) ← s.src c
  pure (s1.holdOperand h e, e)

/-! Writing. -/

/-- A push to q register `n` (spec/11 R148, spec/15 R224). -/
def State.push (s : State) (n : Nat) (e : Lanes) : Res State :=
  match s.boundTo n with
  | some k => s.streamPush n k e
  | none => if 8 ≤ (s.q n).length then trap .qovf else .ok (s.setQ n (s.q n ++ [e]))

/-- The lanes of `new` where the mask is one, of `old` elsewhere. -/
def merge (mask : W64) (new old : Lanes) : Lanes :=
  Vector.ofFn fun i => if mask.getLsbD i.val then new[i] else old[i]

/-- Writes a result to a V destination under a lane mask: inactive lanes of a v register keep their values, those of a
pushed entry are zero (spec/15 R193). -/
def State.dst (s : State) (c : BitVec 6) (mask : W64) (e : Lanes) : Res State :=
  if c.toNat < 32 then .ok (s.setV c.toNat (merge mask e (s.v c.toNat)))
  else if c.toNat < 48 then s.push (c.toNat - 32) (merge mask e Lanes.zero)
  else .ok s

/-- The mask of all lanes. -/
def allLanes : W64 := BitVec.allOnes 64

/-! Lane operations. -/

/-- A lane-wise operation with flags. -/
abbrev LaneOp1 := W32 → W32 × Flags
/-- A lane-wise operation of two operands with flags. -/
abbrev LaneOp2 := W32 → W32 → W32 × Flags
/-- A lane-wise operation of three operands with flags. -/
abbrev LaneOp3 := W32 → W32 → W32 → W32 × Flags

/-- The flags of the active lanes (spec/15 R194). -/
def flagsOf (mask : W64) (f : Nat → Flags) : Flags :=
  (List.range 64).foldl (fun a i => if mask.getLsbD i then a ||| f i else a) 0

/-- A unary V.R slot (spec/15 R193). -/
def vec1 (f : LaneOp1) (d a : BitVec 6) (g : BitVec 3) (h : BitVec 1) (s : State) : Res State := do
  let (s1, x) ← s.srcA a h
  let mask := s.p g
  (s1.flag (flagsOf mask fun i => (f (x[i]?.getD 0)).2)).dst d mask (Vector.ofFn fun i => (f x[i]).1)

/-- A binary V.R slot (spec/15 R193). Where the slot holds its own a, b = 63 reads what it has just latched (spec/11 R145; DESIGN CHOICE,
log 110). -/
def vec2 (f : LaneOp2) (d a b : BitVec 6) (g : BitVec 3) (h : BitVec 1) (s : State) : Res State := do
  let (s1, x) ← s.srcA a h
  let (s2, y) ← s1.src b
  let mask := s.p g
  (s2.flag (flagsOf mask fun i => (f (x[i]?.getD 0) (y[i]?.getD 0)).2)).dst d mask
    (Vector.ofFn fun i => (f x[i] y[i]).1)

/-- An accumulating V.R slot: d is read after a and b, then written (spec/11 R148, spec/15 R197). -/
def vec3 (f : LaneOp3) (d a b : BitVec 6) (g : BitVec 3) (h : BitVec 1) (s : State) : Res State := do
  let (s1, x) ← s.srcA a h
  let (s2, y) ← s1.src b
  let (s3, z) ← s2.src d
  let mask := s.p g
  (s3.flag (flagsOf mask fun i => (f (x[i]?.getD 0) (y[i]?.getD 0) (z[i]?.getD 0)).2)).dst d mask
    (Vector.ofFn fun i => (f x[i] y[i] z[i]).1)

/-- A lane-wise operation that raises no flag. -/
def quiet1 (f : W32 → W32) : LaneOp1 := fun a => (f a, 0)
/-- A lane-wise operation of two operands that raises no flag. -/
def quiet2 (f : W32 → W32 → W32) : LaneOp2 := fun a b => (f a b, 0)

/-- 64 bits from a lane test. -/
def maskOf (f : Nat → Bool) : W64 := BitVec.ofNat 64 ((List.range 64).foldl (fun n i => if f i then n + 2 ^ i else n) 0)

/-- Writes the active lanes of a p register (spec/15 R193). -/
def State.dstP (s : State) (n : BitVec 3) (mask r : W64) : State := s.setP n ((r &&& mask) ||| (s.p n &&& ~~~mask))

/-! Memory footprints. -/

/-- The active lanes. -/
def lanesIn (mask : W64) : List Nat := (List.range 64).filter mask.getLsbD

/-- The byte ranges of the active lanes of a vector load or store of `n` bytes a lane (spec/15 R212, spec/19 R263). -/
def vecRanges (n : Nat) (ea : W64) (mask : W64) : List (W64 × Nat) :=
  (lanesIn mask).map fun i => (ea + BitVec.ofNat 64 (n * i), n)

/-- The misalignment of a vector load or store: a base that is not 16-byte aligned, whatever the predicate, or active lanes in two
U-pad bank groups (spec/05 R50, R52, spec/15 R212). -/
def vecMisaligned (n : Nat) (ea : W64) (mask : W64) : Option W64 :=
  if ea.toNat % 16 ≠ 0 then some ea
  else
    let groups := (vecRanges n ea mask).map fun r => r.1.toNat / 0x80000
    if uBase ≤ ea.toNat ∧ groups.any (· != groups.headD 0) then some ea else none

/-- The element size of V.X fn (spec/15 R214). -/
def elemSize (f : BitVec 2) : Nat := if f = 0 then 4 else if f = 1 then 2 else 1

/-- The lowest misaligned element of a list of ranges (spec/05 R52). -/
def lowestMisaligned (rs : List (W64 × Nat)) : Option W64 :=
  rs.foldl (fun best r =>
    if r.1.toNat % r.2 = 0 then best
    else match best with
      | none => some r.1
      | some b => if r.1.toNat < b.toNat then some r.1 else some b) none

/-- Lanes loaded from the ranges of the active lanes, zero-extended; the others are zero. -/
def scatterLanes (size : Nat) (lanes : List Nat) (bs : List Byte) : Lanes :=
  let vs := chunks size lanes.length bs
  let n := lanes.zip vs
  Vector.ofFn fun i => match n.find? (·.1 == i.val) with | some p => BitVec.ofNat 32 (leNat p.2) | none => 0

/-- The low bytes of the active lanes, in lane order. -/
def gatherBytes (size : Nat) (lanes : List Nat) (e : Lanes) : List Byte :=
  lanes.flatMap fun i => leBytes size (e[i]?.getD 0).toNat

/-! Deterministic mode (spec/13 R183). -/

/-- The first entry of a list that holds, changed; the list after it unchanged. -/
def updateFirst {α : Type} (p : α → Bool) (f : α → α) : List α → List α
  | [] => []
  | a :: l => if p a then f a :: l else a :: updateFirst p f l

/-- The value of a timing-dependent read: outside deterministic mode the one given; in it the first unused entry of the
supply latch for this bundle and slot, else DETREAD (spec/13 R183). -/
def State.timed (s : State) (v : W64) : Res (State × W64) :=
  if !s.det then .ok (s, v)
  else
    let hit := fun (e : Supply) => e.addr == s.core.pc && e.slot == s.where_.1 && !e.used
    match s.core.latch.find? hit with
    | some e => .ok ({ s with core := { s.core with latch := updateFirst hit (fun x => { x with used := true }) s.core.latch } },
        e.value)
    | none => trap .detread

end Sys2Proof.Machine
end

