-- ==== Sys2Proof/Machine/Undo.lean ====
section
/-! DEFINITION. What a trap of a held slot takes back: the effects of the slots of its core that come later in program order and
have gone past it (spec/25 R326, spec/11 R142; log 98). -/

namespace Sys2Proof.Machine

/-- The effects of core `n` as they stand. -/
def State.effects (s : State) (n : Nat) : Effects :=
  { bufs := (s.coreAt n).bufs, scales := (s.coreAt n).scales, mem := s.st.mem, empty := s.st.empty, poison := s.st.poison,
    lines := s.st.lines, seals := s.st.seals, blank := s.st.blank, streams := s.eng.streams }

/-- Between `t` and `u` core `n` has had effects that come after the slots `past` in program order. -/
def State.noted (u t : State) (n : Nat) (past : List (Nat × Nat)) : State :=
  if past.isEmpty ∨ u.effects n = t.effects n then u
  else { u with eng := { u.eng with undos := u.eng.undos ++
      [{ agent := n, past := past, before := t.effects n, after := u.effects n }] } }

/-- The held slots that an engine operation comes after in program order. -/
def State.heldBefore (s : State) (o : EngineOp) : List (Nat × Nat) :=
  if o.committed then [] else (s.eng.held.filter fun h => h.agent == o.agent && h.next ≤ o.id).map (·.key)

/-- The entries that changed between `a` and `b`, and have not changed since, as they were. -/
def Store.revert {α : Type} [DecidableEq α] (d : α) (a b now : Store α) : Store α :=
  ((a ++ b).map (·.1)).foldl (fun m k =>
    if Store.get d a k ≠ Store.get d b k ∧ Store.get d m k = Store.get d b k then Store.set d m k (Store.get d a k) else m) now

/-- A combine stream as it was; where it has changed since, those of its slots that have not. -/
def CStream.revert (a b now : CStream) : CStream :=
  if now = b then a else { now with slots := Store.revert Option.none a.slots b.slots now.slots }

/-- Takes one record of effects back. -/
def State.undone (s : State) (u : Undo) : State :=
  let a := u.before
  let b := u.after
  let streams := ((a.streams ++ b.streams).map (·.1)).foldl (fun m k =>
    let x := Store.get CStream.none a.streams k
    let y := Store.get CStream.none b.streams k
    if x ≠ y then Store.set CStream.none m k (x.revert y (Store.get CStream.none m k)) else m) s.eng.streams
  { s with
      core := { s.core with bufs := Store.revert 0 a.bufs b.bufs s.core.bufs, scales := Store.revert 0 a.scales b.scales s.core.scales }
      st := { s.st with mem := Store.revert 0 a.mem b.mem s.st.mem, empty := Store.revert false a.empty b.empty s.st.empty,
                        poison := Store.revert false a.poison b.poison s.st.poison,
                        lines := Store.revert LineMeta.reset a.lines b.lines s.st.lines,
                        seals := Store.revert none a.seals b.seals s.st.seals
                        blank := s.st.blank.map fun t => Store.revert false (a.blank.getD t) (b.blank.getD t) t }
      eng := { s.eng with streams := streams } }

/-- The registers of a core as they were when its port held a slot; what the discard restores by itself, and what is not a slot's
doing, stays. -/
def Core.registersOf (c b : Core) : Core :=
  { c with x := b.x, p := b.p, v := b.v, q := b.q, qhead := b.qhead, m := b.m, z := b.z, rows := b.rows, parked := b.parked, o := b.o, sd := b.sd, cd := b.cd,
           hold := b.hold, fmt := b.fmt, mom := b.mom, fmtWrites := b.fmtWrites, momWrites := b.momWrites, flags := b.flags,
           flagsNew := b.flagsNew, fmtSet := b.fmtSet, nvclamp := b.nvclamp, nvclampNew := b.nvclampNew, momSet := b.momSet,
           latch := b.latch, loop := b.loop, rep := b.rep, take := { c.take with frees := b.take.frees, atomic := b.take.atomic } }

/-- The engine operations of the current core's take from number `n` on were never issued (R326: copies and adds are not performed). -/
def State.dropOps (s : State) (n : Nat) : State :=
  let later := fun (o : EngineOp) => o.ofTake s.cur && decide (n ≤ o.id)
  let s1 := ((s.eng.ops.filter later).filter (·.kind == .put)).foldl State.cancelPut s
  { s1 with eng := { s1.eng with ops := s1.eng.ops.filter fun o => !later o }
            sync := { s1.sync with held := s1.sync.held.filter fun h => !(h.op.any fun k => s.eng.ops.any fun o => o.id == k && later o) } }

/-- The current core as though no slot after the held one, of key `k`, had issued (spec/25 R326). -/
def State.undoPast (s : State) (k : Nat × Nat) : State :=
  match s.eng.held.find? fun h => h.agent == s.cur && h.key == k with
  | none => s
  | some h =>
    let us := s.eng.undos.filter fun u => u.agent == s.cur && u.past.contains k
    let t := us.reverse.foldl State.undone s
    ({ t with core := t.core.registersOf h.core } : State).dropOps h.next

/-- The held slot of key `k` has issued with the results that `give` writes: later snapshots hold them, and later effects do not
come after it any more. -/
def State.released (s : State) (k : Nat × Nat) (give : Core → Core) : State :=
  let mine := fun (h : Held) => h.agent == s.cur
  let later := ((s.eng.held.filter mine).dropWhile (·.key != k)).map (·.key)
  { s with eng := { s.eng with
      held := (s.eng.held.filter fun h => !(mine h && h.key == k)).map fun h =>
        if mine h && later.contains h.key then { h with core := give h.core } else h
      undos := (s.eng.undos.map fun u => if u.agent == s.cur then { u with past := u.past.filter (· != k) } else u).filter fun u =>
        !u.past.isEmpty } }

end Sys2Proof.Machine
end

