-- ==== Sys2Proof/Machine/Slot.lean ====
section
/-! DEFINITION. The frame in which every slot runs: the protected words that it reads and overwrites (spec/13 R186,
spec/27 R350), its own effect, and what becomes of a slot that traps or waits. -/

namespace Sys2Proof.Machine

/-- The word of a p register. -/
def wP (n : BitVec 3) : Words := if n = 0 then [] else run_ 1 n.toNat 1
/-- The words of a v register. -/
def wV (n : Nat) : Words := run_ 2 (64 * n) 64
/-- The words of the entry `k` places behind the oldest of a q register. -/
def wQ (s : State) (n k : Nat) : Words := run_ 3 (512 * n + 64 * ((s.core.qhead.getD n 0 + k) % 8)) 64
/-- The words of the stream descriptor that a q register is bound to, none where it is linked. -/
def wBound (s : State) (n : Nat) : Words := match s.boundTo n with | some k => run_ 7 (8 * k) 8 | none => []
/-- The words that a pop or a look at a q register reads: its oldest entry, and the descriptor of its stream. -/
def wHead (s : State) (n : Nat) : Words := wBound s n ++ if (s.q n).isEmpty then [] else wQ s n 0
/-- The words of an m register. -/
def wM (n : Nat) : Words := run_ 4 (128 * n) 128
/-- The words of the first rows of a z register. -/
def wZ (z rows : Nat) : Words := run_ 5 (4096 * z) (64 * rows)
/-- The words of one row of a z register. -/
def wRow (z row : Nat) : Words := run_ 5 (4096 * z + 64 * row) 64
/-- The words of an offset register. -/
def wO (n : Nat) : Words := run_ 6 (2 * n) 2
/-- The words of a stream descriptor register. -/
def wSd (n : Nat) : Words := run_ 7 (8 * n) 8
/-- The words of a copy descriptor register. -/
def wCd (n : BitVec 5) : Words := run_ 8 (8 * n.toNat) 8
/-- The first words of an operand buffer, 0-3 for ta, 4-7 for tb. -/
def wBuf (b n : Nat) : Words := run_ 9 (1024 * b) n
/-- The words of a column of a scale memory. -/
def wScale (m col : Nat) : Words := run_ 10 (512 * m + 8 * (col % 64)) 8

/-- The words that a V source operand reads. -/
def wSrc (s : State) (c : BitVec 6) : Words :=
  if c.toNat < 32 then wV c.toNat else if c.toNat < 48 then wHead s (c.toNat - 32)
  else if c.toNat < 56 then wHead s (c.toNat - 48) else []

/-- The words that an X operand reads. -/
def wXm (c : BitVec 6) : Words := if c.toNat < 32 then wV c.toNat else wM (c.toNat - 32)

/-- The words of the active lanes of a V destination. -/
def wDst (s : State) (c : BitVec 6) (mask : W64) : Words :=
  if c.toNat < 32 then (lanesIn mask).map fun i => (2 * 2 ^ 16 + 64 * c.toNat + i, 1)
  else if c.toNat < 48 ∧ (s.boundTo (c.toNat - 32)).isNone then wQ s (c.toNat - 32) (s.q (c.toNat - 32)).length else []

/-- The words that a V destination reads: the descriptor of the stream that it pushes to. -/
def wPush (s : State) (c : BitVec 6) : Words := if 32 ≤ c.toNat ∧ c.toNat < 48 then wBound s (c.toNat - 32) else []

/-- The words of the active lanes of an m destination. -/
def wDstM (c : BitVec 6) (mask : W64) : Words :=
  (lanesIn mask).map fun i => (4 * 2 ^ 16 + 128 * (c.toNat - 32) + 2 * i, 2)

/-- The kind of a header slot (spec/11 R138): the KIND bits of slot 0 where it is of class H. -/
def headerKind (w : BitVec 128) : Option Nat :=
  if classOf (slotWord w 0) = 4 then some (field (slotWord w 0) 27 26) else none

/-- COUNT and MASK of the bundle's REP header (spec/11 R140). -/
def State.repHeader (s : State) : Option (Nat × Nat) :=
  s.core.bundle.bind fun b =>
    if headerKind b.word = some 1 then some (field (slotWord b.word 0) 25 10, field (slotWord b.word 0) 9 2) else none

/-- The offset registers that advance after a repetition: those that MASK selects, and those that pi selects of the sources
(spec/11 R140, spec/17 R241). -/
def advancing (mask : Nat) (p : BitVec 1) (a b : BitVec 4) : List Nat :=
  (List.range 8).filter fun j => mask / 2 ^ j % 2 == 1 || (p == 1 && (a.toNat == j + 8 || b.toNat == j + 8))

/-- The repetitions that the M.A slot has already done. -/
def State.repDone (s : State) : Nat := match s.core.rep with | some r => r.done | none => 0

/-- The 64-bit words of a tile that a multiply reads, by format: its footprint, or the planes that are read
(spec/17 R232, R243). -/
def sourceWords (fmt planes : Nat) (out : Bool) : Nat :=
  match fmt with | 0 => 1024 | 1 => 512 | 2 => 512 | 3 => if out then 274 else 256 | _ => 64 * planes

/-- The words that an M.A source reads: `n` words of a buffer, or its offset register; `tb` says it is the b side, `pair` that
the next buffer holds the variances. -/
def wMA (c : BitVec 4) (tb pair : Bool) (n : Nat) : Words :=
  if 8 ≤ c.toNat then wO (c.toNat - 8)
  else
    let b := c.toNat + if tb then 4 else 0
    wBuf b n ++ if pair then wBuf (b + 1) n else []

/-- The words that an M.A slot reads. -/
def wMAs (s : State) (z : BitVec 3) (a b : BitVec 4) (m : BitVec 2) (p : BitVec 1) (pa pb : Bool) : Words :=
  wMA a false pa (sourceWords s.af s.pma s.out) ++ wMA b true pb (sourceWords s.bf s.pmb s.out) ++
    (advancing ((s.repHeader.getD (1, 0)).2) p a b).flatMap wO ++
    if m = 1 ∧ s.repDone = 0 then []
    else wZ z.toNat (s.rows z.toNat) ++ if pa then wZ (z.toNat + 1) (s.rows (z.toNat + 1)) else []

/-- The words of the scale memories that mmas reads: two columns of each side that SCM does not replace (spec/17 R242). -/
def wScales (s : State) (col : BitVec 6) (si : BitVec 1) : Words :=
  let base := col.toNat + if si = 1 then 2 * s.repDone else 0
  (if s.scm = 2 then [] else wScale 0 base ++ wScale 0 (base + 1)) ++
    if s.scm = 1 then [] else wScale 1 base ++ wScale 1 (base + 1)

/-- The words that a correlation is read from: v31, under VEC with CO = 0 and two m operands (spec/19 R258). -/
def wRho (s : State) (a b : BitVec 6) (co : BitVec 1) : Words :=
  if s.ca = 3 ∧ co = 0 ∧ 32 ≤ a.toNat ∧ 32 ≤ b.toNat then wV 31 else []

/-- The protected words that the operands of a slot are read from, where it executes (spec/27 R350). -/
def readsOf (s : State) : Instr → Words
  | .add _ a b g | .sub _ a b g | .mul _ a b g | .andR _ a b g | .orR _ a b g | .xorR _ a b g | .andn _ a b g
  | .shl _ a b g | .shr _ a b g | .sra _ a b g | .rotl _ a b g | .mulh _ a b g _ | .div _ a b g _ | .rem _ a b g _
  | .min _ a b g _ | .max _ a b g _ | .lea _ a b g _ | .cmp _ a b g _ =>
    wP g ++ if s.guard g then wX a ++ wX b else []
  | .sel _ a b g n => wP g ++ if s.guard g then wP n ++ wX (if s.guard n then a else b) else []
  | .clz _ a g _ | .ctz _ a g _ | .popc _ a g _ | .sext _ a g _ | .zext _ a g _ | .jr _ a g =>
    wP g ++ if s.guard g then wX a else []
  | .addi _ a _ | .andi _ a _ | .ori _ a _ | .xori _ a _ | .shli _ a _ | .shri _ a _ | .srai _ a _ => wX a
  | .br p _ _ => wP p
  | .brcEq b a _ | .brcNe b a _ | .brcLt b a _ | .brcGe b a _ | .brcLtu b a _ | .brcGeu b a _ => wX a ++ wX b
  | .spawn a b => wX a ++ wX b ++ run_ 0 4 16
  | .trapUser a _ => wX a
  | .ld _ a _ _ | .ldw _ a _ _ => wX a
  | .st x a _ _ | .stf x a _ _ | .pclr x a _ => wX x ++ wX a
  | .ctlw a _ | .setfmt a | .setmom a => wX a
  | .vaddF32 _ a b g _ | .vsubF32 _ a b g _ | .vmulF32 _ a b g _ | .vminF32 _ a b g _ | .vmaxF32 _ a b g _
  | .vaddI32 _ a b g _ | .vsubI32 _ a b g _ | .vmulI32 _ a b g _ | .vminI32 _ a b g _ | .vmaxI32 _ a b g _
  | .vminN32 _ a b g _ | .vmaxN32 _ a b g _ | .vand _ a b g _ | .vor _ a b g _ | .vxor _ a b g _ | .vshl _ a b g _
  | .vshr _ a b g _ | .vsra _ a b g _ | .vsel _ a b g _ | .vperm _ a b g _ => wP g ++ wSrc s a ++ wSrc s b
  | .vfmaF32 d a b g _ | .vfmsF32 d a b g _ => wP g ++ wSrc s a ++ wSrc s b ++ wSrc s d
  | .vabsF32 _ a g _ | .vnegF32 _ a g _ | .vclass _ a g _ | .vabsI32 _ a g _ | .vnegI32 _ a g _ | .vrcp _ a g _
  | .vrsqrt _ a g _ | .vsqrt _ a g _ | .vexp2 _ a g _ | .vlog2 _ a g _ | .vncdf _ a g _ | .vnpdf _ a g _
  | .vtanh _ a g _ | .vnot _ a g _ | .vpfxF32 _ a g _ | .vpfxI32 _ a g _ => wP g ++ wSrc s a
  | .vcmpF32 _ _ a b g _ | .vcmpI32 _ _ a b g _ | .vcmpN32 _ _ a b g _ => wP g ++ wSrc s a ++ wSrc s b
  | .vredF32 _ a _ g _ | .vredI32 _ a _ g _ | .vredN32 _ a _ g _ => wP g ++ wSrc s a
  | .vbcast _ x g => wP g ++ wX x
  | .vbcastLane _ a x g => wP g ++ wSrc s a ++ wX x
  | .vmovx _ a _ | .vmovxS _ a _ => wSrc s a
  | .vmovxToLane _ _ x => wX x
  | .vidx _ g => wP g
  | .vcvtI32F32 _ a b g _ | .vcvtN32F32 _ a b g _ | .vcvtF32I32 _ a b g _ | .vcvtF32N32 _ a b g _
  | .vcvtBf16F32 _ a b g _ | .vcvtE4m3F32 _ a b g _ | .vcvtE5m2F32 _ a b g _ | .vcvtE2m1F32 _ a b g _ =>
    wP g ++ wSrc s a ++ if s.rm = 4 then wSrc s b else []
  | .vcvtF32Bf16 _ a _ g _ | .vcvtF32E4m3 _ a _ g _ | .vcvtF32E5m2 _ a _ g _ | .vcvtF32E2m1 _ a _ g _ =>
    wP g ++ wSrc s a
  | .vld _ a _ g => wP g ++ wX a
  | .vst x a _ g => wP g ++ wX a ++ wSrc s x
  | .vldw _ a _ _ => wX a
  | .vstf x a _ => wX a ++ wSrc s x
  | .vlds _ r b g _ => wP g ++ wX r ++ wX b
  | .vldg _ a b g _ => wP g ++ wSrc s a ++ wX b
  | .vsts x a b g _ => wP g ++ wSrc s x ++ wSrc s a ++ wX b
  | .pand _ a b g | .por _ a b g | .pxor _ a b g => wP g ++ wP a ++ wP b
  | .pnot _ a g => wP g ++ wP a
  | .pcnt a _ g _ | .pfirst a _ g _ => wP g ++ wP a
  | .sbind _ x => wX x
  | .qbind _ k | .spos k _ => wSd k.toNat
  | .vpark a x => wX x ++ wSrc s a
  | .vunpark _ x | .vunparkFree _ x => wX x ++ wRow ((s.x x).toNat / 64) ((s.x x).toNat % 64)
  | .vshlImm _ a _ | .vshrImm _ a _ | .vsraImm _ a _ => wSrc s a
  | .mldM32 _ a _ g | .mldMb16 _ a _ g => wP g ++ wX a
  | .mstM32 x a _ g | .mstMb16 x a _ g => wP g ++ wX a ++ wXm x
  | .mset _ a b g => wP g ++ wXm a ++ wXm b
  | .mget _ a _ g => wP g ++ wXm a
  | .mcorr a g => wP g ++ wXm a
  | .mclip _ a x g => wP g ++ wXm a ++ wX x
  | .madd _ a b g c | .msub _ a b g c | .mmul _ a b g c => wP g ++ wXm a ++ wXm b ++ wRho s a b c
  | .mfma d a b g c => wP g ++ wXm a ++ wXm b ++ wXm d ++ wRho s a b c
  | .mscl _ a b g => wP g ++ wXm a ++ wXm b
  | .msq _ a g | .mrelu _ a g | .msig _ a g | .mexp _ a g | .mtanh _ a g | .mcolMean _ a g | .mcolHi _ a g
  | .mcolLo _ a g => wP g ++ wXm a
  | .mcolSmp _ a b g => wP g ++ wXm a ++ wXm b
  | .mma z a b m p | .mmap z a b m p | .mmt z a b m p => wMAs s z a b m p false false
  | .mmas z a b m p c si => wMAs s z a b m p false false ++ wScales s c si
  | .mmm z a b m p f => wMAs s z a b m p true (f = 1)
  | .trd z _ r => wRow z.toNat r.toNat
  | .twr _ a _ => wSrc s a
  | .tadd d z _ => wZ d.toNat (s.rows d.toNat) ++ wZ z.toNat (s.rows z.toNat)
  | .tscl z x => wX x ++ wZ z.toNat (s.rows z.toNat)
  | .tcvt z o _ _ r => wO o.toNat ++ wZ z.toNat (s.rows z.toNat) ++ if s.rm = 4 then wZ r.toNat (s.rows z.toNat) else []
  | .ofs _ a b => wX a ++ wX b
  | .ofsr o _ _ => wO o.toNat
  | .cdesc _ a => wX a
  | .cpy c h a b | .cpyb c h a b | .cpys c h a b | .cpyo c h a b | .pfill c h a b | .cbput c h a b =>
    wCd c ++ wX h ++ wX a ++ wX b
  | .cpyg c h a b | .cpygOb c h a b | .cpyx c h a b | .coll c h a b => wCd c ++ wX h ++ wX a ++ wX (a + 1) ++ wX b
  | .cadd h v _ | .cwait h v _ | .ctest h v _ _ => wX h ++ wX v
  | .caddImm h _ _ _ | .cread h _ _ | .cbst h _ _ => wX h
  | .amoAdd _ a b _ _ | .amoMin _ a b _ _ | .amoMax _ a b _ _ | .amoAnd _ a b _ _ | .amoOr _ a b _ _
  | .amoXor _ a b _ _ | .amoXchg _ a b _ _ => wX a ++ wX b
  | .amocas d a b _ _ => wX a ++ wX b ++ wX d
  | .qapp h _ _ n => wX h ++ wV n.toNat
  | .cbcfg h a b => wX h ++ wX a ++ wX b
  | .cbal h _ n | .cbalNb h _ _ n => wX h ++ wV n.toNat
  | .cbdrop h v => wX h ++ wX v
  | .loop _ _ t => if s.core.bundle.any (·.replay) then [] else wX t
  | .tinv a b | .pwrwPwrcap a b | .pwrwCurlim a b => wX a ++ wX b
  | .ctxsv _ a b _ | .ctxld _ a b _ | .dstw _ a b | .scrb _ a b | .hibwSetEntry _ a b | .hibwClearEntry _ a b
  | .hibwClearAll _ a b => wX a ++ wX b
  | .retake _ a => wX a
  | .qcnt q _ | .qunbind q => wBound s q.toNat
  | _ => []

/-- The codes and active lanes of the V destinations of a slot. -/
def vDests (s : State) : Instr → List (BitVec 6 × W64)
  | .vaddF32 d _ _ g _ | .vsubF32 d _ _ g _ | .vmulF32 d _ _ g _ | .vfmaF32 d _ _ g _ | .vfmsF32 d _ _ g _
  | .vminF32 d _ _ g _ | .vmaxF32 d _ _ g _ | .vaddI32 d _ _ g _ | .vsubI32 d _ _ g _ | .vmulI32 d _ _ g _
  | .vminI32 d _ _ g _ | .vmaxI32 d _ _ g _ | .vminN32 d _ _ g _ | .vmaxN32 d _ _ g _ | .vand d _ _ g _
  | .vor d _ _ g _ | .vxor d _ _ g _ | .vshl d _ _ g _ | .vshr d _ _ g _ | .vsra d _ _ g _ | .vperm d _ _ g _
  | .vcvtI32F32 d _ _ g _ | .vcvtN32F32 d _ _ g _ | .vcvtF32I32 d _ _ g _ | .vcvtF32N32 d _ _ g _
  | .vcvtBf16F32 d _ _ g _ | .vcvtF32Bf16 d _ _ g _ | .vcvtE4m3F32 d _ _ g _ | .vcvtF32E4m3 d _ _ g _
  | .vcvtE5m2F32 d _ _ g _ | .vcvtF32E5m2 d _ _ g _ | .vcvtE2m1F32 d _ _ g _ | .vcvtF32E2m1 d _ _ g _ => [(d, s.p g)]
  | .vabsF32 d _ g _ | .vnegF32 d _ g _ | .vclass d _ g _ | .vabsI32 d _ g _ | .vnegI32 d _ g _ | .vrcp d _ g _
  | .vrsqrt d _ g _ | .vsqrt d _ g _ | .vexp2 d _ g _ | .vlog2 d _ g _ | .vncdf d _ g _ | .vnpdf d _ g _
  | .vtanh d _ g _ | .vnot d _ g _ | .vpfxF32 d _ g _ | .vpfxI32 d _ g _ | .vbcastLane d _ _ g => [(d, s.p g)]
  | .vbcast d _ g | .vidx d g => [(d, s.p g)]
  | .vld d _ _ g | .vlds d _ _ g _ | .vldg d _ _ g _ => [(d, s.p g)]
  | .vsel d _ _ _ _ | .vldw d _ _ _ | .vunpark d _ | .vunparkFree d _ | .vshlImm d _ _ | .vshrImm d _ _
  | .vsraImm d _ _ | .vbcastImm d _ | .trd _ d _ => [(d, allLanes)]
  | .vredF32 d _ _ _ _ | .vredI32 d _ _ _ _ | .vredN32 d _ _ _ _ => [(d, allLanes)]
  | .vmovxToLane d l _ => [(d, 1 <<< l.toNat)]
  | .mget d _ b g => [(d, s.p g), (b, s.p g)]
  | .mcorr _ g => [(31, s.p g)]
  | .mcolMean d _ g | .mcolHi d _ g | .mcolLo d _ g | .mcolSmp d _ _ g => [(d, s.p g)]
  | _ => []

/-- The protected words that a slot reads, where it executes: those of its operands, and of the streams that it pushes to
(spec/27 R350; of an m operand the whole register, log 97). -/
def reads (s : State) (i : Instr) : Words := readsOf s i ++ (vDests s i).flatMap fun d => wPush s d.1

/-- The 64-bit words that a pattern tile fills, by format (spec/17 R248). -/
def tileWords (fmt planes : Nat) : Nat :=
  match fmt with | 0 => 1024 | 1 => 512 | 2 => 512 | 3 => 274 | _ => 64 * planes

/-- The words of a destination register that R136 counts. -/
def wDest : Dest → Words
  | .v n => wV n
  | .x n => run_ 0 (2 * n) 2
  | .p n => run_ 1 n 1
  | .m n => wM n
  | .z n => wZ n 64
  | .o n => wO n
  | .cr _ => []

/-- The words of the scalar destination that a reduction has beside its V destination. -/
def wReduced : Instr → Words
  | .vredF32 _ _ x _ _ | .vredI32 _ _ x _ _ | .vredN32 _ _ x _ _ => wX x
  | _ => []

/-- The protected words that a slot overwrites whole (spec/27 R350): those of its destination registers, of the active lanes
where it is guarded. -/
def writes (s : State) (i : Instr) : Words :=
  if !(vDests s i).isEmpty then ((vDests s i).flatMap fun d => wDst s d.1 d.2) ++ wReduced i
  else match i with
  | .add d _ _ g | .sub d _ _ g | .mul d _ _ g | .andR d _ _ g | .orR d _ _ g | .xorR d _ _ g | .andn d _ _ g
  | .shl d _ _ g | .shr d _ _ g | .sra d _ _ g | .rotl d _ _ g | .mulh d _ _ g _ | .div d _ _ g _ | .rem d _ _ g _
  | .min d _ _ g _ | .max d _ _ g _ | .lea d _ _ g _ | .sel d _ _ g _ | .clz d _ g _ | .ctz d _ g _ | .popc d _ g _
  | .sext d _ g _ | .zext d _ g _ | .jr d _ g => if s.guard g then wX d else []
  | .cmp .. => []
  | .pand d _ _ g | .por d _ _ g | .pxor d _ _ g | .pnot d _ g | .vcmpF32 _ d _ _ g _ | .vcmpI32 _ d _ _ g _
  | .vcmpN32 _ d _ _ g _ => if s.p g = BitVec.allOnes 64 then wP d else []
  | .vpark _ x => wRow ((s.x x).toNat / 64) ((s.x x).toNat % 64)
  | .mldM32 d _ _ g | .mldMb16 d _ _ g | .mset d _ _ g | .mclip d _ _ g | .madd d _ _ g _ | .msub d _ _ g _
  | .mmul d _ _ g _ | .mfma d _ _ g _ | .mscl d _ _ g | .msq d _ g | .mrelu d _ g | .msig d _ g | .mexp d _ g
  | .mtanh d _ g => wDstM d (s.p g)
  | .mma z _ _ _ _ | .mmap z _ _ _ _ | .mmt z _ _ _ _ | .mmas z _ _ _ _ _ _ | .tscl z _ | .tadd z _ _ =>
    wZ z.toNat (s.rows z.toNat)
  | .mmm z _ _ _ _ _ => wZ z.toNat (s.rows z.toNat) ++ wZ (z.toNat + 1) (s.rows z.toNat)
  | .twr z _ r => wRow z.toNat r.toNat
  | .tgen t _ =>
    if 8 ≤ t.toNat then wZ (t.toNat - 8) (s.rows (t.toNat - 8))
    else run_ 9 (1024 * t.toNat) (tileWords (if t.toNat < 4 then s.af else s.bf) (if t.toNat < 4 then s.pna else s.pnb))
  | .sbind k _ => wSd k.toNat
  | .cdesc c _ => wCd c
  | _ => (dests i).flatMap wDest

/-- The words of the operand buffer or scale memory that an operation still fills (spec/17 R234). -/
def EngineOp.item (o : EngineOp) : Words :=
  match o.writes with
  | [] => []
  | w :: _ =>
    let k := w.1 % 2 ^ 60 / 8
    if levelOf w.1 = 9 then run_ 9 (k / 1024 * 1024) 1024
    else if levelOf w.1 = 10 then run_ 10 (k / 512 * 512) 512
    else []

/-- Two lists of runs share a word. -/
def shareWords (a b : Words) : Bool := a.any fun r => b.any fun t => decide (r.1 < t.1 + t.2) && decide (t.1 < r.1 + r.2)

/-- The words of a slot that reads operand buffers and scale memories, or fills a buffer: an M.A slot and tgen (a copy into one
looks for itself, R286). -/
def itemWords (s : State) (i : Instr) : Words :=
  match i with
  | .mma .. | .mmap .. | .mmt .. | .mmm .. | .mmas .. => reads s i
  | .tgen .. => writes s i
  | _ => []

/-- The slot reads or overwrites a buffer or scale memory that a copy of its core is still filling: it stalls
(spec/17 R234, spec/11 R144). -/
def State.itemBusy (s : State) (i : Instr) : Bool :=
  (itemWords s i).any fun t => s.eng.ops.any fun o => o.agent == s.cur && shareWords o.item [t]

/-- Runs the effect of a slot: it stalls at a busy buffer; the register words that it reads are checked first, those that it overwrites are clean after
it, and a slot that traps, waits or meets a register error ends as such (spec/25 R325, spec/03 R44, spec/27 R350). -/
def slot (i : Instr) (eff : State → Res State) (s : State) : Host.Outcome State Fault Refusal :=
  .next (
    if s.itemBusy i then s.block
    else if s.core.upsets.isEmpty then
      match eff s with
      | .ok t => t.running
      | .error e => s.stop e
    else
      match s.readWords (reads s i) with
      | .error e => s.stop e
      | .ok s1 =>
        match eff s1 with
        | .ok t => (t.wroteWords (writes s i)).running
        | .error e => s1.stop e)

end Sys2Proof.Machine
end

