-- ==== Sys2Proof/Machine/Sequencer.lean ====
section
/-! DEFINITION. The sequencer of a core: fetching a bundle (spec/11 R400), the checks at dispatch (R135-R137, spec/31 R386),
lock step (spec/03 R34, R35), the take boundary before a bundle (R37), and what follows its last slot (R141, spec/13 R171). -/

namespace Sys2Proof.Machine

/-! The bundle. -/

/-- SYNC of the bundle's header (spec/11 R143). -/
def syncBit (w : BitVec 128) : Bool := (headerKind w).isSome && (slotWord w 0).getLsbD 28

/-- The byte that an EXT header gives slot `k` (spec/11 R139). -/
def extByteOf (w : BitVec 128) (k : Nat) : Byte := (slotWord w 0).extractLsb' (8 * (k - 1)) 8

/-- The extension of slot `k`: its byte where the bundle has an EXT header and the slot an extendable field. -/
def extOf (w : BitVec 128) (k : Nat) : Option Byte :=
  if headerKind w = some 0 ∧ 1 ≤ k ∧ extendable (slotWord w k) then some (extByteOf w k) else none

/-- Slot `k` of a bundle, decoded and checked (spec/11 R135). -/
def slotInstr (w : BitVec 128) (k : Nat) : Except Ill Instr := decodeLegal (slotWord w k) (extOf w k)

/-- Slot `k` of a bundle as an instruction; a slot that is none reads as nop. -/
def slotOf (w : BitVec 128) (k : Nat) : Instr := match slotInstr w k with | .ok i => i | .error _ => .nop

/-- The four slots. -/
def slots : List Nat := [0, 1, 2, 3]

/-! Checks at dispatch, in the order of R137. -/

/-- An EXT header has a byte other than zero for slot `k`, which has no extendable field. -/
def strayByte (w : BitVec 128) (k : Nat) : Bool :=
  headerKind w == some 0 && decide (1 ≤ k) && extByteOf w k != 0 && !extendable (slotWord w k)

/-- The ILLEGAL detail of slot `k`, the lowest that it meets: an opcode that needs an absent feature is reserved (spec/31 R386);
an EXT byte for a slot with no extendable field is a vector slot's own RESFIELD, and the header's HEADER for the other classes
(spec/11 R135, R139, spec/15 R196). -/
def illegalSlot (feat : W64) (w : BitVec 128) (k : Nat) : Option Nat :=
  let stray := strayByte w k && classOf (slotWord w k) == 1
  if featureAbsent feat (slotWord w k) then some 2
  else match slotInstr w k with
    | .error d => some (if stray then Nat.min 3 d.code else d.code)
    | .ok _ =>
      if stray then some 3
      else if k = 0 ∧ [1, 2, 3].any (fun j => strayByte w j && classOf (slotWord w j) != 1) then some 6 else none

/-- The slots of a class. -/
def slotsWhere (w : BitVec 128) (p : Nat → Bool) : List Nat := slots.filter fun k => p (classOf (slotWord w k))

/-- BUNDLE PORTS: the lowest slot of a class with more slots than R132 allows. -/
def overPorts (w : BitVec 128) : Option Nat :=
  let many := fun (p : Nat → Bool) (n : Nat) =>
    let ks := slotsWhere w p
    if n < ks.length then ks.take 1 else []
  let all := many (· == 0) 1 ++ many (fun c => c == 1 || c == 5) 2 ++ many (· == 2) 1 ++ many (· == 3) 2 ++ many (· == 4) 1
  slots.find? all.contains

/-- BUNDLE DUPDEST: the lowest of two slots that name one destination (spec/11 R136). -/
def dupDest (w : BitVec 128) : Option Nat :=
  slots.find? fun k => slots.any fun j => k < j &&
    (dests (slotOf w k)).any fun d => (dests (slotOf w j)).contains d

/-- The first BUNDLE condition that a bundle meets, as its detail and slot; `inLoop` says that another bundle's loop is being
captured (spec/11 R136, R137; log 19). -/
def badBundle (w : BitVec 128) (inLoop : Bool) : Option (Nat × Nat) :=
  match overPorts w with
  | some k => some (1, k)
  | none =>
    match [1, 2, 3].find? (fun k => classOf (slotWord w k) == 4) with
    | some k => some (2, k)
    | none =>
      match dupDest w with
      | some k => some (3, k)
      | none =>
        if headerKind w = some 1 ∧ !slots.any (fun k => isMA (slotOf w k)) then some (4, 0)
        else if headerKind w = some 2 ∧ inLoop then some (5, 0)
        else none

/-- The first slot, in order, that fails a check. -/
def firstSlot (f : Nat → Option Nat) : Option (Nat × Nat) :=
  slots.findSome? fun k => (f k).map fun d => (d, k)

/-- The failure of a bundle at dispatch: ILLEGAL, then PRIV, then BUNDLE; the trap and its slot (spec/11 R137). -/
def State.refuses (s : State) (w : BitVec 128) : Option (Trap × Nat) :=
  match firstSlot (illegalSlot s.feat w) with
  | some (d, k) => some ({ cause := .illegal, detail := d }, k)
  | none =>
    match firstSlot fun k => if !isControl s.cur && firmwareOnly (slotOf w k) then some 1 else none with
    | some (d, k) => some ({ cause := .priv, detail := d }, k)
    | none =>
      (badBundle w (s.core.loop.any fun l => l.head != s.core.pc)).map fun e => ({ cause := .bundle, detail := e.1 }, e.2)

/-! Fetching. -/

/-- The position of the bundle at the pc in the loop's body. -/
def Loop.pos (l : Loop) (pc : W64) : Nat := (pc - l.head).toNat / 16

/-- The bundle at the pc: from the loop buffer where it has been captured, else fetched under the checks of R62 with X; a
bundle that the core has stored since its take boundary is fetched as it stood before one of those stores or after the last
(spec/11 R141, R400). -/
def State.fetch (s : State) : Res (State × BitVec 128) :=
  match s.core.loop.bind fun l => (l.body.find? (·.1 == l.pos s.core.pc)).map (·.2) with
  | some w => .ok (s, w)
  | none => do
    let (s1, ts) ← s.check { fetch := true } [(s.core.pc, 16)] (misaligned s.core.pc 16)
    s1.poisonCheck ts
    let s2 := s1.settle (ts.map (·.raw))
    let new := BitVec.ofNat 128 (leNat (ts.map fun t => s2.stored t.raw))
    let g := granuleOf ((ts.map (·.raw)).headD 0)
    let old := (s2.core.oldCode.filter (·.1 == g)).map (·.2)
    pure (s2, if old.isEmpty then new else (old ++ [new]).getD (s2.free g % (old.length + 1)) new)

/-- The loop state with the bundle at the pc captured. -/
def Loop.capture (l : Loop) (pc : W64) (w : BitVec 128) : Loop :=
  if l.pos pc ≤ l.len ∧ !l.body.any (·.1 == l.pos pc) then { l with body := l.body ++ [(l.pos pc, w)] } else l

/-! Lock step (spec/03 R34, R35). -/

/-- The core whose sequencer fetches and decodes: the lead of a gang, else the core itself (spec/03 R34). -/
def State.lead (s : State) : Nat := s.members.headD s.cur

/-- A member of the gang has not finished the bundle before this one (spec/03 R34). -/
def State.behind (s : State) : Bool :=
  s.members.any fun n => (s.coreAt n).bundle.isSome || (s.coreAt n).run != .running

/-- The trip count that a LOOP header reads in core `n`. -/
def State.tripsOf (s : State) (w : BitVec 128) (n : Nat) : W64 :=
  let t := BitVec.ofNat 5 (field (slotWord w 0) 19 15)
  if t = 0 then 0 else (s.coreAt n).x[t.toNat]

/-- The first member that would fetch another bundle than the lead (spec/03 R35). -/
def State.strays (s : State) : Option Nat :=
  let lead := s.members.headD s.cur
  (List.range s.members.length).find? fun i => (s.coreAt (s.members.getD i s.cur)).pc != (s.coreAt lead).pc

/-- The first member whose trip count at a LOOP header is another than the lead's (spec/03 R35). -/
def State.diverges (s : State) (w : BitVec 128) (replay : Bool) : Option Nat :=
  let lead := s.members.headD s.cur
  (List.range s.members.length).find? fun i =>
    let n := s.members.getD i s.cur
    headerKind w == some 2 && !replay && s.tripsOf w n != s.tripsOf w lead

/-! Dispatch. -/

/-- Engine operations of the current agent, issued before a bundle or in a take that has committed, that have not completed:
every one is a copy here (spec/07 R94, spec/13 R185, spec/21 R279). -/
def State.copiesOut (s : State) (bundle : Nat) : Nat :=
  (s.eng.ops.filter fun o => o.agent == s.cur && (o.committed || o.bundle < bundle)).length

/-- Accesses of such operations are still to be performed: a copy that has not moved its bytes, a source that is still to be
read (spec/07 R92, spec/11 R143). -/
def State.partsOut (s : State) (bundle : Nat) : Bool :=
  s.eng.ops.any fun o => o.agent == s.cur && (o.committed || o.bundle < bundle) && (o.kind == .copy || !o.reads.isEmpty)

/-- A copy of the open take of some member has watched bytes still to write: the commit waits for them (spec/03 R38). -/
def State.watchedOut (s : State) : Bool :=
  s.eng.ops.any fun o => s.members.contains o.agent && !o.committed && o.writes.any (·.2)

/-! Slip (R142, R144, R146). A port may hold back a blocking slot whose condition does not hold while slots of other ports that do
not depend on it issue, of up to 15 bundles after it (log 98). -/

/-- The held slot's instruction. -/
def Slipped.instr (e : Slipped) : Instr := slotOf e.bundle.word e.bundle.slotNo

/-- The port that holds it. -/
def Slipped.port (e : Slipped) : Nat := portOf e.bundle.word e.bundle.slotNo

/-- The blocking instructions (spec/25 R325, R338). -/
def isBlocking : Instr → Bool
  | .cwait .. | .ldw .. | .vldw .. | .cbal .. | .spawn .. => true
  | _ => false

/-- Its name among the slots of its core's take: bundle number and slot. -/
def Slipped.key (e : Slipped) : Nat × Nat := (e.no, e.bundle.slot)

/-- The ranges that a consuming load reads, and whether it empties them (spec/05 R54). -/
def consumed (s : State) : Instr → List (W64 × Nat) × Bool
  | .ldw _ a i f => ([(s.x a + i.signExtend 64 <<< (f.toNat % 4), 2 ^ (f.toNat % 4))], f.getLsbD 2)
  | .vldw _ a i q => ([(s.x a + (i.signExtend 64 <<< 8), 256)], q == 1)
  | _ => ([], false)

/-- A cwait: what comes after it is ordered after it (spec/07 R99). -/
def isAcquire : Instr → Bool
  | .cwait .. => true
  | _ => false

/-- Slots that no held slot is passed by: those that end or order a take's accesses, atomics and collectives, which would be seen
outside before it is known that they execute, and firmware's own (R143, spec/07 R94, spec/13 R174, R185, spec/25 R326; log 98). -/
def ordersAll : Instr → Bool
  | .doneShot | .takeMark | .fence .. | .wait .. | .coll .. | .qapp .. | .amoAdd .. | .amoMin .. | .amoMax .. | .amoAnd ..
  | .amoOr .. | .amoXor .. | .amoXchg .. | .amocas .. => true
  | i => firmwareOnly i

/-- Counter operations, which an acquire orders as it orders accesses to memory (spec/07 R99). -/
def onCounter : Instr → Bool
  | .cadd .. | .caddImm .. | .ctest .. | .cread .. | .cwait .. => true
  | _ => false

/-- The q registers that a slot names, each as `class 3` words (spec/15 R216-R219). -/
def qNames (s : State) (i : Instr) : List Nat :=
  match i with
  | .qcnt q _ | .qclr q | .qbind q _ | .qunbind q => [q.toNat]
  | _ =>
    let linked := { s with core := { s.core with q := Vector.replicate 16 [Lanes.zero], sd := Vector.replicate 16 Sd.reset } }
    ((reads linked i ++ writes linked i).filter fun r => r.1 / 2 ^ 16 == 3).map fun r => r.1 % 2 ^ 16 / 512

/-- The words of a slot's registers that a later slot may not touch before it has issued: all that it reads and overwrites, but for
the x registers that it has already read (R144). -/
def Slipped.words (e : Slipped) (s : State) : Words :=
  (reads s e.instr).filter (fun r => 2 ^ 16 ≤ r.1) ++ writes s e.instr ++ (dests e.instr).flatMap wDest

/-- A later slot waits for a held one: on its port; where it is one that passes none; where they share a register; and a counter
operation after an acquire (R142, R144, spec/07 R99). Its accesses to memory wait by themselves, granule by granule (R146). -/
def State.waitsFor (s : State) (e : Slipped) (i : Instr) (port : Nat) : Bool :=
  e.port == port || ordersAll i || (e.acquires && onCounter i) ||
    shareWords (e.words s) (reads s i ++ writes s i ++ (dests i).flatMap wDest) ||
    let qs := qNames s e.instr
    !qs.isEmpty && (qNames s i).any qs.contains

/-- The slot that the latched bundle issues next waits for one that is held. -/
def State.waitsForHeld (s : State) (i : Instr) : Bool := s.core.slipped.any fun e => s.waitsFor e i s.where_.2

/-- A bundle does not issue past a held slot where it sets SYNC, begins a take, orders the take's accesses, is the sixteenth after
the held slot's, or reads a trip count that the held slot gives (R141-R143). -/
def State.heldBehind (s : State) (w : BitVec 128) : Bool :=
  s.core.slipped.any fun e => syncBit w || (slots.any fun k => beginsTake (slotOf w k) || ordersAll (slotOf w k)) ||
    decide (e.no + 15 < s.core.issued + 1) ||
    (headerKind w == some 2 && (dests e.instr).contains (.x (field (slotWord w 0) 19 15)))

/-- A bundle does not issue while copies of earlier bundles have parts to perform, where it sets SYNC or is the first of a take
(spec/11 R143, spec/03 R39, spec/07 R92); nor while a fence with class C, or the copy limit of a wait, finds engine operations of
earlier bundles outstanding (spec/07 R94, spec/13 R185). -/
def State.heldBack (s : State) (w : BitVec 128) : Bool :=
  s.heldBehind w || ((syncBit w || !s.core.take.started) && s.partsOut (s.core.issued + 1)) || slots.any fun k => match slotOf w k with
    | .fence c _ => c.getLsbD 3 && 0 < s.copiesOut (s.core.issued + 1)
    | .wait _ _ c _ => decide (c.toNat < 15 ∧ c.toNat < s.copiesOut (s.core.issued + 1))
    | _ => false

/-- A fence with class S, or a store limit of a wait, writes what was pushed to write streams before its bundle issues
(spec/07 R94, spec/13 R185, spec/15 R224). -/
def flushesBefore (w : BitVec 128) : Bool :=
  slots.any fun k => match slotOf w k with
    | .fence c _ => c.getLsbD 1
    | .wait _ n _ _ => decide (n.toNat < 15)
    | _ => false

/-- The LOOP header's body is skipped: the bundle's own slots do not execute (spec/11 R141). -/
def State.skipsLoop (s : State) (w : BitVec 128) (replay : Bool) : Bool :=
  headerKind w == some 2 && !replay && s.tripsOf w s.cur == 0

/-- The bundle begins a take (spec/03 R37). -/
def beginsTakeAt (w : BitVec 128) : Bool := slots.any fun k => beginsTake (slotOf w k)

/-- The take boundary of the core, or of every member of its gang together: none commits when one cannot, nor before the watched
writes of the takes' copies have been performed (spec/03 R35, R38, R39). -/
def State.boundaryAll (s : State) : Res State :=
  if s.members.any fun n => (s.focus n).qLeft then trap .bundle 6
  else if s.watchedOut then .error .wait
  else s.members.foldlM (fun t n => (t.focus n).boundary s.core.pc |>.map fun u => u.focus s.cur) s

/-- The restart image of a take whose first bundle is the LOOP bundle of a loop that it enters: the take begins inside the
body, at its first position (spec/03 R40, spec/11 R141). -/
def Core.imageAt (c : Core) (w : BitVec 128) (replay : Bool) : Image :=
  let t := BitVec.ofNat 5 (field (slotWord w 0) 19 15)
  let n := if t = 0 then 0 else c.x[t.toNat]
  if c.take.started || replay || headerKind w != some 2 || n == 0 then c.image
  else { c.image with loop := some { head := c.pc, len := field (slotWord w 0) 25 20, xt := t, pos := 0, count := n } }

/-- Latches the bundle: its first slot issues next (spec/11 R142). -/
def Core.latchBundle (c : Core) (w : BitVec 128) (replay : Bool) : Core :=
  { c with
      image := c.imageAt w replay
      bundle := some { word := w, slot := 0, skip := false, replay := replay, target := none }
      loop := c.loop.map fun l => l.capture c.pc w
      issued := c.issued + 1
      take := { c.take with started := true } }

/-- Every member of the gang latches the bundle that the lead has decoded (spec/03 R34). -/
def State.latch (s : State) (w : BitVec 128) (replay : Bool) : State :=
  s.members.foldl (fun t n => t.onCore n fun c => c.latchBundle w replay) s

/-- A member of the gang holds the bundle back (spec/03 R34). -/
def State.anyHeld (s : State) (w : BitVec 128) : Bool := s.members.any fun n => (s.focus n).heldBack w

/-- The first member of the gang whose restart image cannot be read, and the word (spec/27 R350). -/
def State.badImage (s : State) : Option (Nat × Nat) :=
  s.members.findSome? fun n => match (s.focus n).readWords (s.focus n).core.imageWords with
    | .error (.flaw w) => some (n, w)
    | _ => none

/-- The end of a take that did not commit: QNOTEMPTY is raised, a word that could not be read replays the take, and any other
bar lets it wait (spec/03 R38, R39, spec/27 R350). -/
def State.notCommitted (s : State) : Stop → State
  | .trap t _ => s.raiseAt t 6 0
  | .flaw _ => match s.badImage with | some (n, w) => s.withCore n (State.replay · w) | none => s
  | _ => s

/-- Dispatches the bundle that has been fetched (spec/11 R137, R142, R143, spec/03 R37). -/
def State.dispatchWord (s : State) (w : BitVec 128) : State :=
  let replay := s.core.loop.any fun l => l.head == s.core.pc
  match s.refuses w with
  | some (t, k) => s.raiseAt t 6 k
  | none =>
    match s.diverges w replay with
    | some i => s.raiseAt { cause := .diverge, w0 := BitVec.ofNat 64 i } 6 0
    | none =>
      if s.anyHeld w then s
      else
        let s1 := if flushesBefore w then s.members.foldl (fun t n => t.withCore n State.flushStreams) s else s
        if beginsTakeAt w && s1.core.take.started && !s1.skipsLoop w replay then
          match s1.boundaryAll with
          | .error e => s.notCommitted e
          | .ok s2 => if s2.anyHeld w then s2 else s2.latch w replay
        else s1.latch w replay

/-- Dispatch of the bundle at the pc by the current core, which leads. A bundle that begins a take has been fetched before the boundary
that it makes (spec/11 R400; DESIGN CHOICE, log 31). -/
def State.dispatchLead (s : State) : State :=
  if s.behind then s
  else match s.strays with
  | some i => s.raiseAt { cause := .diverge, w0 := BitVec.ofNat 64 i } 6 0
  | none =>
    match s.fetch with
    | .error (.trap t u) => s.stop (.trap t u)
    | .error _ => s
    | .ok (s1, w) => s1.dispatchWord w

/-- Dispatch of the bundle at the pc, of the core or of the gang that it belongs to, when every member runs and none has a
bundle latched: the lead's sequencer fetches and decodes for all (spec/03 R34). -/
def State.dispatch (s : State) : State := s.withCore s.lead State.dispatchLead

/-! After a slot. -/

/-- What follows the last slot of a bundle: its flags join, mode writes age, a loop's trip ends, and the next bundle is the
branch target, the head of the loop or the next in order (spec/09 R128, R129, spec/11 R141, spec/13 R171). -/
def Core.retire (c : Core) (b : Bundle) : Core :=
  let c1 := { c.endBundle with bundle := none, rep := none }
  match b.target with
  | some a => { c1 with pc := a, loop := none }
  | none =>
    match c1.loop with
    | none => { c1 with pc := c1.pc + 16 }
    | some l =>
      if l.pos c1.pc < l.len then { c1 with pc := c1.pc + 16 }
      else
        let n := if l.xt = 0 then 0 else c1.x[l.xt.toNat]
        let setX := fun (v : W64) => if l.xt = 0 then c1.x else c1.x.set l.xt.toNat v
        if n.toNat ≤ 1 then { c1 with x := setX 0, loop := none, pc := c1.pc + 16 }
        else { c1 with x := setX (n - 1), pc := l.head }

/-- The words that are read after the last slot of a bundle: the trip count, at the end of a loop's body (spec/11 R141,
spec/27 R350). -/
def Core.tripWords (c : Core) (b : Bundle) : Words :=
  match b.target, c.loop with
  | none, some l => if l.pos c.pc < l.len then [] else wX l.xt
  | _, _ => []

/-- What follows the last slot, unless the trip count cannot be read (spec/27 R350). -/
def State.finishBundle (s : State) (b : Bundle) : State :=
  let ws := s.core.tripWords b
  match s.readWords ws with
  | .error e => s.stop e
  | .ok t => { t with core := (t.core.retire b).wroteWords ws }

/-- The loop is skipped: the next bundle is the one after its body (spec/11 R141). -/
def Core.skipLoop (c : Core) (b : Bundle) : Core :=
  { c with bundle := none, pc := c.pc + BitVec.ofNat 64 (16 * (field (slotWord b.word 0) 25 20 + 1)) }

/-- The slot after the one that the latched bundle was at; after the last, what follows the bundle. -/
def State.nextSlot (s : State) (b : Bundle) : State :=
  if b.slot < 3 then { s with core := { s.core with bundle := some { b with slot := b.slot + 1 } } } else s.finishBundle b

/-- The next slot, after one has had its effect: the slot repeats while a REP bundle has repetitions left; a core that has
stopped, waits or has restarted does not go on (spec/11 R140). `was` is the number of bundles dispatched. -/
def State.advanceSlot (s : State) (agent was : Nat) : State :=
  if s.cur ≠ agent ∨ s.core.run ≠ .running ∨ s.core.issued ≠ was then s
  else match s.core.bundle with
    | none => s
    | some b =>
      if b.skip then { s with core := s.core.skipLoop b }
      else if s.core.rep.isSome then s
      else s.nextSlot b

/-- The instruction that the latched bundle issues next. -/
def State.current (s : State) : Option Instr :=
  s.core.bundle.map fun b => if s.core.rep.isSome then .repetition else slotOf b.word b.slotNo

/-- A latch error that is pending is met: the take is replayed, or SOFTERR is raised; in a core that runs nothing it has no effect
(spec/27 R350, spec/29 R357). -/
def State.takePending (s : State) : State :=
  match s.core.pending with
  | none => s
  | some t =>
    let s1 := { s with core := { s.core with pending := none } }
    if s.core.shot.isNone ∨ (s.core.run ≠ .running ∧ s.core.run ≠ .blocked) then s1
    else if t.cause = .softerr then s1.replay (15 * 2 ^ 16 + t.w1.toNat) else s1.raise t

/-- Time passes: the reference timer advances by a free amount (log 4), and the next draw is fresh (log 5). -/
def State.tick (s : State) : State :=
  { s with mod := { s.mod with clk := s.mod.clk + BitVec.ofNat 64 (Config.ticks s.fresh) }, fresh := s.fresh + 1 }

/-- The core is blocked in cwait, ldw, vldw, cbal or spawn, or behind one that a port holds (spec/25 R338). -/
def State.inBlocking (s : State) : Bool := s.core.run == .blocked && (s.current.any isBlocking || !s.core.slipped.isEmpty)

/-- The slot at which the core is blocked may be held by its port while others go on (R142). One that gives the trip count of the
loop in which it stands is not, nor one that waits for a held slot itself (log 98), nor one of a gang, whose members stall together
(spec/03 R34). -/
def State.canSlip (s : State) : Bool :=
  s.core.run == .blocked && s.core.stalled.isNone && s.core.bundle.isSome && s.core.gang.isNone && s.current.any fun i =>
    isBlocking i && !s.waitsForHeld i && !(s.core.loop.any fun l => (dests i).contains (.x l.xt.toNat))

/-- The blocked slot as its port holds it. -/
def State.heldSlot (s : State) (b : Bundle) : Slipped :=
  let i := slotOf b.word b.slotNo
  let c := consumed s i
  let gs := match s.checkRanges { presence := true } c.1 none with | .ok ps => granulesOf (touches ps) | .error _ => []
  { bundle := b, pc := s.core.pc, no := s.core.issued, x := s.core.x, stalled := none, granules := gs, clears := c.2,
    acquires := isAcquire i }

/-- The port holds the slot, and the next slot's turn comes; what a trap of the slot takes back is remembered (R142, R144,
spec/25 R326). -/
def State.slip (s : State) : State :=
  match s.core.bundle with
  | none => s
  | some b =>
    let e := s.heldSlot b
    let h : Held := { agent := s.cur, key := e.key, next := s.eng.next, core := s.core }
    ({ s with core := { s.core with slipped := s.core.slipped ++ [e], run := .running },
              eng := { s.eng with held := s.eng.held ++ [h] } } : State).nextSlot b

/-- A member of the gang has still to issue a slot of the bundle that comes before the current core's: a stall in one stalls all
(spec/03 R34). -/
def State.lags (s : State) : Bool :=
  s.core.bundle.any fun b => s.members.any fun n => (s.coreAt n).bundle.any fun c => decide (c.slot < b.slot)

/-- Pre-emption may stop the core now: it is at a bundle boundary or in a blocking instruction, or behind one of its gang; its take is
not protected and has performed no atomic (spec/25 R338, spec/03 R34, R41, spec/07 R103). -/
def State.stoppable (s : State) : Bool :=
  ((s.core.run == .running && (s.core.bundle.isNone || s.lags)) || s.inBlocking) && decide (s.core.take.preempts < 2) &&
    !s.core.take.atomic

/-- A core that is to be pre-empted, and its gang, can stop. -/
def State.yields (s : State) : Bool := s.core.evicting && s.members.all fun n => (s.focus n).stoppable

/-- Pre-emption stops the current core and its gang: the takes are discarded, which counts towards protection
(spec/03 R35, R41, spec/25 R338). -/
def State.stopPreempted (s : State) : State :=
  s.eachMember fun u =>
    let v := u.discard
    { v with core := { v.core with run := .stopped, why := .preempt,
                                   take := { v.core.take with preempts := v.core.take.preempts + 1 } } }

/-! A program that is placed from outside (log 1). -/

/-- Where a placed bundle lies: the virtual and device-physical address, in HBM. -/
def fetchAt : W64 := 0x10000

/-- The bundle of a placed slot word: the word, and nops; a REP header has an mma beside it, which it repeats. -/
def bundleWith (w : W32) : BitVec 128 :=
  let nop : W32 := 0xFFFFFFFF#32
  let s1 : W32 := if field w 31 29 = 4 ∧ field w 27 26 = 1 then 0x40000000#32 else nop
  nop ++ nop ++ s1 ++ w

/-- The slot is one that only firmware issues: it goes to a control core. -/
def wantsControl (w : W32) : Bool :=
  match decodeSlot w none with | .ok i => firmwareOnly i | .error _ => false

/-- Context 1 as the placed shot runs in it: live, with every feature. -/
def placedContext (c : Context) : Context := { c with live := true, pres := 0, dev := 0, feat := 0x0100000000000DFF }

/-- A slot word placed as the next that is fetched (log 1). -/
def State.placeWord (s : State) (w : W32) : State :=
  let ctl := wantsControl w
  let s1 := if isControl s.cur = ctl then s else s.focus (if ctl then 2048 else 0)
  let s2 := s1.setContext 1 (placedContext (s1.context 1))
  let asid := if ctl then 0 else 1
  let raw := (Machine.place s2.liveDies 0 0 fetchAt.toNat).getD 0
  let page : Tlb := { asid := asid, base := fetchAt.toNat, size := 4096, frame := fetchAt.toNat, x := true, own := true,
                      h := false, wa := false, w := false, mixed := false }
  let c := s2.core
  let c1 := { c with
    ctx := BitVec.ofNat 64 asid, pc := fetchAt, bundle := none, rep := none, loop := none, pending := none, gang := none,
    slipped := [], oldCode := [], run := .running, why := .none, shot := if ctl then none else some { launch := 0, index := 0, kind := .placed },
    tlb := [page], reserved := none, gated := false }
  let bs := leBytes 16 (bundleWith w).toNat
  ({ s2 with core := c1, agenda := [],
             st := { s2.st with mem := Store.setList 0 s2.st.mem raw bs, flaws := Store.set 0 s2.st.flaws (lineOf raw) 0 } } : State).setLine
    (lineOf raw) LineMeta.reset

end Sys2Proof.Machine
end

