-- ==== Sys2Proof/Machine/Shots.lean ====
section
/-! DEFINITION. Shots: residency (spec/03 R36, spec/23 R324), the balance of a stacked pair (spec/23 R320), the current limits
(spec/33 R395), wake requests (spec/33 R397), the start sequence (spec/03 R31) and the end of a shot (spec/03 R42). -/

namespace Sys2Proof.Machine

/-! Cores. -/

/-- The cores of a die, by number. -/
def coresOfDie (d : Nat) : List Nat := (List.range 256).map fun k => 256 * d + k

/-- Cores of a die that are resident for a context (spec/23 R324). -/
def State.residentOn (s : State) (d asid : Nat) : Nat :=
  (s.listed.filter fun e => !isControl e.1 && dieOf e.1 == d && e.2.resident == asid).length

/-- PRIO.QUOTA of a context (spec/23 R323). -/
def Context.quota (c : Context) : Nat := field c.prio 16 8

/-- PWRCAP.SHARE in force; 0 reads as 1 (spec/33 R393). -/
def Context.share (c : Context) : Nat := Nat.max 1 (field c.pwrcap 23 16)

/-- The launch with a number. -/
def State.launch (s : State) (id : Nat) : Option Launch := s.sched.launches.find? (·.id == id)

/-- The state with a launch changed. -/
def State.onLaunch (s : State) (id : Nat) (f : Launch → Launch) : State :=
  { s with sched := { s.sched with launches := s.sched.launches.map fun l => if l.id == id then f l else l } }

/-! Stacked pairs (spec/23 R320). -/

/-- The cores of layer `l` of a pair: 0 the upper, cluster 2k, 1 the lower. -/
def layerCores (pair l : Nat) : List Nat := (List.range 16).map fun k => 32 * pair + 16 * l + k

/-- CLASS + 1 of the shot that a core runs, or 0. -/
def State.shotClass (s : State) (n : Nat) : Nat :=
  match (s.coreAt n).shot with
  | none => 0
  | some h => ((s.launch h.launch).map (·.cls)).getD 0 + 1

/-- What a core adds to its layer's estimate: its shot, else its ballast. -/
def State.classOf (s : State) (n : Nat) : Nat :=
  match (s.coreAt n).shot, (s.coreAt n).ballast with
  | some _, _ => s.shotClass n
  | none, some b => b + 1
  | none, none => 0

/-- The estimated current of a layer (spec/23 R320). -/
def State.estimate (s : State) (pair l : Nat) : Nat := ((layerCores pair l).map s.classOf).foldl (· + ·) 0

/-- The balance test, with the first estimate scaled by `f` tenths (spec/23 R320). -/
def balanced (h f o : Nat) : Bool :=
  let a := h * f
  let b := 10 * o
  (a - b) + (b - a) ≤ Nat.max 160 (10 * (Nat.max a b / 100))

/-- The current limit in force on a die, in amperes (spec/33 R395). -/
def Die.amps (d : Die) : Nat := Nat.min d.curlim (375 * (12 - d.lost) / 12)

/-- The state of a die. -/
def State.die (s : State) (d : Nat) : Die := s.mod.dies.getD d { curlim := 375, lost := 0, round := 0, shed := false }

/-- The byte lies in a U-pad or C-pad at retention voltage: that of a shed die (spec/29 R371). -/
def State.retained (s : State) (raw : Nat) : Bool := levelOf raw < 2 && (s.die (raw / 2 ^ 57 % 8)).shed

/-- The state with a die changed. -/
def State.setDie (s : State) (d : Nat) (x : Die) : State :=
  { s with mod := { s.mod with dies := s.mod.dies.setIfInBounds d x } }

/-- The die's estimated current, in hundredths of an ampere (spec/33 R395). -/
def State.dieCurrent (s : State) (d : Nat) : Nat :=
  18 * (((List.range 8).map fun k => Nat.max (s.estimate (8 * d + k) 0) (s.estimate (8 * d + k) 1)).foldl (· + ·) 0)

/-- A context's estimated current on a die, in hundredths of an ampere (spec/33 R395). -/
def State.contextCurrent (s : State) (d asid : Nat) : Nat :=
  9 * ((s.listed.filter fun e => !isControl e.1 && dieOf e.1 == d && e.2.shot.isSome && field e.2.ctx 15 0 == asid).map
    fun e => s.shotClass e.1).foldl (· + ·) 0

/-- Neither limit of a die is exceeded for a context (spec/33 R395). -/
def State.withinLimits (s : State) (d asid : Nat) : Bool :=
  let a := (s.die d).amps
  s.dieCurrent d ≤ 100 * a && s.contextCurrent d asid ≤ (s.context asid).share * a

/-- A pair's layer caps and wakes. -/
def State.pair (s : State) (k : Nat) : Pair := s.mod.pairs.getD k { capUp := 10, capLo := 10, needUp := 10, needLo := 10, calm := none, wakes := [] }

/-- The state with a pair changed. -/
def State.setPair (s : State) (k : Nat) (p : Pair) : State :=
  { s with mod := { s.mod with pairs := s.mod.pairs.setIfInBounds k p } }

/-- A core asks to be woken: a gated one enters the in-rush arbiter of its pair; one in its hold stays powered
(spec/33 R397). -/
def State.wakeRequest (s : State) (n : Nat) : State :=
  if (s.coreAt n).gated then
    let p := s.pair (pairOf n)
    if p.wakes.contains n then s else s.setPair (pairOf n) { p with wakes := p.wakes ++ [n] }
  else s

/-- The core holds no shot and no reservation, and is not fenced, under test, or on a shed die (spec/27 R356,
spec/29 R371). -/
def State.free_ (s : State) (n : Nat) : Bool :=
  let c := s.coreAt n
  c.run == .idle && c.shot.isNone && c.reserved.isNone && !c.fenced && !c.testing && !(s.die (dieOf n)).shed

/-- A core starts its ballast load, which cancels a gating in its hold (spec/33 R397). -/
def State.setBallast (s : State) (n : Nat) (b : Nat) : State :=
  (s.wakeRequest n).onCore n fun c => { c with ballast := some b }

/-- The ballast of a core stops; an idle core's power hold begins (spec/33 R397). -/
def State.stopBallast (s : State) (n : Nat) : State :=
  if (s.coreAt n).ballast.isSome then s.onCore n fun c => { c with ballast := none, holdAt := s.mod.clk } else s

/-- Ballast goes onto the idle cores of the lighter layer in ascending order until the pair is balanced: class 15 on each,
on the last the lowest class that balances; none that would pass the die's limit (spec/23 R320, spec/33 R395). -/
def State.addBallast (s : State) (pair heavy : Nat) : List Nat → State
  | [] => s
  | n :: ns =>
    let h := s.estimate pair heavy
    let o := s.estimate pair (1 - heavy)
    if balanced h 10 o then s
    else
      let last := (List.range 16).find? fun c => balanced h 10 (o + c + 1)
      let t := s.setBallast n (last.getD 15)
      if 100 * (s.die (dieOf n)).amps < t.dieCurrent (dieOf n) then s
      else if last.isSome then t else t.addBallast pair heavy ns

/-- A context with a shot on the pair forbids ballast (spec/33 R393). -/
def State.noBallast (s : State) (pair : Nat) : Bool :=
  (layerCores pair 0 ++ layerCores pair 1).any fun n =>
    let c := s.coreAt n
    c.shot.isSome && (s.context (field c.ctx 15 0)).pwrcap.getLsbD 0

/-- The dispatcher asks for a cap on a layer, in 100 MHz; 10 is none. What the sensor has lowered stays for the sensor to raise
(spec/23 R320, spec/33 R394; log 91). -/
def State.askCap (s : State) (pair l f : Nat) : State :=
  let p := s.pair pair
  s.setPair pair (if l = 0 then { p with needUp := f } else { p with needLo := f })

/-- The clock cap in force on a layer of a pair (spec/33 R394; log 91). -/
def Pair.cap (p : Pair) (l : Nat) : Nat := if l = 0 then Nat.min p.capUp p.needUp else Nat.min p.capLo p.needLo

/-- The cores of a pair, the upper layer first. -/
def pairCores (pair : Nat) : List Nat := layerCores pair 0 ++ layerCores pair 1

/-- All ballast of a pair stops where a context with a shot on it forbids ballast (spec/23 R320, spec/33 R393). -/
def State.stopForbidden (s : State) (pair : Nat) : State :=
  if s.noBallast pair then (pairCores pair).foldl State.stopBallast s else s

/-- The ballast of a layer is laid out anew on some idle cores, whether they run ballast already or not, so that each but the last
runs class 15 (spec/23 R320). -/
def State.layBallast (s : State) (pair heavy : Nat) (idle : List Nat) : State :=
  ((layerCores pair (1 - heavy)).foldl State.stopBallast s).addBallast pair heavy idle

/-- A pair that is not balanced is balanced: by ballast where it is allowed, else, or with too few idle cores, by the cap of the
heavier layer (spec/23 R320). A balanced pair is left as it is. -/
def State.restoreBalance (s : State) (pair : Nat) : State :=
  let up := s.estimate pair 0
  let lo := s.estimate pair 1
  if balanced up 10 lo then s
  else
    let heavy := if lo < up then 0 else 1
    let s2 := if s.noBallast pair then s else s.layBallast pair heavy ((layerCores pair (1 - heavy)).filter s.free_)
    let h := s2.estimate pair heavy
    let o := s2.estimate pair (1 - heavy)
    if balanced h 10 o then s2
    else s2.askCap pair heavy (((List.range 10).find? fun k => balanced h (10 - k) o).elim 1 fun k => 10 - k)

/-- A shot has been placed on a pair, or has resumed there (spec/23 R320). -/
def State.balanceStart (s : State) (pair : Nat) : State := (s.stopForbidden pair).restoreBalance pair

/-- The ballast that a pair no longer needs stops: of the cores that ran some on the lighter layer those go on, in ascending order,
that balance the pair, the last with the lowest class that does (spec/23 R320). -/
def State.trimBallast (s : State) (pair : Nat) : State :=
  let bare := (pairCores pair).foldl State.stopBallast s
  let up := bare.estimate pair 0
  let lo := bare.estimate pair 1
  let heavy := if lo < up then 0 else 1
  if balanced up 10 lo then bare
  else bare.addBallast pair heavy ((layerCores pair (1 - heavy)).filter fun n => (s.coreAt n).ballast.isSome)

/-- A core is power-gated when it holds nothing. -/
def Core.gate (c : Core) : Core := if c.shot.isNone && c.reserved.isNone then { c with gated := true, ballast := none } else c

/-- The cores of a shed die's pair that hold nothing are gated (spec/29 R371). -/
def State.gateShed (s : State) (pair : Nat) : State :=
  if (s.die (pair / 8)).shed then (pairCores pair).foldl (fun t n => t.onCore n Core.gate) s else s

/-- A shot of a pair has ended: the ballast stops, and the cap is lifted, that the pair no longer needs (spec/23 R320); on a shed
die its core is gated (spec/29 R371). -/
def State.rebalance (s : State) (pair : Nat) : State :=
  let t := (s.stopForbidden pair).trimBallast pair
  let up := t.estimate pair 0
  let lo := t.estimate pair 1
  let u := if balanced up 10 lo then (t.askCap pair 0 10).askCap pair 1 10
    else (t.askCap pair (if lo < up then 1 else 0) 10).restoreBalance pair
  u.gateShed pair

/-! The start of a shot. -/

/-- CTX of a context: PRES, DEV, DET, ASID (spec/25 R329). -/
def ctxWord (asid : Nat) (c : Context) : W64 :=
  BitVec.ofNat 64 (asid + (if c.det then 2 ^ 30 else 0) + c.dev * 2 ^ 31 + c.pres * 2 ^ 34)

/-- The x registers at shot start: arguments in x2 to x9, then the level registers (spec/03 R31). -/
def startX (args : List W64) (levels : List (Nat × W64)) : Vector W64 32 :=
  let base := Vector.ofFn fun i : Fin 32 => if 2 ≤ i.val ∧ i.val ≤ 9 then args.getD (i.val - 2) 0 else (0 : W64)
  levels.foldl (fun x l => if l.1 = 0 then x else x.setIfInBounds l.1 l.2) base

/-- The core at the end of the start sequence of a shot (spec/03 R31, spec/25 R328). -/
def Core.started (c : Core) (ctx entry : W64) (x : Vector W64 32) (shot : Shot) (gang : Option Gang) (asid : Nat) : Core :=
  { Core.reset with
    x := x, ctx := ctx, pc := entry, takepc := entry, run := .running, shot := some shot, gang := gang, resident := asid,
    tlb := c.tlb, evicting := c.evicting, evictAt := c.evictAt, testing := c.testing, fenced := c.fenced, skips := c.skips,
    passes := c.passes, passed := c.passed, gated := c.gated, holdAt := c.holdAt }

/-- Core `n` starts a shot of a context: the first take begins, its age is now (spec/03 R31, R37, spec/07 R89). -/
def State.startShot (s : State) (n asid : Nat) (entry : W64) (x : Vector W64 32) (shot : Shot) (gang : Option Gang) :
    State :=
  let ctx := ctxWord asid (s.context asid)
  let s1 := s.onCore n fun c =>
    { c.started ctx entry x shot gang asid with take := { Take.reset with ageStep := s.mod.step, ageClk := s.mod.clk } }
  let s2 := s1.onLaunch shot.launch fun l =>
    let k := { l with ranOn := if l.ranOn.contains n then l.ranOn else l.ranOn ++ [n] }
    if shot.kind = .placed ∨ shot.kind = .spawned then
      { k with tstart := some (l.tstart.getD s.mod.clk), dies := l.dies ||| 2 ^ dieOf n }
    else k
  s2.balanceStart (pairOf n)

/-! The end of a shot. -/

/-- The core idle, its shot gone, no pre-emption due; its power hold begins (spec/03 R42, spec/33 R397). -/
def Core.ended (c : Core) (clk : W64) : Core :=
  { c with run := .idle, why := .none, shot := none, gang := none, bundle := none, rep := none, slipped := [], loop := none,
           pending := none, sd := Vector.ofFn fun i => { c.sd[i] with bound := false }, q := Vector.replicate 16 [],
           qhead := Vector.replicate 16 0, take := Take.reset, pushed := [], latch := [], oldCode := [], issued := 0,
           evicting := false, holdAt := clk }

/-- The current core's shot is over: a handler waits for firmware to read ACTION, any other core is released and its launch
counts the shot (spec/03 R42, spec/25 R333). -/
def State.endShot (s : State) : State :=
  match s.core.shot with
  | none => { s with core := s.core.ended s.mod.clk }
  | some h =>
    let c := s.core.ended s.mod.clk
    if h.kind = .handler ∨ h.kind = .event then { s with core := { c with run := .ended, shot := some h } }
    else
      let s1 := { s with core := c }.onLaunch h.launch fun l => { l with ended := l.ended + 1 }
      s1.rebalance (pairOf s1.cur)

/-- `done` of one core: write streams written, take committed, shot over (spec/13 R174, spec/03 R38, R42). -/
def State.finishShot (s : State) : State := s.flushStreams.commit.endShot

end Sys2Proof.Machine
end

