-- ==== Sys2Proof/Machine/Placement.lean ====
section
/-! DEFINITION. Where a shot may be placed: the shot space and its units (spec/03 R28-R30, R33), scratchpad blocks that a context is
granted (spec/25 R341), saved shots and the cores kept for them (R33, R339), candidates (spec/23 R319, spec/33 R395, R398) and
waiting events (spec/25 R337). -/

namespace Sys2Proof.Machine

/-! The shot space (spec/03 R28-R30). -/

/-- The product of extents. -/
def product (ns : List Nat) : Nat := ns.foldl (· * ·) 1

/-- The levels of a kind, outermost first. -/
def levelsOf (ls : List Level) (k : LevelKind) : List Level := ls.filter (·.kind == k)

/-- The range of the D index. -/
def dRange (ls : List Level) : Nat := product ((levelsOf ls .dies).map (·.extent))

/-- The range of the C index. -/
def cRange (ls : List Level) : Nat := product ((levelsOf ls .cores).map (·.extent))

/-- The co-residency level: its extent and the distance in shot index between its neighbours (R33). -/
def coLevel (ls : List Level) : Option (Nat × Nat) :=
  let cs := levelsOf ls .cores
  (cs.findIdx? (·.cores)).map fun k => (((cs[k]?).map (·.extent)).getD 0, product ((cs.drop (k + 1)).map (·.extent)))

/-- The number of units of `m` shots that are placed as wholes: co-residency groups, or single shots (R33). -/
def unitCount (ls : List Level) (m : Nat) : Nat :=
  match coLevel ls with | some (e, _) => if e = 0 then 0 else m / e | none => m

/-- The shots of unit `u`, counted from the first shot of the die's block, in ascending order (R30, R33). -/
def unitShots (ls : List Level) (u : Nat) : List Nat :=
  match coLevel ls with
  | some (e, d) => (List.range e).map fun i => u / d * (d * e) + u % d + i * d
  | none => [u]

/-- The unit that a shot belongs to, its index counted from any multiple of the C range (R33). -/
def unitOfShot (ls : List Level) (j : Nat) : Nat :=
  match coLevel ls with | some (e, d) => j / (d * e) * d + j % d | none => j

/-! Scratchpad blocks (spec/25 R341). -/

/-- The owner of a block; 0 is none. -/
def State.ownerOf (s : State) (raw : Nat) : Nat := Store.get 0 s.st.owners (raw / 65536)

/-- An engine operation still has to write the block (R341 step 1). -/
def State.blockBusy (s : State) (raw : Nat) : Bool :=
  s.eng.ops.any fun o => (o.writes.map (·.1) ++ if o.kind = .coll then o.dsts else []).any fun g => g / 65536 == raw / 65536

/-- The blocks of a die that a context's attribute table grants, for the cores that it holds there: U-pads, C-pads, D-pad,
each in ascending address (R341; log 25). -/
def State.grantedBlocks (s : State) (a die : Nat) (held : List Nat) : List Nat :=
  let c := s.context a
  let (d0, n) := s.dies c
  let vas := (c.pads.filter fun e => e.2 % 2 == 1).map fun e => padBase + 65536 * e.1
  let us := vas.filter fun v => uBase ≤ v && v - uBase < 0x200000
  let u := ((coresOfDie die).filter held.contains).flatMap fun k => us.map fun v => uPad k (v - uBase)
  let cs := (vas.filter fun v => cBase ≤ v && v < uBase && (v - cBase) / 0x1000000 < 16).map fun v =>
    cPad (16 * die + (v - cBase) / 0x1000000) ((v - cBase) % 0x1000000)
  let ds := (vas.filter fun v => v < cBase && (v - padBase) / 0x10000000 < n && d0 + (v - padBase) / 0x10000000 == die &&
      (v - padBase) % 0x10000000 + Store.get 0 s.st.cbMiB die * 0x100000 < 0x10000000).map fun v =>
    dPad die ((v - padBase) % 0x10000000)
  u ++ cs ++ ds

/-- The U-pad blocks that a context is granted on cores of a die and does not own. -/
def State.padsOf (s : State) (a die : Nat) (ns : List Nat) : List Nat :=
  (s.grantedBlocks a die ns).filter fun raw => levelOf raw == 0 && s.ownerOf raw != a

/-- No engine operation still writes a U-pad block that a context would take with core `n` (R341 step 1). -/
def State.padsReady (s : State) (a n : Nat) : Bool := (s.padsOf a (dieOf n) [n]).all fun raw => !s.blockBusy raw

/-! Saved shots. -/

/-- The saved shot of core `n` of a context. -/
def Context.savedAt (c : Context) (n : Nat) : Option Saved := c.saved.find? (·.core == n)

/-- The saved shots of a context that return together with that of core `n`: its co-residency group (spec/03 R33). -/
def State.savedWith (s : State) (n a : Nat) : List Saved :=
  match (s.context a).savedAt n with
  | none => []
  | some v =>
    let ls := ((s.launch v.shot.launch).map (·.levels)).getD []
    (s.context a).saved.filter fun w => w.core == n || (w.shot.launch == v.shot.launch && dieOf w.core == dieOf n &&
      w.shot.kind == .placed && v.shot.kind == .placed && (coLevel ls).isSome &&
      unitOfShot ls w.shot.index == unitOfShot ls v.shot.index)

/-- The shots of a context that return to a die: those whose group has no core that a screen test has fenced
(spec/27 R356). -/
def State.returning (s : State) (d a : Nat) : List Saved :=
  (s.context a).saved.filter fun v => dieOf v.core == d && !((s.savedWith v.core a).any fun w => (s.coreAt w.core).fenced)

/-- Their cores. -/
def State.savedOn (s : State) (d a : Nat) : List Nat := dedup ((s.returning d a).map (·.core))

/-- An idle core is kept for the shot of its context that was displaced from it: it returns there with its group (R33, R337, R339). -/
def State.keeps (s : State) (n : Nat) : Bool :=
  let a := (s.coreAt n).resident
  a != 0 && (s.savedOn (dieOf n) a).contains n

/-! Candidates (spec/23 R319, spec/33 R395, R398). -/

/-- The cluster's hot flag (spec/33 R398). -/
def State.hot (s : State) (cl : Nat) : Bool :=
  (s.mod.clusters.getD cl { hot := false, steps := 0, screen := 0 }).hot

/-- Cores of a die that hold a shot or a reservation of a context. -/
def State.held (s : State) (d asid : Nat) : Nat :=
  (s.listed.filter fun e => !isControl e.1 && dieOf e.1 == d &&
    ((e.2.shot.isSome && field e.2.ctx 15 0 == asid) || e.2.reserved.any (·.asid == asid))).length

/-- A pre-emption of a context is under way on a die. -/
def State.leaving (s : State) (d asid : Nat) : Bool :=
  s.listed.any fun e => !isControl e.1 && dieOf e.1 == d && e.2.evicting && field e.2.ctx 15 0 == asid

/-- The candidate cores of a die for a context in the order of R319: clusters of the launch's crew, other clusters, hot
clusters. A core kept for a displaced shot is none, nor is one whose U-pad blocks wait for an engine operation (R337, R341). -/
def State.candidates (s : State) (d asid launch : Nat) (taken : List Nat) : List Nat :=
  let crew := dedup ((s.listed.filter fun e => e.2.shot.any (·.launch == launch)).map fun e => clusterOf e.1)
  let kept := s.savedOn d asid
  let ks := (coresOfDie d).filter fun n =>
    s.free_ n && (s.coreAt n).resident == asid && !taken.contains n && !(s.coreAt n).evicting && !kept.contains n && s.padsReady asid n
  let rank := fun (n : Nat) => if s.hot (clusterOf n) then 2 else if crew.contains (clusterOf n) then 0 else 1
  (ks.filter fun n => rank n == 0) ++ (ks.filter fun n => rank n == 1) ++ ks.filter fun n => rank n == 2

/-- The state as the estimates see it with a shot of a launch on a core. -/
def State.trial (s : State) (n asid launch : Nat) : State :=
  s.onCore n fun c => { c with shot := some { launch := launch, index := 0, kind := .placed }, ballast := none,
                               ctx := ctxWord asid (s.context asid) }

/-! Events that wait for a core (spec/25 R337). -/

/-- A launch has shots to place on a die. -/
def Launch.live (l : Launch) : Bool := l.status == 0 && !l.retired

/-- The event is the first of its launch, which runs, has a handler, and runs none for an event. -/
def State.deliverable (s : State) (k : Nat) (e : Event) : Bool :=
  (s.launch e.launch).any fun l => l.live && l.handler != 0 &&
    !((s.sched.events.take k).any fun f => f.launch == e.launch) &&
    !(s.listed.any fun c => c.2.shot.any fun h => h.launch == e.launch && h.kind == .event)

/-- The die on which an event is delivered: where it arose, or the lowest running die of the device when that one is shed
(spec/29 R371). -/
def State.eventDie (s : State) (e : Event) : Nat :=
  let (d0, n) := s.dies (s.context e.asid)
  if (s.die e.die).shed then (((List.range n).map (d0 + ·)).find? fun d => !(s.die d).shed).getD e.die else e.die

/-- The core on which an event's handler would run: the first candidate within the quota and the current limits (R337,
spec/33 R395). -/
def State.eventCore (s : State) (e : Event) : Option Nat :=
  let d := s.eventDie e
  if (s.context e.asid).quota ≤ s.held d e.asid ∨ s.leaving d e.asid then none
  else ((s.candidates d e.asid e.launch []).filter fun n => (s.trial n e.asid e.launch).withinLimits d e.asid).head?

/-- A waiting event takes core `n` before any shot starts there (R337; for a spawn see log 93). -/
def State.awaited (s : State) (n : Nat) : Bool :=
  (List.range s.sched.events.length).any fun k =>
    (s.sched.events[k]?).any fun e => s.eventDie e == dieOf n && s.deliverable k e && s.eventCore e == some n

end Sys2Proof.Machine
end

