-- ==== Sys2Proof/Machine/Scalar.lean ====
section
/-! DEFINITION. Scalar integer instructions: spec/13 R164-R169. -/

namespace Sys2Proof.Machine

/-! Values. -/

/-- A shift or rotate count: bits 5:0 (R164). -/
def count (b : W64) : Nat := b.toNat % 64

/-- Bits 127:64 of the exact product: fn 0 both signed, 1 both unsigned, 2 signed times unsigned (R164). -/
def mulHigh (f : BitVec 4) (a b : W64) : W64 :=
  let x : Int := if f = 1 then (a.toNat : Int) else a.toInt
  let y : Int := if f = 0 then b.toInt else (b.toNat : Int)
  BitVec.ofInt 64 (x * y / 2 ^ 64)

/-- The quotient: fn 0 signed, 1 unsigned (R165). -/
def quotient (f : BitVec 4) (a b : W64) : W64 :=
  if b = 0 then BitVec.allOnes 64
  else if f = 0 then BitVec.ofInt 64 (a.toInt.tdiv b.toInt)
  else a / b

/-- The remainder (R165). -/
def remainder (f : BitVec 4) (a b : W64) : W64 :=
  if b = 0 then a
  else if f = 0 then BitVec.ofInt 64 (a.toInt.tmod b.toInt)
  else a % b

/-- `a < b`: fn 0 signed, 1 unsigned. -/
def lessBy (f : BitVec 4) (a b : W64) : Bool := if f = 0 then a.slt b else a.ult b

/-- The smaller (R164). -/
def minBy (f : BitVec 4) (a b : W64) : W64 := if lessBy f b a then b else a

/-- The larger (R164). -/
def maxBy (f : BitVec 4) (a b : W64) : W64 := if lessBy f a b then b else a

/-- The width that fn selects for clz, ctz and popc: 64 bits, or the low 32 (R164). -/
def width (f : BitVec 4) : Nat := if f = 0 then 64 else 32

/-- The leading zero bits of the low `width f` bits. -/
def leadingZeros (f : BitVec 4) (a : W64) : W64 :=
  BitVec.ofNat 64 (((List.range (width f)).find? fun k => a.getLsbD (width f - 1 - k)).getD (width f))

/-- The trailing zero bits. -/
def trailingZeros (f : BitVec 4) (a : W64) : W64 :=
  BitVec.ofNat 64 (((List.range (width f)).find? fun k => a.getLsbD k).getD (width f))

/-- The one bits. -/
def oneBits (f : BitVec 4) (a : W64) : W64 := BitVec.ofNat 64 ((List.range (width f)).filter a.getLsbD).length

/-- The low 8, 16 or 32 bits sign-extended (R164). -/
def signExt (f : BitVec 4) (a : W64) : W64 :=
  if f = 0 then (a.setWidth 8).signExtend 64 else if f = 1 then (a.setWidth 16).signExtend 64
  else (a.setWidth 32).signExtend 64

/-- The low 8, 16 or 32 bits zero-extended (R164). -/
def zeroExt (f : BitVec 4) (a : W64) : W64 :=
  if f = 0 then (a.setWidth 8).setWidth 64 else if f = 1 then (a.setWidth 16).setWidth 64
  else (a.setWidth 32).setWidth 64

/-- A condition of R168: 0 eq, 1 ne, 2 lt, 3 ge, 4 ltu, 5 geu. -/
def holds (c : Nat) (a b : W64) : Bool :=
  match c with
  | 0 => a == b
  | 1 => a != b
  | 2 => a.slt b
  | 3 => !a.slt b
  | 4 => a.ult b
  | _ => !a.ult b

/-! Shapes: guarded by lane 0 of p[pg] (R161), or not. -/

/-- Two sources. -/
def alu2 (f : W64 → W64 → W64) (d a b : BitVec 5) (g : BitVec 3) (s : State) : Res State :=
  .ok (if s.guard g then s.setX d (f (s.x a) (s.x b)) else s)

/-- One source. -/
def alu1 (f : W64 → W64) (d a : BitVec 5) (g : BitVec 3) (s : State) : Res State :=
  .ok (if s.guard g then s.setX d (f (s.x a)) else s)

/-- A source and an immediate value; no guard (R166). -/
def aluI (f : W64 → W64) (d a : BitVec 5) (s : State) : Res State := .ok (s.setX d (f (s.x a)))

/-! Meanings. -/

/-- ADD (R164). -/
def execAdd (d a b : BitVec 5) (g : BitVec 3) (s : State) : Host.Outcome State Fault Refusal :=
  slot (.add d a b g) (alu2 (fun x y => x + y) d a b g) s

/-- SUB (R164). -/
def execSub (d a b : BitVec 5) (g : BitVec 3) (s : State) : Host.Outcome State Fault Refusal :=
  slot (.sub d a b g) (alu2 (fun x y => x - y) d a b g) s

/-- MUL (R164). -/
def execMul (d a b : BitVec 5) (g : BitVec 3) (s : State) : Host.Outcome State Fault Refusal :=
  slot (.mul d a b g) (alu2 (fun x y => x * y) d a b g) s

/-- MULH (R164). -/
def execMulh (d a b : BitVec 5) (g : BitVec 3) (f : BitVec 4) (s : State) : Host.Outcome State Fault Refusal :=
  slot (.mulh d a b g f) (alu2 (mulHigh f) d a b g) s

/-- DIV (R165). -/
def execDiv (d a b : BitVec 5) (g : BitVec 3) (f : BitVec 4) (s : State) : Host.Outcome State Fault Refusal :=
  slot (.div d a b g f) (alu2 (quotient f) d a b g) s

/-- REM (R165). -/
def execRem (d a b : BitVec 5) (g : BitVec 3) (f : BitVec 4) (s : State) : Host.Outcome State Fault Refusal :=
  slot (.rem d a b g f) (alu2 (remainder f) d a b g) s

/-- AND (R164). -/
def execAndR (d a b : BitVec 5) (g : BitVec 3) (s : State) : Host.Outcome State Fault Refusal :=
  slot (.andR d a b g) (alu2 (fun x y => x &&& y) d a b g) s

/-- OR (R164). -/
def execOrR (d a b : BitVec 5) (g : BitVec 3) (s : State) : Host.Outcome State Fault Refusal :=
  slot (.orR d a b g) (alu2 (fun x y => x ||| y) d a b g) s

/-- XOR (R164). -/
def execXorR (d a b : BitVec 5) (g : BitVec 3) (s : State) : Host.Outcome State Fault Refusal :=
  slot (.xorR d a b g) (alu2 (fun x y => x ^^^ y) d a b g) s

/-- ANDN (R164). -/
def execAndn (d a b : BitVec 5) (g : BitVec 3) (s : State) : Host.Outcome State Fault Refusal :=
  slot (.andn d a b g) (alu2 (fun x y => x &&& ~~~y) d a b g) s

/-- SHL (R164). -/
def execShl (d a b : BitVec 5) (g : BitVec 3) (s : State) : Host.Outcome State Fault Refusal :=
  slot (.shl d a b g) (alu2 (fun x y => x <<< count y) d a b g) s

/-- SHR (R164). -/
def execShr (d a b : BitVec 5) (g : BitVec 3) (s : State) : Host.Outcome State Fault Refusal :=
  slot (.shr d a b g) (alu2 (fun x y => x >>> count y) d a b g) s

/-- SRA (R164). -/
def execSra (d a b : BitVec 5) (g : BitVec 3) (s : State) : Host.Outcome State Fault Refusal :=
  slot (.sra d a b g) (alu2 (fun x y => x.sshiftRight (count y)) d a b g) s

/-- ROTL (R164). -/
def execRotl (d a b : BitVec 5) (g : BitVec 3) (s : State) : Host.Outcome State Fault Refusal :=
  slot (.rotl d a b g) (alu2 (fun x y => x.rotateLeft (count y)) d a b g) s

/-- MIN (R164). -/
def execMin (d a b : BitVec 5) (g : BitVec 3) (f : BitVec 4) (s : State) : Host.Outcome State Fault Refusal :=
  slot (.min d a b g f) (alu2 (minBy f) d a b g) s

/-- MAX (R164). -/
def execMax (d a b : BitVec 5) (g : BitVec 3) (f : BitVec 4) (s : State) : Host.Outcome State Fault Refusal :=
  slot (.max d a b g f) (alu2 (maxBy f) d a b g) s

/-- CLZ (R164). -/
def execClz (d a : BitVec 5) (g : BitVec 3) (f : BitVec 4) (s : State) : Host.Outcome State Fault Refusal :=
  slot (.clz d a g f) (alu1 (leadingZeros f) d a g) s

/-- CTZ (R164). -/
def execCtz (d a : BitVec 5) (g : BitVec 3) (f : BitVec 4) (s : State) : Host.Outcome State Fault Refusal :=
  slot (.ctz d a g f) (alu1 (trailingZeros f) d a g) s

/-- POPC (R164). -/
def execPopc (d a : BitVec 5) (g : BitVec 3) (f : BitVec 4) (s : State) : Host.Outcome State Fault Refusal :=
  slot (.popc d a g f) (alu1 (oneBits f) d a g) s

/-- SEXT (R164). -/
def execSext (d a : BitVec 5) (g : BitVec 3) (f : BitVec 4) (s : State) : Host.Outcome State Fault Refusal :=
  slot (.sext d a g f) (alu1 (signExt f) d a g) s

/-- ZEXT (R164). -/
def execZext (d a : BitVec 5) (g : BitVec 3) (f : BitVec 4) (s : State) : Host.Outcome State Fault Refusal :=
  slot (.zext d a g f) (alu1 (zeroExt f) d a g) s

/-- LEA (R164). -/
def execLea (d a b : BitVec 5) (g : BitVec 3) (n : BitVec 4) (s : State) : Host.Outcome State Fault Refusal :=
  slot (.lea d a b g n) (alu2 (fun x y => x + (y <<< n.toNat)) d a b g) s

/-- CMP (R168). -/
def execCmp (n : BitVec 3) (a b : BitVec 5) (g : BitVec 3) (c : BitVec 4) (s : State) :
    Host.Outcome State Fault Refusal :=
  slot (.cmp n a b g c)
    (fun t => .ok (if t.guard g then t.setPLane0 n (holds c.toNat (t.x a) (t.x b)) else t)) s

/-- SEL (R169). -/
def execSel (d a b : BitVec 5) (g n : BitVec 3) (s : State) : Host.Outcome State Fault Refusal :=
  slot (.sel d a b g n) (fun t => alu2 (fun x y => if t.guard n then x else y) d a b g t) s

/-- ADDI (R166). -/
def execAddi (d a : BitVec 5) (i : Imm 12) (s : State) : Host.Outcome State Fault Refusal :=
  slot (.addi d a i) (aluI (fun x => x + i.sext) d a) s

/-- ANDI (R166). -/
def execAndi (d a : BitVec 5) (i : Imm 12) (s : State) : Host.Outcome State Fault Refusal :=
  slot (.andi d a i) (aluI (fun x => x &&& i.sext) d a) s

/-- ORI (R166). -/
def execOri (d a : BitVec 5) (i : Imm 12) (s : State) : Host.Outcome State Fault Refusal :=
  slot (.ori d a i) (aluI (fun x => x ||| i.sext) d a) s

/-- XORI (R166). -/
def execXori (d a : BitVec 5) (i : Imm 12) (s : State) : Host.Outcome State Fault Refusal :=
  slot (.xori d a i) (aluI (fun x => x ^^^ i.sext) d a) s

/-- SHLI (R166). -/
def execShli (d a : BitVec 5) (n : BitVec 6) (s : State) : Host.Outcome State Fault Refusal :=
  slot (.shli d a n) (aluI (fun x => x <<< n.toNat) d a) s

/-- SHRI (R166). -/
def execShri (d a : BitVec 5) (n : BitVec 6) (s : State) : Host.Outcome State Fault Refusal :=
  slot (.shri d a n) (aluI (fun x => x >>> n.toNat) d a) s

/-- SRAI (R166). -/
def execSrai (d a : BitVec 5) (n : BitVec 6) (s : State) : Host.Outcome State Fault Refusal :=
  slot (.srai d a n) (aluI (fun x => x.sshiftRight n.toNat) d a) s

/-- LIH (R167). -/
def execLih (d : BitVec 5) (i : Imm 17) (s : State) : Host.Outcome State Fault Refusal :=
  slot (.lih d i) (fun t => .ok (t.setX d (i.sext <<< 20))) s

end Sys2Proof.Machine
end

