-- ==== Sys2Proof/Machine/Control.lean ====
section
/-! DEFINITION. Headers, control transfer, takes, spawn, done, trap, control registers, mode writes, fences and waits, and the
timing reads: spec/11 R138-R141, spec/13 R170-R175, R178-R185. -/

namespace Sys2Proof.Machine

/-! Headers. -/

/-- SYNC: every earlier access has been performed, copies' among them, and the held operands are dropped (spec/11 R143). -/
def State.realign (s : State) (sync : BitVec 1) : Res State :=
  if sync = 1 then
    if s.partsOut s.core.issued then .error .wait
    else
      let t := s.flushStreams
      .ok { t with core := { t.core with hold := Vector.replicate 2 none } }
  else .ok s

/-- EXT: the bytes belong to the other slots (spec/11 R139); SYNC. -/
def execExt (n : BitVec 1) (c b a : BitVec 8) (s : State) : Host.Outcome State Fault Refusal :=
  slot (.ext n c b a) (fun t => t.realign n) s

/-- REP: the count and the mask belong to the M slot (spec/11 R140); SYNC. -/
def execRep (n : BitVec 1) (c : BitVec 16) (m : BitVec 8) (s : State) : Host.Outcome State Fault Refusal :=
  slot (.rep n c m) (fun t => t.realign n) s

/-- The effect of a LOOP header: on a replay it is not read again; with a trip count of 0 the body is skipped; else the
capture begins (spec/11 R141). -/
def State.enterLoop (s : State) (l : BitVec 6) (t : BitVec 5) : State :=
  match s.core.bundle with
  | none => s
  | some b =>
    if b.replay then s
    else if s.x t = 0 then { s with core := { s.core with bundle := some { b with skip := true } } }
    else { s with core := { s.core with loop := some { head := s.core.pc, len := l.toNat, xt := t, body := [(0, b.word)] } } }

/-- LOOP (spec/11 R141). -/
def execLoop (n : BitVec 1) (l : BitVec 6) (r : BitVec 5) (s : State) : Host.Outcome State Fault Refusal :=
  slot (.loop n l r) (fun t => (t.realign n).map (State.enterLoop · l r)) s

/-- NOP (spec/11 R132). -/
def execNop (s : State) : Host.Outcome State Fault Refusal := slot .nop (fun t => .ok t) s

/-! Control transfer (spec/13 R170, R171). -/

/-- The branch of the bundle is taken: its target is dispatched after the bundle. -/
def State.goto (s : State) (a : W64) : State :=
  { s with core := { s.core with bundle := s.core.bundle.map fun b => { b with target := some a } } }

/-- This bundle + 16 × off. -/
def State.target {w : Nat} (s : State) (o : Imm w) : W64 := s.core.pc + (o.sext <<< 4)

/-- A conditional branch. -/
def State.gotoIf {w : Nat} (s : State) (b : Bool) (o : Imm w) : Res State := .ok (if b then s.goto (s.target o) else s)

/-- A compare-and-branch under a condition of R168. -/
def branchIf (c : Nat) (b a : BitVec 5) (o : Imm 12) (s : State) : Res State :=
  s.gotoIf (holds c (s.x a) (s.x b)) o

/-- JMP. -/
def execJmp (o : Imm 17) (s : State) : Host.Outcome State Fault Refusal :=
  slot (.jmp o) (fun t => .ok (t.goto (t.target o))) s

/-- JAL. -/
def execJal (d : BitVec 5) (o : Imm 17) (s : State) : Host.Outcome State Fault Refusal :=
  slot (.jal d o) (fun t => .ok ((t.goto (t.target o)).setX d (t.core.pc + 16))) s

/-- JR. -/
def execJr (d a : BitVec 5) (g : BitVec 3) (s : State) : Host.Outcome State Fault Refusal :=
  slot (.jr d a g) (fun t =>
    if t.guard g then
      if field (t.x a) 3 0 = 0 then .ok ((t.goto (t.x a)).setX d (t.core.pc + 16)) else trap .align 1 (t.x a)
    else .ok t) s

/-- BR. -/
def execBr (p : BitVec 3) (n : BitVec 1) (o : Imm 18) (s : State) : Host.Outcome State Fault Refusal :=
  slot (.br p n o) (fun t => t.gotoIf (t.guard p != (n == 1)) o) s

/-- BRC_EQ. -/
def execBrcEq (b a : BitVec 5) (o : Imm 12) (s : State) : Host.Outcome State Fault Refusal :=
  slot (.brcEq b a o) (branchIf 0 b a o) s

/-- BRC_NE. -/
def execBrcNe (b a : BitVec 5) (o : Imm 12) (s : State) : Host.Outcome State Fault Refusal :=
  slot (.brcNe b a o) (branchIf 1 b a o) s

/-- BRC_LT. -/
def execBrcLt (b a : BitVec 5) (o : Imm 12) (s : State) : Host.Outcome State Fault Refusal :=
  slot (.brcLt b a o) (branchIf 2 b a o) s

/-- BRC_GE. -/
def execBrcGe (b a : BitVec 5) (o : Imm 12) (s : State) : Host.Outcome State Fault Refusal :=
  slot (.brcGe b a o) (branchIf 3 b a o) s

/-- BRC_LTU. -/
def execBrcLtu (b a : BitVec 5) (o : Imm 12) (s : State) : Host.Outcome State Fault Refusal :=
  slot (.brcLtu b a o) (branchIf 4 b a o) s

/-- BRC_GEU. -/
def execBrcGeu (b a : BitVec 5) (o : Imm 12) (s : State) : Host.Outcome State Fault Refusal :=
  slot (.brcGeu b a o) (branchIf 5 b a o) s

/-! Take, spawn, done, trap. -/

/-- TAKE: the boundary stands before the bundle (R172); the slot itself has no effect. -/
def execTakeMark (s : State) : Host.Outcome State Fault Refusal := slot .takeMark (fun t => .ok t) s

/-- The position of the current core in its gang. -/
def State.gangPos (s : State) : Nat := (s.core.gang.map (·.pos)).getD 0

/-- An idle core is available to the running context (spec/03 R36); a fenced core, one under test and one of a shed die
take no shot. -/
def State.available (s : State) (n : Nat) : Bool :=
  let c := s.coreAt n
  !c.fenced && !c.testing && !(s.die (dieOf n)).shed &&
    (c.resident == s.asid || (c.resident == 0 && s.residentOn (dieOf n) s.asid < s.ctx.quota))

/-- The checks of a spawn in order (R173). A spawn on a control core, which has no cluster, names no core: SPAWNBUSY NOTCORE is the
model's choice, for R173 is silent on it (DESIGN CHOICE, log 94). A core that is kept for a displaced shot, or that a waiting event
takes, holds a shot (spec/03 R33, spec/25 R337, R339; log 93). -/
def State.spawnCheck (s : State) (c e : W64) : Res Unit := do
  need s.core.gang.isNone .diverge 0 (BitVec.ofNat 64 s.gangPos)
  need (canonical e) .page 1 e
  need (field e 3 0 == 0) .align 1 e
  need (c.toNat ≤ 15 && !isControl s.cur) .spawnbusy 5
  need (c.toNat != s.cur % 16) .spawnbusy 3
  let n := s.cur / 16 * 16 + c.toNat
  need ((s.coreAt n).shot.isNone && !s.keeps n && !s.awaited n) .spawnbusy 1
  need (s.coreAt n).reserved.isNone .spawnbusy 2
  need (s.available n) .spawnbusy 4

/-- The core is reserved for the take: it becomes resident for the context, and is woken (spec/03 R36). -/
def State.reserve (s : State) (n : Nat) (e : W64) : State :=
  let r : Reservation := { by_ := s.cur, launch := (s.core.shot.map (·.launch)).getD 0, asid := s.asid, entry := e,
                           args := (List.range 8).map fun k => s.x (BitVec.ofNat 5 (k + 2)), ready := false }
  let s1 := s.onCore n fun c => { c with reserved := some r, resident := s.asid, ballast := none }
  let s2 := { s1 with core := { s1.core with take := { s1.core.take with spawns := s1.core.take.spawns ++ [n] } } }
  s2.wakeRequest n

/-- SPAWN: the checks, the reservation, and a wait until the core is awake (R173, spec/03 R36, spec/33 R397). -/
def State.spawnTo (s : State) (c e : W64) : Res State :=
  let n := s.cur / 16 * 16 + c.toNat
  if s.core.run = .blocked ∧ s.core.take.spawns.contains n then
    if (s.coreAt n).gated then .error .wait else .ok s
  else
    match s.spawnCheck c e with
    | .error x => .error x
    | .ok _ => if (s.coreAt n).gated then .error (.waitIn (s.reserve n e)) else .ok (s.reserve n e)

/-- SPAWN. -/
def execSpawn (a b : BitVec 5) (s : State) : Host.Outcome State Fault Refusal :=
  slot (.spawn a b) (fun t => t.spawnTo (t.x a) (t.x b)) s

/-- Every member of the gang has come to the `done` of its bundle. -/
def State.allAtDone (s : State) : Bool :=
  s.members.all fun n =>
    let c := s.coreAt n
    n == s.cur || (c.issued == s.core.issued && c.run == .blocked && c.slipped.isEmpty &&
      c.bundle.any fun b => isDone (slotWord b.word b.slotNo))

/-- `done`: every member of a gang ends with the others, when the watched writes of their copies have been performed; a linked q register with an entry left raises BUNDLE QNOTEMPTY at
the boundary (R174, spec/03 R39, spec/25 R326). -/
def State.doneAll (s : State) : State :=
  if !s.allAtDone || s.watchedOut then s.block
  else if s.members.any fun n => (s.focus n).qLeft then s.raiseAt { cause := .bundle, detail := 6 } 6 0
  else s.members.foldl (fun t n => t.withCore n State.finishShot) s

/-- DONE. -/
def execDoneShot (s : State) : Host.Outcome State Fault Refusal := .next s.doneAll

/-- TRAP (R175). -/
def execTrapUser (a : BitVec 5) (i : Imm 12) (s : State) : Host.Outcome State Fault Refusal :=
  slot (.trapUser a i) (fun t => if t.x a = 0 then .ok t else trap .user 0 i.zext (t.x a)) s

/-! Control registers (spec/11 R149, R178). -/

/-- A row of z0 to z7 belongs to a configured tile (spec/17 R231). -/
def State.tileRow (s : State) (r : Nat) : Bool := decide (r % 64 < s.rows (r / 64))

/-- A row is free and not parked (spec/15 R229). -/
def State.freeRow (s : State) (r : Nat) : Bool := !s.tileRow r && !s.core.parked.contains r

/-- The lowest free row; 512 when there is none (spec/15 R229). -/
def State.nextRow (s : State) : Nat := ((List.range 512).find? s.freeRow).getD 512

/-- PARK (spec/15 R229). -/
def State.parkReg (s : State) : W64 :=
  BitVec.ofNat 64 (((List.range 512).filter s.freeRow).length + 2 ^ 10 * s.core.parked.length + 2 ^ 20 * s.nextRow)

/-- COREID (R181); what a control core reads in its fields is not stated, and is free; the reserved bits read zero (R7). -/
def State.coreid (s : State) : W64 :=
  if isControl s.cur then BitVec.ofNat 64 (s.free 0) &&& 0x1F387FF#64
  else BitVec.ofNat 64 (s.cur + 2 ^ 15 * (dieOf s.cur - (s.dies s.ctx).1) + 2 ^ 20 * s.gangPos +
    (if s.core.gang.isSome then 2 ^ 24 else 0))

/-- The context that CTX names. -/
def State.ctxNamed (s : State) : Nat := field s.core.ctx 15 0

/-- The set entries of the hibernation list. -/
def State.hibSet (s : State) : List HibEntry := s.mod.hiblist.filterMap (·.2)

/-- HIBLST: COUNT, HELD, OVER and PAGES, which saturates (spec/29 R361). -/
def State.hiblst (s : State) : W64 :=
  let pages := Nat.min (2 ^ 32 - 1) ((s.hibSet.map (·.pages)).foldl (· + ·) 0)
  BitVec.ofNat 64 (pages * 2 ^ 32 + (if field s.mod.hibbud 31 0 < pages then 2 ^ 10 else 0) +
    (if s.mod.hibheld then 2 ^ 9 else 0) + s.hibSet.length)

/-- The die of the current agent. -/
def State.myDie (s : State) : Die := s.die (dieOf s.cur)

/-- The value of a control register, before deterministic mode (spec/11 R149). -/
def State.control (s : State) : Cr → W64
  | .fmt => s.readFmt
  | .mom => s.readMom
  | .cause => s.core.cause
  | .tinfo => s.core.tinfo
  | .takepc => s.core.takepc
  | .tser => s.core.tser
  | .park => s.parkReg
  | .watch => BitVec.ofNat 64 s.core.take.log.length
  | .feat => (s.context s.ctxNamed).feat
  | .step => s.mod.step
  | .clk => s.mod.clk
  | .coreid => s.coreid
  | .ctx => s.core.ctx
  | .prio => (s.context s.ctxNamed).prio
  | .pwrcap => (s.context s.ctxNamed).pwrcap
  | .curlim => BitVec.ofNat 64 s.myDie.amps
  | .derate => BitVec.ofNat 64 (s.myDie.lost * 2 ^ 12 + s.mod.level)
  | .screen => BitVec.ofNat 64 (s.myDie.round % 2 ^ 32 * 2 ^ 32 + s.core.passes % 2 ^ 32)
  | .hibbud => s.mod.hibbud
  | .hiblst => s.hiblst

/-- CLK, COREID and STEP are timing-dependent reads (spec/11 R149, R183). -/
def timedCr : Cr → Bool
  | .clk | .coreid | .step => true
  | _ => false

/-- CTLR (R178). -/
def execCtlr (d : BitVec 5) (c : BitVec 12) (s : State) : Host.Outcome State Fault Refusal :=
  slot (.ctlr d c) (fun t =>
    match Cr.ofNumber c.toNat with
    | none => trap .illegal 3
    | some r =>
      if timedCr r then do
        let (u, v) ← t.timed (t.control r)
        pure (u.setX d v)
      else .ok (t.setX d (t.control r))) s

/-- A firmware write of a control register: every field that is not reserved; STEP at the next boundary; PRIO of the context
that CTX names (R178, spec/01 R7, spec/23 R323, spec/25 R327-R329, spec/31 R391). -/
def State.setControl (s : State) (r : Cr) (v : W64) : State :=
  match r with
  | .cause => { s with core := { s.core with cause := v &&& 0x0000000001FFFFFF } }
  | .tinfo => { s with core := { s.core with tinfo := v } }
  | .takepc => { s with core := { s.core with takepc := v } }
  | .tser => { s with core := { s.core with tser := v } }
  | .ctx => { s with core := { s.core with ctx := v &&& 0x0000000FC000FFFF } }
  | .step => { s with mod := { s.mod with stepNext := some v } }
  | .prio => s.setContext s.ctxNamed { s.context s.ctxNamed with prio := v &&& 0x0000FFFF0001FF03 }
  | _ => s

/-- CTLW (R178). -/
def execCtlw (a : BitVec 5) (c : BitVec 12) (s : State) : Host.Outcome State Fault Refusal :=
  slot (.ctlw a c) (fun t =>
    match Cr.ofNumber c.toNat with
    | none => trap .illegal 3
    | some r =>
      if !r.ctlwF then trap .illegal 3
      else if !isControl t.cur then trap .priv 1
      else .ok (t.setControl r (t.x a))) s

/-- The lead of the gang has passed the slot that the current core issues. -/
def State.leadPast (s : State) : Bool :=
  let mine := ((s.core.bundle.map (·.slot)).getD 0)
  s.lead == s.cur || (s.coreAt s.lead).bundle.all fun b => decide (mine < b.slot)

/-- The value that a mode write of the current core writes: its own, or in a gang the one that the lead's slot has written, for
which the member waits, so that every member sees one sequence of values (spec/09 R128; log 88). -/
def State.modeValue (s : State) (own : W64) (written : Core → W64) : Res W64 :=
  if s.lead = s.cur then .ok own
  else if s.leadPast then .ok (written (s.coreAt s.lead)) else .error .wait

/-- The value of the latest setfmt of a core, with the flags that it set. -/
def Core.lastFmt (c : Core) : W64 := (c.fmtWrites.getLast?.map (·.value)).getD c.fmt ||| (c.flags.setWidth 64 <<< 32)

/-- The value of the latest setmom of a core, with NVCLAMP as it set it. -/
def Core.lastMom (c : Core) : W64 :=
  (c.momWrites.getLast?.map (·.value)).getD c.mom ||| (if c.nvclamp then 0x800000000#64 else 0#64)

/-- SETFMT (R179). -/
def execSetfmt (a : BitVec 5) (s : State) : Host.Outcome State Fault Refusal :=
  slot (.setfmt a) (fun t => do
    let v ← t.modeValue (t.x a) Core.lastFmt
    t.setFmt v) s

/-- SETMOM (R179). -/
def execSetmom (a : BitVec 5) (s : State) : Host.Outcome State Fault Refusal :=
  slot (.setmom a) (fun t => do
    let v ← t.modeValue (t.x a) Core.lastMom
    t.setMom v) s

/-! Fences and bounded waiting (R184, R185, spec/07 R94). -/

/-- FENCE: class C waits for the engine operations of earlier bundles; class S writes what was pushed to write streams. Every other
access has been performed (log 8). -/
def execFence (c : BitVec 4) (n : BitVec 3) (s : State) : Host.Outcome State Fault Refusal :=
  slot (.fence c n) (fun t =>
    if c.getLsbD 3 && 0 < t.copiesOut t.core.issued then .error .wait
    else .ok (if c.getLsbD 1 then t.flushStreams else t)) s

/-- WAIT: NC bounds the engine operations of earlier bundles, NS the pushed stream entries; loads and M operations are performed when
they issue (log 8). -/
def execWait (l n c t : BitVec 4) (s : State) : Host.Outcome State Fault Refusal :=
  slot (.wait l n c t) (fun u =>
    if c.toNat < 15 ∧ c.toNat < u.copiesOut u.core.issued then .error .wait
    else .ok (if n.toNat < 15 then u.flushStreams else u)) s

/-! Timing reads (R180-R183). -/

/-- RDCLK. -/
def execRdclk (d : BitVec 5) (s : State) : Host.Outcome State Fault Refusal :=
  slot (.rdclk d) (fun t => do
    let (u, v) ← t.timed t.mod.clk
    pure (u.setX d v)) s

/-- RDID. -/
def execRdid (d : BitVec 5) (s : State) : Host.Outcome State Fault Refusal :=
  slot (.rdid d) (fun t => do
    let (u, v) ← t.timed t.coreid
    pure (u.setX d v)) s

/-- RDSTEP. -/
def execRdstep (d : BitVec 5) (s : State) : Host.Outcome State Fault Refusal :=
  slot (.rdstep d) (fun t => do
    let (u, v) ← t.timed t.mod.step
    pure (u.setX d v)) s

/-- RDSTEP_NEXT: waits until STEP is not what it was when the slot issued (R182). -/
def execRdstepNext (d : BitVec 5) (s : State) : Host.Outcome State Fault Refusal :=
  slot (.rdstepNext d) (fun t =>
    match t.core.awaitStep with
    | none => .error (.waitIn { t with core := { t.core with awaitStep := some t.mod.step } })
    | some v =>
      if t.mod.step = v then .error .wait
      else .ok ({ t with core := { t.core with awaitStep := none } }.setX d t.mod.step)) s

end Sys2Proof.Machine
end

