-- ==== Sys2Proof/Machine/Copy.lean ====
section
/-! DEFINITION. Copy descriptors and copies: spec/21 R279-R290, the footprint check of spec/05 R64, the completion of
spec/07 R100. A copy moves its bytes between its issue and its completion, with their presence settings; its add follows when it
completes (log 15). -/

namespace Sys2Proof.Machine

/-! Descriptors (R281, R283, R284). -/

/-- E, in bytes. -/
def esizeOf (d : BitVec 512) : Nat := 2 ^ field d 34 32

/-- CNT of dimension `k`. -/
def countOf (d : BitVec 512) (k : Nat) : Nat :=
  if k = 0 then field d 31 0 else (d.extractLsb' (64 + 16 * (k - 1)) 16).toNat

/-- SS of dimension `k`, 1 to 5. -/
def srcStride (d : BitVec 512) (k : Nat) : W64 := (d.extractLsb' (192 + 32 * (k - 1)) 32).signExtend 64

/-- DS of dimension `k`, 1 to 5. -/
def dstStride (d : BitVec 512) (k : Nat) : W64 := (d.extractLsb' (352 + 32 * (k - 1)) 32).signExtend 64

/-- BMASK. -/
def bmaskOf (d : BitVec 512) : Nat := field d 63 48

/-- Elements in all: the product of the counts. -/
def elementsOf (d : BitVec 512) : Nat := ([0, 1, 2, 3, 4, 5].map (countOf d)).foldl (· * ·) 1

/-- B, the byte count (R283). -/
def bytesOf (d : BitVec 512) : Nat := esizeOf d * elementsOf d

/-- The checks of R283 that every engine operation makes; `mask` says that BMASK is allowed. -/
def descGood (d : BitVec 512) (mask : Bool) : Bool :=
  field d 34 32 ≤ 4 && elementsOf d != 0 && field d 47 35 == 0 && field d 191 184 == 0 && (mask || bmaskOf d == 0) &&
  decide (bytesOf d < 2 ^ 40)

/-- BADCOPY unless the condition holds (R283). -/
def goodCopy (b : Bool) : Res Unit := need b .stream 9

/-- The bytes of a row, the elements of dimension 0. -/
def rowLen (d : BitVec 512) : Nat := esizeOf d * countOf d 0

/-- The source and destination offsets of the rows in visiting order: dimension 1 fastest (R284). -/
def rowsFrom (d : BitVec 512) : Nat → List (W64 × W64)
  | 0 => [(0, 0)]
  | k + 1 =>
    let inner := fun (n : Nat) => (BitVec.ofNat 64 n * srcStride d (k + 1), BitVec.ofNat 64 n * dstStride d (k + 1))
    match k with
    | 0 => (List.range (countOf d 1)).map inner
    | _ => (List.range (countOf d (k + 1))).flatMap fun n =>
        (rowsFrom d k).map fun r => (r.1 + (inner n).1, r.2 + (inner n).2)

/-- The rows of a descriptor. -/
def rowsOf (d : BitVec 512) : List (W64 × W64) := rowsFrom d 5

/-! Issue. -/

/-- The engine operations of the issuing port that have not completed (R279). -/
def State.portOps (s : State) : Nat :=
  (s.eng.ops.filter fun o => o.agent == s.cur && o.port == s.cport).length

/-- A port with 16 engine operations in flight stalls (R279). -/
def State.engineRoom (s : State) : Res Unit := if 16 ≤ s.portOps then .error .wait else .ok ()

/-- A part of an engine operation's footprint: how it is accessed, and its ranges. -/
abbrev Part := Acc × List (W64 × Nat)

/-- The source part of a footprint. -/
def readPart (rs : List (W64 × Nat)) : Part := ({}, rs)

/-- The destination part of a footprint. -/
def writePart (rs : List (W64 × Nat)) : Part := ({ write := true }, rs)

/-- The failure of a part, with its address and access. -/
def State.failIn (s : State) (p : Part) : Option (Fail × W64 × Acc) :=
  match s.resolvePart p.1 p.2 with | .error e => some (e.1, e.2, p.1) | .ok _ => none

/-- Of the failures of two parts the first in the order of spec/05 R62, and of equal ones that of the first part. -/
def earlier (a b : Option (Fail × W64 × Acc)) : Option (Fail × W64 × Acc) :=
  match a, b with
  | some e, some f => if f.1.rank < e.1.rank then some f else some e
  | some e, none => some e
  | none, f => f

/-- The failure that a footprint of several parts reports (spec/05 R62). -/
def State.failsIn (s : State) (ps : List Part) : Option (Fail × W64 × Acc) := (ps.map s.failIn).foldl earlier none

/-- The trap of a failure. -/
def failTrap {α : Type} (e : Fail × W64 × Acc) : Res α :=
  .error (.trap { cause := e.1.cause, detail := e.1.detail, w0 := e.2.1, acc := e.2.2.code })

/-- The checks of an engine operation's source and destination: the first failure in the order of spec/05 R62, of the
first part that fails with it. -/
def State.checkParts (s : State) (src dst : List (W64 × Nat)) : Res (State × List Touch × List Touch) :=
  match s.resolvePart {} src, s.resolvePart { write := true } dst with
  | .ok a, .ok b => .ok ((s.cache a).cache b, touches a, touches b)
  | _, _ => match s.failsIn [readPart src, writePart dst] with | some e => failTrap e | none => .error .wait

/-- An engine operation issues when no held slot of its core stands before what it reads and writes (spec/11 R146). -/
def State.afterHeld (s : State) (src dst : List Touch) : Res Unit :=
  if s.behindHeld false (src.map (·.raw)) || s.behindHeld true (dst.map (·.raw)) then .error .wait else .ok ()

/-- The held add of a counter that an engine operation names, keyed by the operation's number; x0 names none
(R285, spec/07 R97). -/
def State.holdOp (s : State) (h : BitVec 5) (amount : W64) : Res (State × Option Nat) :=
  if h = 0 then .ok (s, none)
  else do
    let k ← s.needCounter (s.x h)
    let s1 ← s.holdAdd (s.x h) k amount (some s.eng.next)
    pure (s1, some k)

/-- An engine operation of the current core's open take, with the fields that every one has. -/
def State.newOp (s : State) (kind : OpKind) (d : BitVec 512) (key : Option Nat) (amount : W64) : EngineOp :=
  { id := s.eng.next, kind := kind, agent := s.cur, port := s.cport, asid := s.asid, launch := s.core.shot.map (·.launch),
    committed := false, bundle := s.core.issued, desc := d, step := 0, key := key, amount := amount, reads := [],
    writes := [], dsts := [], bads := [], stream := 0, slot := 0, pos := 0, fresh := false, late := false, row := [] }

/-- The operation is in flight. -/
def State.addOp (s : State) (o : EngineOp) : State :=
  { s with eng := { s.eng with ops := s.eng.ops ++ [o], next := s.eng.next + 1 } }

/-- Where a copy writes: memory; registers of a class (9 operand buffers, 10 scale memories) by offset; the U-pads of cores
of the cluster (R286, R289). -/
inductive CopyDest where
  | mem
  | regs (cls : Nat) (offs : List Nat)
  | cores (ns : List Nat)

/-- The words of buffers and scale memories that the rows of an operation overwrite whole (spec/27 R350). -/
def EngineOp.wholeWords (o : EngineOp) : Words :=
  let n := rowLen o.desc
  match o.writes with
  | [] => []
  | w :: _ =>
    if levelOf w.1 < 9 then []
    else (chunks n (o.writes.length / n) (o.writes.map fun p => p.1 % 2 ^ 60)).filterMap fun r => r.head?.map fun a =>
      (levelOf w.1 * 2 ^ 16 + (a + 7) / 8, (a + n) / 8 - (a + 7) / 8)

/-- Bytes resolved, as an engine operation keeps them. -/
def partsOf (ts : List Touch) : List (Nat × Bool) := ts.map fun t => (t.raw, t.watched)

/-- A copy issues: its footprint is checked, its add held, its watched writes logged; its bytes move later, until it completes
(R284, R285, spec/05 R64, spec/07 R90; log 15). `src` is none for pfill, whose bytes are `fill`; `bads` names bytes that are poisoned whatever their source; the add is B. -/
def State.copyIssue (s : State) (d : BitVec 512) (h : BitVec 5) (src : Option (List (W64 × Nat))) (fill : List Byte)
    (dst : List (W64 × Nat)) (to_ : CopyDest) (bads : List Nat := []) : Res State := do
  let dv := match to_ with | .regs _ _ => [] | _ => dst
  let (s1, ta, tb) ← s.checkParts (src.getD []) dv
  s1.afterHeld ta tb
  let (s2, key) ← s1.holdOp h (BitVec.ofNat 64 (bytesOf d))
  let s3 := s2.flushStreams
  let s4 ← match to_ with | .mem => s3.watchAll true tb | _ => pure s3
  let writes := match to_ with
    | .mem => partsOf tb
    | .cores ns => ns.flatMap fun n => tb.map fun t => (uPad n (t.raw % 2 ^ 49), false)
    | .regs cls offs => offs.flatMap fun o => (List.range (rowLen d)).map fun k => (rawOf cls (o + k), false)
  pure (s4.addOp { s4.newOp .copy d key (BitVec.ofNat 64 (bytesOf d)) with reads := partsOf ta, row := fill, writes := writes, bads := bads })

/-- The descriptor of a copy, checked (R283). -/
def State.copyDesc (s : State) (c : BitVec 5) (mask : Bool) : Res (BitVec 512) := do
  let d := s.core.cd[c.toNat]
  goodCopy (descGood d mask)
  pure d

/-- The ranges of the rows from a base address. -/
def rangesAt (base : W64) (n : Nat) (offs : List W64) : List (W64 × Nat) := offs.map fun o => (base + o, n)

/-- Offsets in the operand-buffer space (9) or the scale space (10): the base in range, every byte in one buffer or memory,
else BADCOPY (R286). -/
def regOffsets (cls : Nat) (base : W64) (n : Nat) (offs : List W64) : Res (List Nat) := do
  let unit := if cls = 9 then 8192 else 4096
  let size := if cls = 9 then 65536 else 8192
  let os := offs.map fun o => (base + o).toNat
  goodCopy (base.toNat < size && os.all (fun o => decide (o + n ≤ size)) &&
    os.all fun o => o / unit == os.headD 0 / unit && (o + n - 1) / unit == os.headD 0 / unit)
  pure os

/-- A copy still fills the operand buffer or scale memory that an offset lies in: it is busy (R286, spec/17 R234). -/
def State.filling (s : State) (cls off : Nat) : Bool :=
  let item := fun (k : Nat) => if cls = 9 then k / 8192 else k / 4096
  s.eng.ops.any fun o => o.agent == s.cur && o.writes.any fun w => levelOf w.1 == cls && item (w.1 % 2 ^ 60) == item off

/-- The checked offsets of a copy into a buffer or scale memory; it waits while the item is busy (R286, spec/17 R234). -/
def State.regDest (s : State) (cls : Nat) (base : W64) (n : Nat) (offs : List W64) : Res (List Nat) := do
  let os ← regOffsets cls base n offs
  if s.filling cls (os.headD 0) then .error .wait else pure os

/-- cpy, cpys and cpyo: every row from x[xs] to the destination (R287). -/
def State.copyPlain (s : State) (cls : Nat) (c h xs xd : BitVec 5) : Res State := do
  s.engineRoom
  let d ← s.copyDesc c false
  let src := rangesAt (s.x xs) (rowLen d) ((rowsOf d).map (·.1))
  let offs := (rowsOf d).map (·.2)
  if cls = 0 then s.copyIssue d h (some src) [] (rangesAt (s.x xd) (rowLen d) offs) .mem
  else do
    let os ← s.regDest cls (s.x xd) (rowLen d) offs
    s.copyIssue d h (some src) [] [] (.regs cls os)

/-- The index list of a gather or scatter, read at issue on the terms of the source: CNT1 unsigned 32-bit values, 4-byte
aligned. The rows whose index is poisoned come with it: what they deliver is poisoned (R285, R288). The order of spec/05 R62 holds
over the whole footprint: `fixed` are the parts that the list does not select, `parts` the source and destination that the indices
give; a list that cannot be read selects none (log 89). -/
def State.indexList (s : State) (d : BitVec 512) (a : W64) (fixed : List Part) (parts : List W64 → List Part) :
    Res (State × List W64 × List Nat) :=
  let n := countOf d 1
  match s.resolvePart {} [(a, 4 * n)] with
  | .error e => failTrap ((earlier (some (e.1, e.2, {})) (s.failsIn fixed)).getD (e.1, e.2, {}))
  | .ok ps => do
    let ts := touches ps
    let s1 := s.cache ps
    s1.afterParts false ts
    if s1.openSource ts then .error .wait
    else do
      let s2 := s1.flushStreams
      let (s3, bs) := s2.sourceBytes ts
      let idx := (chunks 4 n (bs.map (·.1))).map fun b => BitVec.ofNat 64 (leNat b)
      let bad := if bs.all (!·.2) then [] else (List.range n).filter fun i => ((bs.drop (4 * i)).take 4).any (·.2)
      if a.toNat % 4 = 0 then pure (s3, idx, bad)
      else match s3.failsIn (parts idx) with
        | some e => failTrap e
        | none => trap .align 1 a

/-- A block that an engine operation reads at issue: it waits for the parts and the open writes that stand on it, is not logged
and raises no RACE (spec/07 R90, R92); POISON as for a load. -/
def State.readBlock (s : State) (va : W64) (n align : Nat) : Res (State × List Byte) := do
  let (s1, ts) ← s.check {} [(va, n)] (misaligned va align)
  s1.afterParts false ts
  if s1.openSource ts then .error .wait
  else do
    let s2 := s1.flushStreams
    s2.poisonCheck ts
    let (s3, bs) := s2.sourceBytes ts
    pure (s3, bs.map (·.1))

/-- The bytes of rows, by position among the bytes that an operation moves. -/
def bytesOfRows (d : BitVec 512) (rows : List Nat) : List Nat :=
  rows.flatMap fun i => (List.range (rowLen d)).map fun k => i * rowLen d + k

/-- A row of a gather or scatter reads CNT0 elements; the outer counts are 1 (R288). -/
def twoDims (d : BitVec 512) : Bool := [2, 3, 4, 5].all fun k => countOf d k == 1

/-- cpyg (R288): row `i` of the destination from row `idx[i]` of the source. -/
def State.copyGather (s : State) (cls : Nat) (c h xs xd : BitVec 5) : Res State := do
  s.engineRoom
  let d ← s.copyDesc c false
  goodCopy (twoDims d)
  let offs := (List.range (countOf d 1)).map fun i => BitVec.ofNat 64 i * dstStride d 1
  let os ← if cls = 0 then pure [] else s.regDest cls (s.x xd) (rowLen d) offs
  let src := fun (idx : List W64) => rangesAt (s.x xs) (rowLen d) (idx.map fun i => i * srcStride d 1)
  let dst := if cls = 0 then rangesAt (s.x xd) (rowLen d) offs else []
  let (s1, idx, bad) ← s.indexList d (s.x (xs + 1)) [writePart dst] fun idx => [readPart (src idx), writePart dst]
  s1.copyIssue d h (some (src idx)) [] dst (if cls = 0 then .mem else .regs cls os) (bytesOfRows d bad)

/-- CDESC: 64 aligned bytes into a descriptor register (R282). -/
def execCdesc (c x : BitVec 5) (s : State) : Host.Outcome State Fault Refusal :=
  slot (.cdesc c x) (fun t => do
    let (u, bs) ← t.load [(t.x x, 64)] (misaligned (t.x x) 64)
    pure { u with core := { u.core with cd := u.core.cd.set c.toNat (BitVec.ofNat 512 (leNat bs)) } }) s

/-- CPY (R287). -/
def execCpy (c h x d : BitVec 5) (s : State) : Host.Outcome State Fault Refusal :=
  slot (.cpy c h x d) (fun t => t.copyPlain 0 c h x d) s

/-- CPYS: into a scale memory (R286, R287). -/
def execCpys (c h x d : BitVec 5) (s : State) : Host.Outcome State Fault Refusal :=
  slot (.cpys c h x d) (fun t => t.copyPlain 10 c h x d) s

/-- CPYO: into an operand buffer (R286, R287). -/
def execCpyo (c h x d : BitVec 5) (s : State) : Host.Outcome State Fault Refusal :=
  slot (.cpyo c h x d) (fun t => t.copyPlain 9 c h x d) s

/-- CPYG (R288). -/
def execCpyg (c h x d : BitVec 5) (s : State) : Host.Outcome State Fault Refusal :=
  slot (.cpyg c h x d) (fun t => t.copyGather 0 c h x d) s

/-- CPYG_OB: a gather into an operand buffer (R288). -/
def execCpygOb (c h x d : BitVec 5) (s : State) : Host.Outcome State Fault Refusal :=
  slot (.cpygOb c h x d) (fun t => t.copyGather 9 c h x d) s

/-- CPYX: row `i` of the source to row `idx[i]` of the destination; of rows that repeat, the highest `i` remains (R288). -/
def execCpyx (c h x e : BitVec 5) (s : State) : Host.Outcome State Fault Refusal :=
  slot (.cpyx c h x e) (fun t => do
    t.engineRoom
    let d ← t.copyDesc c false
    goodCopy (twoDims d)
    let src := rangesAt (t.x x) (rowLen d) ((List.range (countOf d 1)).map fun i => BitVec.ofNat 64 i * srcStride d 1)
    let dst := fun (idx : List W64) => rangesAt (t.x e) (rowLen d) (idx.map fun i => i * dstStride d 1)
    let (t1, idx, bad) ← t.indexList d (t.x (x + 1)) [readPart src] fun idx => [readPart src, writePart (dst idx)]
    t1.copyIssue d h (some src) [] (dst idx) .mem (bytesOfRows d bad)) s

/-- CPYB: to one U-pad offset of each target core of the cluster, all of which run a shot of this launch (R289). -/
def execCpyb (c h x e : BitVec 5) (s : State) : Host.Outcome State Fault Refusal :=
  slot (.cpyb c h x e) (fun t => do
    t.engineRoom
    let d ← t.copyDesc c true
    let ns := ((List.range 16).filter fun k => bmaskOf d / 2 ^ k % 2 == 1).map fun k => t.cur / 16 * 16 + k
    let runs := fun (n : Nat) =>
      let k := t.coreAt n
      (k.run == .running || k.run == .blocked) && k.shot.any fun sh => t.core.shot.any fun m => m.launch == sh.launch
    goodCopy (uBase ≤ (t.x e).toNat && bmaskOf d != 0 && !isControl t.cur && ns.all runs)
    let src := rangesAt (t.x x) (rowLen d) ((rowsOf d).map (·.1))
    t.copyIssue d h (some src) [] (rangesAt (t.x e) (rowLen d) ((rowsOf d).map (·.2))) (.cores ns)) s

/-- PFILL: every element is the low E bytes of x[xs] (R290). -/
def execPfill (c h x e : BitVec 5) (s : State) : Host.Outcome State Fault Refusal :=
  slot (.pfill c h x e) (fun t => do
    t.engineRoom
    let d ← t.copyDesc c false
    goodCopy (esizeOf d ≤ 8)
    let one := leBytes (esizeOf d) (t.x x).toNat
    let fill := (List.replicate (elementsOf d) one).flatten
    t.copyIssue d h none fill (rangesAt (t.x e) (rowLen d) ((rowsOf d).map (·.2))) .mem) s

/-! Completion (R279, spec/07 R100). -/

/-- The add of an operation that has completed applies when its take has committed, and is held for the commit
otherwise (spec/07 R100). -/
def State.releaseOpAdd (s : State) (o : EngineOp) : State :=
  let mine := fun (h : HeldAdd) => h.op == some o.id
  if o.committed then
    let s1 := { s with sync := { s.sync with held := s.sync.held.filter fun h => !mine h } }
    let src := if o.kind = .coll then dieAgent (dieOf o.agent) 8
      else if isControl o.agent then srcOf o.agent else srcOf o.agent + o.port + 1
    (s.sync.held.filter mine).foldl (fun t h => t.releaseHeld h src) s1
  else { s with sync := { s.sync with held := s.sync.held.map fun h => if mine h then { h with op := none } else h } }

/-- An operation of the same port that names the same counter was issued earlier and has not completed (spec/07 R100). -/
def State.behindOp (s : State) (o : EngineOp) : Bool :=
  s.eng.ops.any fun p => p.id < o.id && p.agent == o.agent && p.port == o.port && o.key.isSome && p.key == o.key

/-- An earlier operation of the agent has still to write a granule that the copy reads or writes, or to read one that it writes:
their parts are performed in program order (spec/07 R92, spec/11 R146). -/
def State.behindCopy (s : State) (o : EngineOp) : Bool :=
  let ws := dedup (o.writes.map fun w => granuleOf w.1)
  let rs := dedup (o.reads.map fun r => granuleOf r.1)
  s.eng.ops.any fun p => p.id < o.id && p.agent == o.agent &&
    (p.writes.any (fun w => ws.contains (granuleOf w.1) || rs.contains (granuleOf w.1)) ||
      p.reads.any fun r => ws.contains (granuleOf r.1))

/-- The bytes of a copy can be moved now (spec/07 R90, R92). -/
def State.mayMove (s : State) (o : EngineOp) : Bool := !s.sourceOpen o && !s.behindCopy o

/-- All the bytes of a core's copy move (R284, R285). -/
def State.moveCopy (s : State) (o : EngineOp) : State :=
  s.withCore o.agent fun t => (t.moveParts o fun _ => true).wroteWords o.wholeWords

/-- The add would enter an arrival log that is full: it stalls (spec/07 R104). -/
def State.logStalls (s : State) (k : Option Nat) : Bool := k.any fun key => (s.arrivalsOf key).any Arrivals.full

/-- A module agent's add is attempted once firmware has had its chance to extend a full log (spec/07 R104). -/
def State.makeRoom (s : State) (k : Option Nat) : State := match k with | some key => s.extendLog key | none => s

/-- The operation as it stands now, in place of the one with its number. -/
def State.setOp (s : State) (o : EngineOp) : State :=
  { s with eng := { s.eng with ops := s.eng.ops.map fun p => if p.id == o.id then o else p } }

/-- Bytes of a contribution element (spec/21 R299 CF). -/
def CStream.inBytes (c : CStream) : Nat := if c.inF32 then 4 else 2

/-- A collective or a put reads its source once no open write of another agent stands on it; the bytes are in hand from then on,
with the positions of the poisoned ones (R285, spec/07 R90). A put counts poison by element. -/
def State.takeSource (s : State) (o : EngineOp) : State × EngineOp :=
  if o.reads.isEmpty ∨ s.sourceOpen o then (s, o)
  else
    let (t, vals) := (s.focus o.agent).opBytes o
    let unit := if o.kind = .put then (Store.get CStream.none s.eng.streams o.stream).inBytes else 1
    let bad := dedup (((vals.zip (List.range vals.length)).filter fun e => e.1.2).map fun e => e.2 / unit)
    let o' := { o with reads := [], row := vals.map (·.1), bads := bad }
    ((t.focus s.cur).setOp o', o')

/-- The operation leaves the engine. -/
def State.dropOp (s : State) (id : Nat) : State :=
  { s with eng := { s.eng with ops := s.eng.ops.filter fun o => o.id != id } }

end Sys2Proof.Machine
end

