-- ==== Sys2Proof/Machine/Sync.lean ====
section
/-! DEFINITION. Counter slots (spec/21 R291, spec/07 R95-R99), atomics (spec/21 R292, spec/07 R102, R103) and the queue
append (spec/21 R293). -/

namespace Sys2Proof.Machine

/-! Counters. -/

/-- An add for the current take to the counter that `h` names (R291). -/
def State.counterAdd (s : State) (h : BitVec 5) (v : W64) : Res State := do
  let k ← s.needCounter (s.x h)
  s.holdAdd (s.x h) k v none

/-- The value of the counter that `h` names, as a wait, test or read finds it, and the state that has corrected it: POISON on a
poisoned counter (spec/27 R350, R351). -/
def State.counterValue (s : State) (h : BitVec 5) : Res (State × W64) := do
  let k ← s.needCounter (s.x h)
  need (!s.counterBad k) .poison 0 (s.x h)
  pure (s.settleCounter k, s.counter k)

/-- CADD. -/
def execCadd (h v : BitVec 5) (c : BitVec 3) (s : State) : Host.Outcome State Fault Refusal :=
  slot (.cadd h v c) (fun t => t.counterAdd h (t.x v)) s

/-- CADD of an immediate of 13 bits. -/
def execCaddImm (h i : BitVec 5) (c : BitVec 3) (j : BitVec 8) (s : State) : Host.Outcome State Fault Refusal :=
  slot (.caddImm h i c j) (fun t => t.counterAdd h ((i ++ j).setWidth 64)) s

/-- CWAIT: its bundle has begun a take; it blocks until the value is at least the target, unsigned. -/
def execCwait (h v : BitVec 5) (c : BitVec 3) (s : State) : Host.Outcome State Fault Refusal :=
  slot (.cwait h v c) (fun t => do
    let (u, n) ← t.counterValue h
    if (t.x v).toNat ≤ n.toNat then pure u else .error .wait) s

/-- CTEST: lane 0 of p[n]; in deterministic mode the supplied value stands for the counter's. -/
def execCtest (h v : BitVec 5) (c n : BitVec 3) (s : State) : Host.Outcome State Fault Refusal :=
  slot (.ctest h v c n) (fun t => do
    let (t1, a) ← t.counterValue h
    let (u, b) ← t1.timed a
    pure (u.setPLane0 n (decide ((t.x v).toNat ≤ b.toNat)))) s

/-- CREAD. -/
def execCread (h v : BitVec 5) (c : BitVec 3) (s : State) : Host.Outcome State Fault Refusal :=
  slot (.cread h v c) (fun t => do
    let (t1, a) ← t.counterValue h
    let (u, b) ← t1.timed a
    pure (u.setX v b)) s

/-! Atomics. -/

/-- Bytes that an atomic writes at their home: at once, whether watched or not (spec/07 R102). In a unit that the take has
rewritten whole in place of a poisoned one, the bytes are stored under the poison mark too, and go with that write at the
commit; a discard leaves them stored (R103). -/
def State.writeAtomic (s : State) (ws : List (Nat × Byte)) : State :=
  let held := ws.filter fun w => s.core.take.clean.contains (unitOf w.1)
  let now := ws.filter fun w => !s.core.take.clean.contains (unitOf w.1)
  let overlay := (now.foldl (fun o w => Store.set none o w.1 none) s.core.take.overlay)
  let s1 := { s with core := { s.core with take := { s.core.take with overlay := overlay } } }
  let s2 := (s1.writeCore now).storeWatched held
  { s2 with st := { s2.st with mem := held.foldl (fun m w => Store.set 0 m w.1 w.2) s2.st.mem } }

/-- The take has performed an atomic (spec/07 R103). -/
def State.tookAtomic (s : State) : State :=
  { s with core := { s.core with take := { s.core.take with atomic := true } } }

/-- The footprint of an atomic: checked as a write, watched as a write, not poisoned (R292). -/
def State.atomicTouch (s : State) (ea : W64) (n align : Nat) : Res (State × List Touch) := do
  let (s1, ts) ← s.check { write := true } [(ea, n)] (misaligned ea align)
  s1.afterParts true ts
  let s2 := s1.flushStreams
  let s3 ← s2.watchAll true ts
  s3.poisonCheck ts
  pure (s3.settle (ts.map (·.raw)), ts)

/-- The bytes of an atomic of a width code (R292). -/
def amoBytes (w : BitVec 2) : Nat := if w = 2 then 4 else 8

/-- The value as a signed number of its width. -/
def amoInt (w : BitVec 2) (v : W64) : Int := if w = 2 then (v.setWidth 32).toInt else v.toInt

/-- An atomic on the word at x[xa]: `f` takes the old word and b, both zero-extended, and gives the new one; the old word is
x[xd], sign-extended when `sx` (R292). In deterministic mode the value for xd comes from the supply latch. -/
def State.amoSlot (s : State) (d a b : BitVec 5) (w : BitVec 2) (sx cas : Bool) (f : W64 → W64 → W64) : Res State := do
  let n := amoBytes w
  let low := fun (v : W64) => if w = 2 then (v.setWidth 32).setWidth 64 else v
  let (s1, ts) ← s.atomicTouch (s.x a) n n
  let old := BitVec.ofNat 64 (leNat (ts.map fun t => s1.byte t.raw))
  let res := if w = 2 ∧ sx then (old.setWidth 32).signExtend 64 else old
  let (s2, v) ← if cas || d != 0 then s1.timed res else pure (s1, res)
  pure (((s2.writeAtomic (writesOf ts (leBytes n (f old (low (s.x b))).toNat))).tookAtomic).setX d v)

/-- AMO_ADD. -/
def execAmoAdd (d a b : BitVec 5) (w c : BitVec 2) (s : State) : Host.Outcome State Fault Refusal :=
  slot (.amoAdd d a b w c) (fun t => t.amoSlot d a b w false false fun m v => m + v) s

/-- AMO_MIN, signed. -/
def execAmoMin (d a b : BitVec 5) (w c : BitVec 2) (s : State) : Host.Outcome State Fault Refusal :=
  slot (.amoMin d a b w c) (fun t => t.amoSlot d a b w true false fun m v => if amoInt w v < amoInt w m then v else m) s

/-- AMO_MAX, signed. -/
def execAmoMax (d a b : BitVec 5) (w c : BitVec 2) (s : State) : Host.Outcome State Fault Refusal :=
  slot (.amoMax d a b w c) (fun t => t.amoSlot d a b w true false fun m v => if amoInt w m < amoInt w v then v else m) s

/-- AMO_AND. -/
def execAmoAnd (d a b : BitVec 5) (w c : BitVec 2) (s : State) : Host.Outcome State Fault Refusal :=
  slot (.amoAnd d a b w c) (fun t => t.amoSlot d a b w false false fun m v => m &&& v) s

/-- AMO_OR. -/
def execAmoOr (d a b : BitVec 5) (w c : BitVec 2) (s : State) : Host.Outcome State Fault Refusal :=
  slot (.amoOr d a b w c) (fun t => t.amoSlot d a b w false false fun m v => m ||| v) s

/-- AMO_XOR. -/
def execAmoXor (d a b : BitVec 5) (w c : BitVec 2) (s : State) : Host.Outcome State Fault Refusal :=
  slot (.amoXor d a b w c) (fun t => t.amoSlot d a b w false false fun m v => m ^^^ v) s

/-- AMO_XCHG. -/
def execAmoXchg (d a b : BitVec 5) (w c : BitVec 2) (s : State) : Host.Outcome State Fault Refusal :=
  slot (.amoXchg d a b w c) (fun t => t.amoSlot d a b w false false fun _ v => v) s

/-- AMOCAS: x[xd] holds the expected value. -/
def execAmocas (d a b : BitVec 5) (w c : BitVec 2) (s : State) : Host.Outcome State Fault Refusal :=
  slot (.amocas d a b w c) (fun t =>
    let want := if w = 2 then ((t.x d).setWidth 32).setWidth 64 else t.x d
    t.amoSlot d a b w false true fun m v => if m = want then v else m) s

/-! Queue append (R293). -/

/-- A number in bytes `i` to `i + n - 1` of a list. -/
def leAt (bs : List Byte) (i n : Nat) : Nat := leNat ((bs.drop i).take n)

/-- The lap byte of index `w` in a ring of 2^lg slots. -/
def lapByte (w : W64) (lg : Nat) : Byte := BitVec.ofNat 8 (1 + w.toNat / 2 ^ lg)

/-- The 64 bytes that an append writes: bytes 0-62 of the packet, then the lap byte. -/
def packetBytes (v : Lanes) (w : W64) (lg : Nat) : List Byte :=
  (((List.range 16).flatMap fun i => leBytes 4 (v[i]?.getD 0).toNat).take 63) ++ [lapByte w lg]

/-- QAPP: the claim is an atomic on the header; the slot is written with the lap byte last (R293). -/
def State.append (s : State) (h v n : BitVec 5) : Res State := do
  let (s1, ts) ← s.atomicTouch (s.x h) 64 64
  let hd := ts.map fun t => s1.byte t.raw
  let w := BitVec.ofNat 64 (leAt hd 0 8)
  let r := BitVec.ofNat 64 (leAt hd 8 8)
  let ring := BitVec.ofNat 64 (leAt hd 16 8)
  let lg := leAt hd 24 1 % 32
  if lg < 4 ∨ 16 < lg then pure (s1.tookAtomic.setX v 0xFFFFFFFFFFFFFFFE#64)
  else do
    let ps ← s1.checkRanges { write := true } [(ring, 64 * 2 ^ lg)] (misaligned ring 64)
    let s2 := s1.cache ps
    if 2 ^ lg ≤ (w - r).toNat then pure (s2.tookAtomic.setX v 0xFFFFFFFFFFFFFFFF#64)
    else do
      let (s3, us) ← s2.check { write := true } [(ring + BitVec.ofNat 64 (64 * (w.toNat % 2 ^ lg)), 64)] none
      s3.afterParts true us
      let s4 ← s3.watchAll true us
      let s5 := s4.writeAtomic (writesOf ts (leBytes 8 (w + 1).toNat))
      let s6 := s5.writeAtomic (writesOf us (packetBytes (s.v n.toNat) w lg))
      pure (s6.tookAtomic.setX v w)

/-- QAPP. -/
def execQapp (h v : BitVec 5) (c : BitVec 3) (n : BitVec 5) (s : State) : Host.Outcome State Fault Refusal :=
  slot (.qapp h v c n) (fun t => t.append h v n) s

end Sys2Proof.Machine
end

