-- ==== Sys2Proof/Machine/Outside.lean ====
section
/-! DEFINITION. Accesses of the module's agents that belong to no take: dispatcher, firmware on behalf of a context, combine
buffer, collective engine, host transport (spec/07 R91). They translate through the context's tables and see its
scratchpad attributes, and they reach no U-pad and no C-pad. -/

namespace Sys2Proof.Machine

/-- The raw address that a D-pad window address names for a context; none is NOPAD (spec/05 R49). -/
def State.padRawFor (s : State) (c : Context) (va : W64) : Option Nat :=
  let a := va.toNat
  let o := a - padBase
  let k := o / 0x10000000
  let (d0, n) := s.dies c
  let r := o % 0x10000000
  if a < cBase ∧ k < n ∧ r + Store.get 0 s.st.cbMiB (d0 + k) * 0x100000 < 0x10000000 then some (dPad (d0 + k) r) else none

/-- The checks of R62 of one address for a context. -/
def State.resolveFor (s : State) (asid : Nat) (acc : Acc) (va : W64) : Except Fail (Nat × Bool × Option Tlb) :=
  let c := s.context asid
  if !canonical va then .error Fail.nonCanon
  else if padBase ≤ va.toNat then
    match s.padRawFor c va with
    | none => .error Fail.noPad
    | some raw =>
      let b := Store.get 0 c.pads ((va.toNat - padBase) / 65536)
      if b % 2 = 0 then .error Fail.grant
      else if acc.write ∧ b / 2 % 2 = 0 then .error Fail.write
      else .ok (raw, decide (b / 4 % 2 = 1), none)
  else
    match s.walk asid va with
    | .error f => .error f
    | .ok t =>
      match s.place c (t.frame + (va.toNat - t.base)) with
      | none => .error Fail.badPa
      | some raw =>
        if t.h ∧ !t.own then .error Fail.hostOwned
        else if acc.write ∧ !t.w then .error Fail.write
        else .ok (raw, t.wa && c.feat.getLsbD 3, none)

/-- The bytes of ranges, resolved for a context, or the failure. -/
def State.touchesFor (s : State) (asid : Nat) (acc : Acc) (rs : List (W64 × Nat)) : Except (Fail × W64) (List Touch) :=
  (partWith (s.resolveFor asid acc) rs).map touches

/-- A write that belongs to no take waits while a watched line of it holds any open slot (spec/07 R91). -/
def State.writeWaits (s : State) (ts : List Touch) : Bool := ts.any fun t => t.watched && s.openSlot (lineOf t.raw)

/-- A read that belongs to no take waits while a watched line of it holds an open write (spec/07 R91). -/
def State.readWaits (s : State) (ts : List Touch) : Bool :=
  ts.any fun t => t.watched && (s.watchOf (lineOf t.raw)).writer.isSome

/-- Bytes read for no take, each with whether its unit is poisoned; a poisoned byte is free. -/
def State.readOut (s : State) (ts : List Touch) : State × List (Byte × Bool) :=
  let s1 := s.settle (ts.map (·.raw))
  (s1, ts.map fun t =>
    if s1.poisoned t.raw then (BitVec.ofNat 8 (s1.free t.raw), true) else (s1.stored t.raw, false))

/-- The walks for byte ranges of a context meet the errors of its tables (spec/27 R350, R353). -/
def State.meetTables (s : State) (asid : Nat) (rs : List (W64 × Nat)) : State :=
  s.meetWalks asid ((rs.flatMap fun r => pagePieces r.1 r.2).map (·.1))

/-- A read of `n` bytes for a context meets the errors of its tables and of what it reads (spec/27 R350, R351, R353). -/
def State.meetFor (s : State) (asid : Nat) (va : W64) (n : Nat) : State :=
  let t := s.meetTables asid [(va, n)]
  match t.touchesFor asid {} [(va, n)] with | .error _ => t | .ok ts => (t.readOut ts).1

/-- Bytes written by an engine for no take: published at once, poison delivered, every scratchpad granule FULL
(spec/05 R53, R55, spec/07 R91, spec/27 R351). -/
def State.writeOut (s : State) (ts : List Touch) (vs : List (Byte × Bool)) : State :=
  let s1 := s.writeBytes (writesOf ts (vs.map (·.1)))
  let s2 := (dedup (((ts.zip vs).filter (·.2.2)).map fun p => unitOf p.1.raw)).foldl State.markPoison s1
  (granulesOf (ts.filter fun t => levelOf t.raw < 3)).foldl State.setFull s2

/-- Bytes written by firmware or the host for no take; presence bits stay. -/
def State.writePlain (s : State) (ts : List Touch) (bs : List Byte) : State := s.writeBytes (writesOf ts bs)

/-- A byte with no poison. -/
def clean (b : Byte) : Byte × Bool := (b, false)

end Sys2Proof.Machine
end

