-- ==== Sys2Proof/Machine/Combine.lean ====
section
/-! DEFINITION. The combine buffer: stream handles (spec/21 R298), configuration (R299, R300), allocation (R301), deposits
(R302), release (R303, R304), deadlines (R305), cbdrop (R306) and statistics (R307). -/

namespace Sys2Proof.Machine

/-! Streams. -/

/-- The stream that bits 15:0 of a handle name, as 16 × die + stream; none is NOSTREAM (R298). -/
def State.streamKey (s : State) (h : W64) : Option Nat :=
  let (d0, n) := s.dies s.ctx
  if field h 63 16 = 0 ∧ field h 12 4 = 0 ∧ field h 15 13 < n then some (16 * (d0 + field h 15 13) + field h 3 0) else none

/-- A stream. -/
def State.cstream (s : State) (k : Nat) : CStream := Store.get CStream.none s.eng.streams k

/-- The state with a stream changed. -/
def State.setCstream (s : State) (k : Nat) (c : CStream) : State :=
  { s with eng := { s.eng with streams := Store.set CStream.none s.eng.streams k c } }

/-- A handle that may name a stream not configured (R298, R300). -/
def State.anyStream (s : State) (h : W64) : Res Nat :=
  match s.streamKey h with
  | some k => .ok k
  | none => trap .cbmiss 4

/-- A handle of a configured stream, or CBMISS NOSTREAM (R298). -/
def State.needStream (s : State) (h : W64) : Res Nat := do
  let k ← s.anyStream h
  need (s.cstream k).configured .cbmiss 4
  pure k

/-- The live slots, by number. -/
def CStream.live (c : CStream) : List (Nat × CSlot) := c.slots.filterMap fun e => e.2.map fun x => (e.1, x)

/-- The live slot of a token. -/
def CStream.slotOf (c : CStream) (token : Nat) : Option (Nat × CSlot) := c.live.find? fun e => e.2.token == token

/-- The stream with a slot changed. -/
def CStream.setSlot (c : CStream) (k : Nat) (x : Option CSlot) : CStream := { c with slots := Store.set Option.none c.slots k x }

/-- Bytes of an output element (OF). -/
def CStream.outBytes (c : CStream) : Nat := if c.outBf16 then 2 else 4

/-! The storage (spec/27 R347, R351). R299 states no layout: each granule holds 16 bytes of one row, which row is free (log 67). -/

/-- The word lies in the part of a D-pad that is combine buffer (R299). -/
def State.isCombine (s : State) (raw : Nat) : Bool :=
  levelOf raw == 2 && decide (0x10000000 ≤ offsetOf raw + Store.get 0 s.st.cbMiB (raw / 2 ^ 57 % 8) * 0x100000)

/-- The stream, slot and position whose row has bytes in the granule of a raw address, and the first of them. -/
def combineAt (raw : Nat) : Nat × Nat × Nat × Nat :=
  let (k, i, j, b) := Config.combineWord (unitOf raw)
  (raw / 2 ^ 57 % 8 * 16 + k % 16, i, j, b / 16 * 16)

/-- The row that a word holds 8 bytes of takes them as they are stored. -/
def State.rowFromWord (s : State) (w : Nat) : State :=
  let (k, i, j, b) := combineAt w
  let st := s.cstream k
  match Store.get none st.slots i with
  | none => s
  | some c =>
    let take := fun (row : List Byte) =>
      (row.take (b + w % 16) ++ Store.getList 0 s.st.mem w 8 ++ row.drop (b + w % 16 + 8)).take row.length
    s.setCstream k (st.setSlot i (some { c with rows := c.rows.map fun r => if r.1 == j then (r.1, take r.2) else r }))

/-- A pad word is read and its error met; one of the combine buffer that is miscorrected changes its row (R347). -/
def State.settlePad (s : State) (w : Nat) : State :=
  let t := s.settleWord w
  if s.isCombine w ∧ 2 < s.flaws w ∧ !s.uncorrectable w then t.rowFromWord w else t

/-- The rows of a slot are read: the errors in their words are met (R347, R351, R353). -/
def State.meetRows (s : State) (k i : Nat) : State :=
  ((s.st.flaws.map (·.1)).filter fun w => s.isCombine w && (combineAt w).1 == k && (combineAt w).2.1 == i).foldl State.settlePad s

/-- The elements of a slot's rows, by position and number, that lie in poisoned granules. -/
def State.spoiled (s : State) (k i : Nat) : List (Nat × Nat) :=
  let size := (s.cstream k).inBytes
  ((s.st.poison.map (·.1)).filter fun u => s.isCombine u && (combineAt u).1 == k && (combineAt u).2.1 == i).flatMap fun u =>
    (List.range (16 / size)).map fun e => ((combineAt u).2.2.1, (combineAt u).2.2.2 / size + e)

/-- A row is written whole: its words are fresh code words and its granules lose their poison (R350, R351). -/
def State.freshRow (s : State) (k i j : Nat) : State :=
  let old := fun (w : Nat) => s.isCombine w && (combineAt w).1 == k && (combineAt w).2.1 == i && (combineAt w).2.2.1 == j
  { s with st := { s.st with flaws := s.st.flaws.filter fun e => !old e.1, syns := s.st.syns.filter fun e => !old e.1,
                             poison := s.st.poison.filter fun e => !old e.1 } }

/-! Configuration (R299, R300). -/

/-- The stream that a configuration block describes, reset. -/
def streamOf (t : BitVec 512) (asid launch : Nat) (counter : Option Nat) : CStream :=
  { CStream.none with
    configured := true, asid := asid, launch := launch, counter := counter, rlen := field t 175 168, rofs := field t 167 160,
    timeout := field t 159 128, rlg := field t 116 112, sub := field t 105 104, tmodeStep := t.getLsbD 103,
    tokenOrder := t.getLsbD 102, outBf16 := t.getLsbD 101, inF32 := t.getLsbD 100, k := field t 99 96, d := field t 94 80,
    s := field t 79 64, ring := t.extractLsb' 0 64 }

/-- No field of a configuration block is BADCFG (R300). -/
def configGood (t : BitVec 512) (det : Bool) : Bool :=
  let c := streamOf t 0 0 none
  field t 511 176 == 0 && field t 127 117 == 0 && field t 111 106 == 0 && !t.getLsbD 95 &&
  1 ≤ c.rlen && c.rlen ≤ 96 && c.rlg ≤ 16 && c.sub != 3 && 1 ≤ c.k && c.k ≤ 8 &&
  c.d % 64 == 0 && 64 ≤ c.d && c.d ≤ 16384 && c.ring.toNat % 64 == 0 &&
  !(det && (!c.tokenOrder || (!c.tmodeStep && c.timeout != 0)))

/-- The region passes the end of the die's combine buffer or meets that of another configured stream (R300). -/
def State.regionBad (s : State) (k : Nat) (c : CStream) : Bool :=
  Store.get 0 s.st.cbMiB (k / 16) < c.rofs + c.rlen ||
  (List.range 16).any fun j =>
    let o := s.cstream (k / 16 * 16 + j)
    j != k % 16 && o.configured && c.rofs < o.rofs + o.rlen && o.rofs < c.rofs + c.rlen

/-- Configures stream `k` from a block (R300). It takes effect when it issues. -/
def State.configure (s : State) (k : Nat) (h : BitVec 5) (t : BitVec 512) : Res State := do
  need (s.cstream k).live.isEmpty .cbfit 4
  if field t 79 64 = 0 then pure (s.setCstream k CStream.none)
  else do
    let key ← if h = 0 then pure none else (s.needCounter (s.x h)).map some
    let c := streamOf t s.asid ((s.core.shot.map (·.launch)).getD (2 ^ 64)) key
    need (configGood t s.det) .cbfit 3
    need (!s.regionBad k c) .cbfit 2
    need (c.s * (128 + c.k * c.d * c.inBytes) ≤ c.rlen * 2 ^ 20) .cbfit 1
    pure (s.setCstream k c)

/-- CBCFG. -/
def execCbcfg (h a d : BitVec 5) (s : State) : Host.Outcome State Fault Refusal :=
  slot (.cbcfg h a d) (fun t => do
    t.engineRoom
    let k ← t.anyStream (t.x d)
    let (u, bs) ← t.readBlock (t.x a) 64 64
    u.configure k h (BitVec.ofNat 512 (leNat bs))) s

/-! Leaving a stream (R304-R306). -/

/-- The slot frees; its token joins the last S departures (R304). -/
def State.leaveStream (s : State) (k slotNo : Nat) (c : CSlot) : State :=
  let st := s.cstream k
  let r := st.recent ++ [c.token]
  s.setCstream k { st.setSlot slotNo none with recent := r.drop (r.length - st.s) }

/-- An event that belongs to no take (spec/25 R337). -/
def State.addEvent (s : State) (c : Cause) (launch asid die : Nat) (w0 w1 : W64) : State :=
  { s with sched := { s.sched with events := s.sched.events ++
      [{ cause := c, launch := launch, asid := asid, die := die, w0 := w0, w1 := w1, waits := none, given := false }] } }

/-- CBTIME of a slot: word 0 the handle and the arrival bitmap, word 1 the token, bit 63 a ring failure (R304, R305). -/
def State.timeEvent (s : State) (k : Nat) (c : CSlot) (ring : Bool) : State :=
  let st := s.cstream k
  let h := (k / 16 - (s.dies (s.context st.asid)).1) * 2 ^ 13 + k % 16
  s.addEvent .cbtime st.launch st.asid (k / 16) (BitVec.ofNat 64 (c.arrived % 256 * 2 ^ 16 + h))
    (BitVec.ofNat 64 (c.token + if ring then 2 ^ 63 else 0))

/-! Release (R303, R304). -/

/-- Position `j` has arrived. -/
def CSlot.present (c : CSlot) (j : Nat) : Bool := c.arrived / 2 ^ j % 2 == 1

/-- The gate weights in position order. -/
def CSlot.weights (c : CSlot) : List W32 := c.pairs.map (·.2)

/-- The f32 sum of weights from +0, in order. -/
def sumWeights (ws : List W32) : W32 := ws.foldl (fun a g => (f32Add a g).1) 0

/-- The factor of RENORM; none when no rescale is made (R303). -/
def CSlot.factor (c : CSlot) (st : CStream) : Option W32 :=
  let pres := (List.range st.k).filter c.present
  let p := sumWeights (pres.map fun j => c.weights.getD j 0)
  if st.sub = 1 ∧ pres.length < st.k ∧ p &&& 0x7FFFFFFF#32 ≠ 0 then some (f32Div (sumWeights c.weights) p) else none

/-- The f32 values of a contribution row. -/
def CStream.rowValues (st : CStream) (bs : List Byte) : List W32 :=
  (chunks st.inBytes st.d bs).map fun b =>
    if st.inF32 then BitVec.ofNat 32 (leNat b) else widen bf16 (leNat b)

/-- The sum of the present rows, element by element in ascending position, one rounding each (R303). -/
def CSlot.sum (c : CSlot) (st : CStream) : List W32 :=
  let f := c.factor st
  ((List.range st.k).filter c.present).foldl (init := List.replicate st.d 0) fun acc j =>
    let w := c.weights.getD j 0
    let g := match f with | some x => (f32Mul w x).1 | none => w
    let y := st.rowValues (((c.rows.find? (·.1 == j)).map (·.2)).getD [])
    List.zipWith (fun a v => (f32Fma g v a).1) acc y

/-- An output element in OF. -/
def CStream.outElem (st : CStream) (v : W32) : List Byte :=
  if st.outBf16 then leBytes 2 (bf16.convert true .rne 0 (ofF32 v)).1 else leBytes 4 v.toNat

/-- The ring entry of release `n`, each byte with whether a poisoned element reaches it (R304, spec/27 R351). -/
def CSlot.entry (c : CSlot) (st : CStream) (n : Nat) : List (Byte × Bool) :=
  let missing := (2 ^ st.k - 1) - c.arrived % 2 ^ st.k
  let status := n % 2 ^ 16 * 2 ^ 16 + (if c.late then 2 ^ 8 else 0) + missing
  let head := (leBytes 4 status ++ leBytes 4 c.token ++ List.replicate 56 0).map clean
  let bad := fun (e : Nat) => c.bad.any fun b => b.2 == e && c.present b.1
  head ++ ((c.sum st).zip (List.range st.d)).flatMap fun v => (st.outElem v.1).map fun b => (b, bad v.2)

/-- The release of a complete slot, which reads its rows; none while it waits: a watched line of its ring entry holds an open slot, or its
counter's arrival log is full (R304, spec/07 R91, R104). -/
def State.releaseSlot (s : State) (k slotNo : Nat) (c : CSlot) : Option State :=
  let st := s.cstream k
  let size := 64 + st.d * st.outBytes
  let va := st.ring + BitVec.ofNat 64 (st.released % 2 ^ st.rlg * size)
  match s.touchesFor st.asid { write := true } [(va, size)] with
  | .error _ => some ((s.leaveStream k slotNo c).timeEvent k c true)
  | .ok ts =>
    if s.writeWaits ts || s.logStalls st.counter then none
    else
      let s0 := s.meetRows k slotNo
      let c0 := (Store.get none (s0.cstream k).slots slotNo).getD c
      let s1 := s0.writeOut ts ({ c0 with bad := c0.bad ++ s0.spoiled k slotNo }.entry st st.released)
      let s2 := (s1.setCstream k { st with released := st.released + 1 }).leaveStream k slotNo c
      some (match st.counter with
        | some key => s2.outsideAdd key 1 (dieAgent (k / 16) 7)
        | none => s2)

/-- The slot that may be released, if there is one: in token order the oldest live one, else the first of those that are complete to
have become so (R303). -/
def CStream.ready (st : CStream) : List (Nat × CSlot) :=
  let oldest := fun (c : CSlot) => st.live.all fun e => c.seq ≤ e.2.seq
  let first := fun (c : CSlot) => st.live.all fun e => !e.2.complete || c.turn ≤ e.2.turn
  st.live.filter fun e => e.2.complete && if st.tokenOrder then oldest e.2 else first e.2

/-- The stream with a live slot changed; one that becomes complete by it is the latest to have done so (R303). -/
def CStream.updated (st : CStream) (i : Nat) (old new : CSlot) : CStream :=
  if new.complete && !old.complete then
    { st.setSlot i (some { new with turn := st.completed }) with completed := st.completed + 1 }
  else st.setSlot i (some new)

/-- Releases what may be released, at most `n` slots. -/
def State.drainStream (k : Nat) : Nat → State → State
  | 0, s => s
  | n + 1, s =>
    match (s.cstream k).ready.findSome? fun e => s.releaseSlot k e.1 e.2 with
    | none => s
    | some t => t.drainStream k n

/-- Releases every slot of a stream that may be released (R303). -/
def State.drain (s : State) (k : Nat) : State := (s.makeRoom (s.cstream k).counter).drainStream k (s.cstream k).live.length

/-! Allocation (R301). -/

/-- A pair in its place by ascending expert. -/
def insertPair (p : Nat × W32) : List (Nat × W32) → List (Nat × W32)
  | [] => [p]
  | q :: l => if p.1 ≤ q.1 then p :: q :: l else q :: insertPair p l

/-- The sorted pairs of an allocation record. -/
def pairsIn (v : Lanes) (k : Nat) : List (Nat × W32) :=
  ((List.range k).map fun j => ((v[j + 1]?.getD 0).toNat % 2 ^ 16, v[j + 9]?.getD 0)).foldr insertPair []

/-- Two neighbours share an expert. -/
def sharesExpert : List (Nat × W32) → Bool
  | a :: b :: l => a.1 == b.1 || sharesExpert (b :: l)
  | _ => false

/-- The slot is free. -/
def CStream.isFree (st : CStream) (i : Nat) : Bool := (Store.get Option.none st.slots i).isNone

/-- The first free slot of the `n` slots from `i` on, going round at S. -/
def CStream.freeFrom (st : CStream) : Nat → Nat → Option Nat
  | 0, _ => Option.none
  | n + 1, i =>
    if st.isFree (i % st.s) then some (i % st.s) else st.freeFrom n (i + 1)

/-- The slot that an allocation in deterministic mode takes, none where none is free: the one freed by the latest cbdrop, else one not
yet used, else the one allocated longest ago, which is the first to be released. When each release comes has no part in it
(R301, R303, spec/03 R48; log 65). -/
def CStream.nextInTurn (st : CStream) : Option Nat :=
  let turn := match st.dropped with
    | i :: _ => some i
    | [] => if st.used.length < st.s then some ((Config.slotBase + st.used.length) % st.s) else st.used.head?
  match turn.filter fun i => decide (i < st.s) && st.isFree i with
  | some i => some i
  | Option.none => st.freeFrom st.s Config.slotBase

/-- The free slot that an allocation takes: one in turn in deterministic mode, else a free choice (R301; log 65). -/
def State.freeSlot (s : State) (st : CStream) : Option Nat :=
  if s.det then st.nextInTurn else st.freeFrom st.s (s.free 0)

/-- The slot is allocated: it is the latest used. -/
def CStream.takeSlot (st : CStream) (i : Nat) : CStream :=
  { st with used := st.used.filter (· != i) ++ [i], dropped := st.dropped.filter (· != i) }

/-- The slot is freed by a cbdrop: it is the next in turn (R306). -/
def CStream.dropSlot (st : CStream) (i : Nat) : CStream :=
  { st with used := st.used.filter (· != i), dropped := i :: st.dropped, drops := st.drops + 1 }

/-- The home's answer to an allocation: a live token's slot, a new slot, or none when no slot is free (R301). Which free
slot is taken is free. -/
def State.allocate (s : State) (k : Nat) (v : Lanes) : Res (State × Option Nat) :=
  let st := s.cstream k
  let token := (v[0]?.getD 0).toNat
  let pairs := pairsIn v st.k
  if sharesExpert pairs then trap .cbdup 2
  else match st.slotOf token with
    | some (i, c) => if c.pairs = pairs then .ok (s, some i) else trap .cbdup 1
    | none =>
      match s.freeSlot st with
      | none => .ok (s, none)
      | some i =>
        let now := if st.tmodeStep then s.mod.step.toNat else s.mod.clk.toNat
        let c : CSlot := { token := token, pairs := pairs, arrived := 0, putBy := [], rows := [], bad := [],
                           seq := st.nextSeq, uid := s.eng.next, deadline := if st.timeout = 0 then none else some (now + st.timeout),
                           complete := false, turn := 0, late := false }
        let s1 := { s with eng := { s.eng with next := s.eng.next + 1 } }
        let st' := { (st.takeSlot i).setSlot i (some c) with nextSeq := st.nextSeq + 1, recent := st.recent.filter (· != token) }
        .ok (s1.setCstream k st', some i)

/-- CBAL: begins a take; it waits while no slot is free. -/
def execCbal (h v n : BitVec 5) (s : State) : Host.Outcome State Fault Refusal :=
  slot (.cbal h v n) (fun t => do
    let k ← t.needStream (t.x h)
    let (u, i) ← t.allocate k (t.v n.toNat)
    match i with
    | some i => pure (u.setX v (BitVec.ofNat 64 i))
    | none => .error .wait) s

/-- CBAL_NB. -/
def execCbalNb (h v : BitVec 5) (p : BitVec 3) (n : BitVec 5) (s : State) : Host.Outcome State Fault Refusal :=
  slot (.cbalNb h v p n) (fun t => do
    let k ← t.needStream (t.x h)
    let (u, i) ← t.allocate k (t.v n.toNat)
    match i with
    | some i => pure ((u.setX v (BitVec.ofNat 64 i)).setPLane0 p true)
    | none => pure ((u.setX v 0xFFFFFFFFFFFFFFFF#64).setPLane0 p false)) s

/-! Deposits (R302). -/

/-- What the home decides of a put: late; or slot, position, and whether it sets the arrival bit. -/
inductive Put where
  | late
  | deposit (slot pos uid : Nat) (fresh : Bool)
  deriving DecidableEq, Repr

/-- The home's decision (R302). -/
def State.decidePut (s : State) (k token expert : Nat) : Res Put :=
  let st := s.cstream k
  match st.slotOf token with
  | some (i, c) =>
    match c.pairs.findIdx? (·.1 == expert) with
    | none => trap .cbmiss 2
    | some j =>
      match c.putBy.find? (·.1 == j) with
      | none => .ok (.deposit i j c.uid true)
      | some b => if b.2 = s.cur then .ok (.deposit i j c.uid false) else trap .cbdup 3
  | none => if st.recent.contains token then .ok .late else trap .cbmiss 1

/-- A late put: LATE counts it (R302). -/
def State.countLate (s : State) (k : Nat) : State :=
  let st := s.cstream k
  s.setCstream k { st with late := st.late + 1 }

/-- An operation that has completed leaves the engine, and its add is released (spec/07 R100). -/
def State.completeOp (s : State) (o : EngineOp) : State := (s.releaseOpAdd o).dropOp o.id

/-- The put is accepted: position `pos` of the slot is held by this agent. -/
def State.holdPut (s : State) (k slotNo pos : Nat) : State :=
  let st := s.cstream k
  match Store.get none st.slots slotNo with
  | none => s
  | some c => s.setCstream k (st.setSlot slotNo (some { c with putBy := c.putBy ++ [(pos, s.cur)] }))

/-- CBPUT. -/
def execCbput (c h a d : BitVec 5) (s : State) : Host.Outcome State Fault Refusal :=
  slot (.cbput c h a d) (fun t => do
    t.engineRoom
    let w := t.x d
    let k ← t.needStream (w &&& 0xFFFF)
    let desc ← t.copyDesc c false
    let (t1, ta, _) ← t.checkParts (rangesAt (t.x a) (rowLen desc) ((rowsOf desc).map (·.1))) []
    t1.afterParts false ta
    do
      let st := t1.cstream k
      need (bytesOf desc == st.d * st.inBytes) .cbmiss 3
      let put ← t1.decidePut k (field w 63 32) (field w 31 16)
      let (t2, key) ← t1.holdOp h (BitVec.ofNat 64 (bytesOf desc))
      let t3 := t2.flushStreams
      let o := { t3.newOp .put desc key (BitVec.ofNat 64 (bytesOf desc)) with
                   step := BitVec.ofNat 64 (field w 63 32), stream := k, reads := partsOf ta }
      match put with
      | .late =>
        let o' := { o with late := true }
        let t4 := (t3.countLate k).addOp o'
        pure (if t4.behindOp o' then t4 else t4.completeOp o')
      | .deposit i j q fresh =>
        let t4 := if fresh then t3.holdPut k i j else t3
        let o' := { o with slot := i, pos := j, dsts := [q], fresh := fresh }
        pure ((t4.addOp o').takeSource o').1) s

/-- The row of a put reaches its slot: contribution `pos` is replaced, and the arrival bit is set by the put that holds the
position (R302, R303). -/
def CSlot.deposit (c : CSlot) (o : EngineOp) (k : Nat) : CSlot :=
  let arr := if o.fresh && !c.present o.pos then c.arrived + 2 ^ o.pos else c.arrived
  { c with rows := c.rows.filter (·.1 != o.pos) ++ [(o.pos, o.row)]
           bad := c.bad.filter (·.1 != o.pos) ++ o.bads.map fun e => (o.pos, e)
           arrived := arr, complete := c.complete || arr == 2 ^ k - 1 }

/-- The time by which deadlines of a stream are measured. -/
def State.nowFor (s : State) (st : CStream) : Nat := if st.tmodeStep then s.mod.step.toNat else s.mod.clk.toNat

/-- The deadline of a slot has come: a complete slot has none (R305). -/
def CSlot.overdue (c : CSlot) (now : Nat) : Bool := !c.complete && c.deadline.any fun d => decide (d ≤ now)

/-- The last byte of a put is deposited, or the put is dropped and counted late (R302). -/
def State.depositPut (s : State) (o : EngineOp) : State :=
  if o.late then s.completeOp o
  else
    let st := s.cstream o.stream
    match Store.get none st.slots o.slot with
    | none => (s.countLate o.stream).completeOp o
    | some c =>
      if o.dsts ≠ [c.uid] ∨ c.overdue (s.nowFor st) ∨ c.late then (s.countLate o.stream).completeOp o
      else (((s.setCstream o.stream (st.updated o.slot c (c.deposit o st.k))).freshRow o.stream o.slot o.pos).completeOp o).drain o.stream

/-- CBPUT_DEPOSIT: a put in flight completes, in the order of spec/07 R100, once its row has been read (spec/07 R90). -/
def execCbputDeposit (op : Nat) (s : State) : Host.Outcome State Fault Refusal :=
  .next (match s.eng.ops.find? fun o => o.id == op && o.kind == .put with
    | none => s
    | some o =>
      let (t, p) := (s.makeRoom o.key).takeSource o
      if t.behindOp p || t.logStalls p.key || !(p.late || p.reads.isEmpty) then t
      else (t.depositPut p).noted t p.agent (t.heldBefore p))

/-! Deadlines, cbdrop, statistics. -/

/-- The deadline of a slot passes (R305). -/
def State.passDeadline (s : State) (k slotNo : Nat) : State :=
  let st := s.cstream k
  match Store.get none st.slots slotNo with
  | none => s
  | some c =>
    if !c.overdue (s.nowFor st) then s
    else if st.sub = 2 then
      ((s.setCstream k { st with timeouts := st.timeouts + 1 }).leaveStream k slotNo c).timeEvent k c false
    else s.setCstream k (st.updated slotNo c { c with complete := true, late := true })

/-- CB_DEADLINE: at the slot's deadline; what may be released is released. -/
def execCbDeadline (die stream slotNo : Nat) (s : State) : Host.Outcome State Fault Refusal :=
  .next (if s.mod.phase = .normal then (s.passDeadline (16 * die + stream) slotNo).drain (16 * die + stream) else s)

/-- CBST (R307). -/
def execCbst (h v : BitVec 5) (f : BitVec 9) (s : State) : Host.Outcome State Fault Refusal :=
  slot (.cbst h v f) (fun t => do
    let k ← t.needStream (t.x h)
    let st := t.cstream k
    let n := match f.toNat with
      | 0 => st.late | 1 => st.live.length | 2 => st.released | 3 => st.timeouts | _ => st.drops
    let (u, x) ← t.timed (BitVec.ofNat 64 n)
    pure (u.setX v x)) s

/-- CBDROP (R306). -/
def execCbdrop (h v : BitVec 5) (s : State) : Host.Outcome State Fault Refusal :=
  slot (.cbdrop h v) (fun t => do
    let k ← t.needStream (t.x h)
    let st := t.cstream k
    match st.slotOf (field (t.x v) 31 0) with
    | none => trap .cbmiss 1
    | some (i, c) => pure (((t.setCstream k (st.dropSlot i)).leaveStream k i c).drain k)) s

end Sys2Proof.Machine
end

