-- ==== Sys2Proof/Machine/Collective.lean ====
section
/-! DEFINITION. Collectives (spec/21 R294-R297): the contribution that a coll sends, its completion when the contributions of
every rank are there, and its abort. -/

namespace Sys2Proof.Machine

/-! The descriptor. -/

/-- COP. -/
def copOf (d : BitVec 512) : Nat := field d 147 144
/-- ROP. -/
def ropOf (d : BitVec 512) : Nat := field d 151 148
/-- CTYPE. -/
def ctypeOf (d : BitVec 512) : Nat := field d 155 152
/-- GROUP. -/
def groupOf (d : BitVec 512) : Nat := field d 171 156
/-- ROOT. -/
def rootOf (d : BitVec 512) : Nat := field d 183 172

/-- The row of a context's group table (R294). -/
def Context.group (c : Context) (g : Nat) : Option Group := c.groups.find? (·.group == g)

/-- The conditions of R294: ESIZE is the size of CTYPE, the codes exist, n divides C, ROOT is a rank. -/
def collGood (d : BitVec 512) (n : Nat) : Bool :=
  ctypeOf d ≤ 2 && ropOf d ≤ 2 && copOf d ≤ 3 && esizeOf d == (if ctypeOf d = 1 then 2 else 4) &&
  (copOf d != 1 || elementsOf d % n == 0) && (copOf d != 3 || rootOf d < n)

/-- Bytes of the destination (R294). -/
def collBytes (d : BitVec 512) (n : Nat) : Nat :=
  if copOf d = 1 then bytesOf d / n else if copOf d = 2 then n * bytesOf d else bytesOf d

/-- The destination ranges: contiguous for reducescatter and allgather (R294). -/
def collRanges (d : BitVec 512) (n : Nat) (base : W64) : List (W64 × Nat) :=
  if copOf d = 1 ∨ copOf d = 2 then [(base, collBytes d n)] else rangesAt base (rowLen d) ((rowsOf d).map (·.2))

/-! Issue. -/

/-- A collective of a discarded take that names the same group and step, still in flight (R296). -/
def State.orphanColl (s : State) (d : BitVec 512) (step : W64) : Option EngineOp :=
  s.eng.ops.find? fun o => o.kind == .coll && o.asid == s.asid && groupOf o.desc == groupOf d && o.step == step &&
    o.committed && o.key.isNone

/-- The held add of a coll, keyed by operation `id`. -/
def State.holdColl (s : State) (h : BitVec 5) (id : Nat) (amount : W64) : Res (State × Option Nat) :=
  if h = 0 then .ok (s, none)
  else do
    let k ← s.needCounter (s.x h)
    let s1 ← s.holdUntested (s.x h) k amount id
    pure (s1, some k)

/-- The rank's elements are read, unless another agent's open write stands on them, and sent to the ports (R296,
spec/07 R90). -/
def State.contribute (s : State) (o : EngineOp) : State × EngineOp :=
  let (t, p) := s.takeSource o
  if o.reads.isEmpty ∨ !p.reads.isEmpty then (t, p)
  else (t.send (.contribution o.asid (groupOf o.desc) o.step p.row), p)

/-- COLL (R294, R296): it sends this rank's elements to the ports, or joins the operation of its earlier execution. At derate level 4
a new one waits (spec/29 R371, R372; log 95). -/
def execColl (c h a d : BitVec 5) (s : State) : Host.Outcome State Fault Refusal :=
  slot (.coll c h a d) (fun t => do
    t.engineRoom
    let desc ← t.copyDesc c false
    match t.ctx.group (groupOf desc) with
    | none => trap .stream 9
    | some g => do
      goodCopy (collGood desc g.n)
      let reads := copOf desc != 3 || rootOf desc == g.rank
      let src := if reads then rangesAt (t.x a) (rowLen desc) ((rowsOf desc).map (·.1)) else []
      let (t1, ta, tb) ← t.checkParts src (collRanges desc g.n (t.x d))
      t1.afterParts false ta
      if t1.mod.level == 4 && (t1.orphanColl desc (t1.x (a + 1))).isNone then .error .wait
      else do
        let step := t1.x (a + 1)
        let amount := BitVec.ofNat 64 (collBytes desc g.n)
        let old := t1.orphanColl desc step
        let (t2, key) ← t1.holdColl h ((old.map (·.id)).getD t1.eng.next) amount
        match old with
        | some o =>
          let o' := { o with agent := t2.cur, port := t2.cport, launch := t2.core.shot.map (·.launch), committed := false,
                             bundle := t2.core.issued, key := key, amount := amount }
          pure { t2.tookAtomic with eng := { t2.eng with ops := t2.eng.ops.map fun p => if p.id == o.id then o' else p } }
        | none =>
          let t3 := t2.flushStreams
          let o := { t3.newOp .coll desc key amount with step := step, dsts := tb.map (·.raw), reads := partsOf ta }
          pure ((t3.tookAtomic.addOp o).contribute o).1) s

/-! Completion (R295, R296). -/

/-- One step of the reduction of f32 values. -/
def reduceF32 (rop : Nat) (a x : W32) : W32 :=
  if rop = 0 then (f32Add a x).1 else if rop = 1 then f32Min a x else f32Max a x

/-- One step of the reduction of i32 values. -/
def reduceI32 (rop : Nat) (a x : W32) : W32 :=
  if rop = 0 then a + x else if rop = 1 then (if x.toInt < a.toInt then x else a) else if a.toInt < x.toInt then x else a

/-- The elements of a contribution as 32-bit words: bf16 is widened exactly. -/
def collWords (ctype n : Nat) (bs : List Byte) : List W32 :=
  if ctype = 1 then (chunks 2 n bs).map fun b => widen bf16 (leNat b)
  else (chunks 4 n bs).map fun b => BitVec.ofNat 32 (leNat b)

/-- The reduction of the contributions, in ascending rank, as bytes (R295). -/
def reduceRanks (d : BitVec 512) (contributions : List (List Byte)) : List Byte :=
  let n := elementsOf d
  let step := fun (a x : W32) => if ctypeOf d = 2 then reduceI32 (ropOf d) a x else reduceF32 (ropOf d) a x
  match contributions.map (collWords (ctypeOf d) n) with
  | [] => []
  | x0 :: rest =>
    (rest.foldl (fun acc x => List.zipWith step acc x) x0).flatMap fun v =>
      if ctypeOf d = 1 then leBytes 2 (bf16.convert true .rne 0 (ofF32 v)).1 else leBytes 4 v.toNat

/-- What the destination of rank `r` of `n` receives (R294). -/
def collResult (d : BitVec 512) (r n : Nat) (contributions : List (List Byte)) : List Byte :=
  match copOf d with
  | 0 => reduceRanks d contributions
  | 1 => ((reduceRanks d contributions).drop (r * (bytesOf d / n))).take (bytesOf d / n)
  | 2 => contributions.flatten
  | _ => contributions.getD (rootOf d) []

/-- The destination bytes that this rank's poisoned source bytes reach: those of a poisoned element (spec/27 R351). -/
def collPoison (d : BitVec 512) (r n : Nat) (bads : List Nat) : List Nat :=
  let e := esizeOf d
  let whole := dedup (bads.flatMap fun b => (List.range e).map fun k => b / e * e + k)
  match copOf d with
  | 0 => whole
  | 1 => whole.filterMap fun b => if b / (bytesOf d / n) = r then some (b % (bytesOf d / n)) else none
  | 2 => bads.map (· + r * bytesOf d)
  | _ => if rootOf d = r then bads else []

/-- The contributions with this rank's own in its place; each of the others that is read holds every element. -/
def collInputs (d : BitVec 512) (r n : Nat) (own : List Byte) (cs : List (List Byte)) : Option (List (List Byte)) :=
  let all := cs.set r own
  let needed := fun (q : Nat) => copOf d != 3 || q == rootOf d
  if cs.length = n ∧ (List.range n).all (fun q => !needed q || (all.getD q []).length == bytesOf d) then some all else none

/-- The touched bytes of raw addresses. -/
def rawTouches (raws : List Nat) : List Touch := raws.map fun r => { va := 0, raw := r, watched := true }

/-- A coll completes with the contributions of all ranks; the delivery waits for open slots on its lines, and
for a pad of a shed die to be raised (R296, spec/07 R91, R100, spec/29 R371). -/
def State.completeColl (s : State) (o : EngineOp) (cs : List (List Byte)) : State :=
  match (s.context o.asid).group (groupOf o.desc) with
  | none => s
  | some g =>
    let (t, p) := s.contribute o
    match collInputs p.desc g.rank g.n p.row cs with
    | none => t
    | some all =>
      let ts := rawTouches p.dsts
      if !p.reads.isEmpty || t.behindOp p || t.logStalls p.key || t.writeWaits ts || p.dsts.any t.retained then t
      else
        let bad := collPoison p.desc g.rank g.n p.bads
        let out := collResult p.desc g.rank g.n all
        (t.writeOut ts ((out.zip (List.range out.length)).map fun e => (e.1, bad.contains e.2))).completeOp p

/-- COLL_COMPLETE. -/
def execCollComplete (op : Nat) (contributions : List (List Byte)) (s : State) : Host.Outcome State Fault Refusal :=
  .next (match s.eng.ops.find? fun o => o.id == op && o.kind == .coll with
    | none => s
    | some o => if s.mod.phase = .normal then (s.makeRoom o.key).completeColl o contributions else s)

/-- The coll completes with no add; its destination bytes, and which of its granules are FULL, are free (R297). -/
def State.abortColl (s : State) (o : EngineOp) : State :=
  let ts := rawTouches o.dsts
  if s.writeWaits ts || o.dsts.any s.retained then s
  else
    let s1 := s.writePlain ts (o.dsts.map fun r => BitVec.ofNat 8 (s.free r))
    let s2 := ((granulesOf (ts.filter fun t => levelOf t.raw < 3)).filter fun g => s.free (g + 1) % 2 == 0).foldl State.setFull s1
    let s3 := { s2 with sync := { s2.sync with held := s2.sync.held.filter fun h => h.op != some o.id } }
    (s3.dropOp o.id).addEvent .collabort (o.launch.getD (2 ^ 64)) o.asid (dieOf o.agent)
      (BitVec.ofNat 64 (groupOf o.desc)) o.step

/-- COLL_ABORT. -/
def execCollAbort (op : Nat) (s : State) : Host.Outcome State Fault Refusal :=
  .next (match s.eng.ops.find? fun o => o.id == op && o.kind == .coll with
    | none => s
    | some o => if s.mod.phase = .normal then s.abortColl o else s)

end Sys2Proof.Machine
end

