-- ==== Sys2Proof/Machine/Code.lean ====
section
/-! DEFINITION. The symbol codes: RS(80,68) of a device-memory line (spec/05 R77) and RS(255,223) of the hibernation tier
(spec/27 R349), over GF(2^8). Symbol 0 is the coefficient of the highest power (log 22). -/

namespace Sys2Proof.Machine

/-- Times x in GF(2^8) with x^8 + x^4 + x^3 + x^2 + 1 (R77). -/
def gfX (a : Nat) : Nat := if a < 128 then 2 * a else (2 * a) ^^^ 0x11D

/-- The product, by the bits of `b` from the top: `n` bits are left. -/
def gfMulFrom (a b : Nat) : Nat → Nat → Nat
  | 0, r => r
  | n + 1, r => gfMulFrom a b n (gfX r ^^^ (if b.testBit n then a else 0))

/-- The product in GF(2^8). -/
def gfMul (a b : Nat) : Nat := gfMulFrom a b 8 0

/-- A power in GF(2^8). -/
def gfPow (a : Nat) : Nat → Nat
  | 0 => 1
  | n + 1 => gfMul a (gfPow a n)

/-- The inverse in GF(2^8); 0 for 0. -/
def gfInv (a : Nat) : Nat := gfPow a 254

/-- A power of α = 0x02; exponents count modulo 255. -/
def gfAlpha (n : Nat) : Nat := gfPow 2 (n % 255)

/-- A polynomial, lowest power first, at a point. -/
def polyAt (p : List Nat) (x : Nat) : Nat := p.foldr (fun c r => c ^^^ gfMul x r) 0

/-- The sum of two polynomials. -/
def polyAdd : List Nat → List Nat → List Nat
  | [], q => q
  | p, [] => p
  | a :: p, b :: q => (a ^^^ b) :: polyAdd p q

/-- The product of two polynomials. -/
def polyMul : List Nat → List Nat → List Nat
  | [], _ => []
  | a :: p, q => polyAdd (q.map (gfMul a)) (0 :: polyMul p q)

/-- The syndromes of a word, at α^0 to α^(k-1). -/
def syndromes (k : Nat) (w : List Nat) : List Nat :=
  (List.range k).map fun j => w.foldl (fun r c => c ^^^ gfMul (gfAlpha j) r) 0

/-- The locator of symbol `i` of `n`. -/
def locator (n i : Nat) : Nat := gfAlpha (n - 1 - i)

/-- The product of 1 + X x over the locators of the symbols at `ps`. -/
def locatorPoly (n : Nat) (ps : List Nat) : List Nat := ps.foldl (fun g i => polyMul g [1, locator n i]) [1]

/-- The error of a word with these syndromes lies within the symbols at `ps`. -/
def confined (n : Nat) (syn : List Nat) (ps : List Nat) : Bool :=
  (((polyMul syn (locatorPoly n ps)).take syn.length).drop ps.length).all (· == 0)

/-- The derivative of a polynomial. -/
def polyDeriv (p : List Nat) : List Nat :=
  ((List.range p.length).drop 1).map fun i => if i % 2 = 1 then p.getD i 0 else 0

/-- The word with an error within the symbols at `ps` corrected. -/
def correctAt (n : Nat) (syn : List Nat) (ps : List Nat) (w : List Nat) : List Nat :=
  let g := locatorPoly n ps
  let om := (polyMul syn g).take syn.length
  let dg := polyDeriv g
  ps.foldl (fun v i =>
    let x := locator n i
    let xi := gfInv x
    v.set i (v.getD i 0 ^^^ gfMul x (gfMul (polyAt om xi) (gfInv (polyAt dg xi))))) w

/-! Lines. -/

/-- The symbols of byte-lane `j` (R77). -/
def laneSymbols (j : Nat) : List Nat := [4 * j, 4 * j + 1, 4 * j + 2, 4 * j + 3]

/-- What a decoder finds in the 80 symbols of a line: how many byte-lanes are wrong, counted to 3, and the symbols, corrected
when that is at most one (R77). -/
def decodeLine (w : List Nat) : Nat × List Nat :=
  let syn := syndromes 12 w
  if syn.all (· == 0) then (0, w)
  else match (List.range 20).find? fun j => confined 80 syn (laneSymbols j) with
    | some j => (1, correctAt 80 syn (laneSymbols j) w)
    | none =>
      if (List.range 20).any fun i => (List.range i).any fun j => confined 80 syn (laneSymbols i ++ laneSymbols j) then (2, w)
      else (3, w)

/-! Tier segments. -/

/-- One step of the Berlekamp-Massey recursion: the locator, the last one of another length, the gap since it, its
discrepancy, and the length. -/
structure Bm where
  c : List Nat
  b : List Nat
  m : Nat
  d : Nat
  l : Nat
  deriving DecidableEq, Repr

/-- The step for syndrome `i`. -/
def Bm.next (syn : List Nat) (t : Bm) (i : Nat) : Bm :=
  let delta := (List.range (t.l + 1)).foldl (fun r k => r ^^^ gfMul (t.c.getD k 0) (syn.getD (i - k) 0)) 0
  if delta = 0 then { t with m := t.m + 1 }
  else
    let c' := polyAdd t.c ((List.replicate t.m 0 ++ t.b).map (gfMul (gfMul delta (gfInv t.d))))
    if 2 * t.l ≤ i then { c := c', b := t.c, m := 1, d := delta, l := i + 1 - t.l } else { t with c := c', m := t.m + 1 }

/-- What a decoder finds in the 255 symbols of a tier segment: the number of wrong symbols, 17 when there are more than 16,
and the symbols, corrected when there are not (spec/27 R349). -/
def decodeSegment (w : List Nat) : Nat × List Nat :=
  let syn := syndromes 32 w
  if syn.all (· == 0) then (0, w)
  else
    let t := (List.range 32).foldl (Bm.next syn) { c := [1], b := [1], m := 1, d := 1, l := 0 }
    let ps := (List.range 255).filter fun i => polyAt t.c (gfInv (locator 255 i)) == 0
    if t.l ≤ 16 ∧ ps.length = t.l ∧ confined 255 syn ps then (t.l, correctAt 255 syn ps w) else (17, w)

end Sys2Proof.Machine
end

