-- ==== Sys2Proof/Machine/Packets.lean ====
section
/-! DEFINITION. Base-die and LPDDR6-controller requests (spec/05 R70-R75), and raw code words of device memory (R77, R80,
spec/13 R189). Places 0 to 15 are the HBM stacks; place 16 + 64 × (8 × presentation + device) + c is the LPDDR6 controllers for
line indices from c × 2^30 over that device's channel pairs (log 23). -/

namespace Sys2Proof.Machine

/-! Headers (R71, R72). -/

/-- LEN. -/
def hdrLen (h : BitVec 128) : Nat := field h 123 118
/-- OP. -/
def hdrOp (h : BitVec 128) : Nat := field h 117 114
/-- TAG. -/
def hdrTag (h : BitVec 128) : Nat := field h 113 111
/-- SRC. -/
def hdrSrc (h : BitVec 128) : Nat := field h 110 97
/-- LINE. -/
def hdrLine (h : BitVec 128) : Nat := field h 93 64
/-- MASK. -/
def hdrMask (h : BitVec 128) : Nat := field h 63 0

/-- A presentation can be formed and has the device (spec/01 R18). -/
def State.formed (s : State) (pres dev : Nat) : Bool :=
  (pres == 0 && dev == 0) || (pres == 1 && decide (dev < 2) && s.liveDies == 8) || (pres == 2 && decide (dev < s.liveDies))

/-- The raw address of a line of a place: of a stack, or counted over the channel pairs of a device that can be formed (R75). -/
def State.lineAt (s : State) (p line : Nat) : Option Nat :=
  if p < 16 then (if line < 48 * GiB / 64 then some (rawOf 3 (p * (48 * GiB) + 64 * line)) else none)
  else
    let dev := (p - 16) / 64
    if s.formed (dev / 8) (dev % 8) then
      Machine.place s.liveDies (dev / 8) (dev % 8) (0x040000000000 + 64 * (2 ^ 30 * ((p - 16) % 64) + line))
    else none

/-- The lines that a request names; none is BADREQ (R72). `op` is the operation that the event performs. R72 lists neither a
nonzero MASK on another OP than WRM nor a RAWWR whose SRC is no control core, which R71 excludes: answering them BADREQ is the
model's choice (DESIGN CHOICE, log 89). -/
def State.requestLines (s : State) (p op : Nat) (h : BitVec 128) : Option (List Nat) :=
  if field h 127 124 = 0 ∧ field h 96 94 = 0 ∧ hdrOp h = op ∧ (op = 2 ∨ hdrMask h = 0) ∧ (op ≠ 2 ∨ hdrLen h = 0) ∧
      hdrLine h % 64 + hdrLen h < 64 ∧ (op ≠ 4 ∨ (hdrSrc h / 2 ^ 13 = 1 ∧ (hdrSrc h % 2 ^ 10 = 2 ∨ hdrSrc h % 2 ^ 10 = 3)))
  then (List.range (hdrLen h + 1)).mapM fun k => s.lineAt p (hdrLine h + k)
  else none

/-- The requester's tag is in use: the request stalls (R70). -/
def State.tagBusy (s : State) (h : BitVec 128) : Bool := s.st.tags.contains (hdrSrc h, hdrTag h)

/-- The reply goes on its way, and the tag is in use until it arrives; `bad` names the lines that come back poisoned. -/
def State.answer (s : State) (h : BitVec 128) (status : Nat) (data : List Byte) (bad : List Nat) : State :=
  let r : Reply := { src := hdrSrc h, tag := hdrTag h, len := hdrLen h, status := status, data := data, bad := bad }
  { s with st := { s.st with replies := s.st.replies ++ [r], tags := s.st.tags ++ [(hdrSrc h, hdrTag h)] } }

/-- A request: it stalls while its tag is in use; a bad one is answered BADREQ; else each line is operated on in order, and
STATUS is the highest code of its lines (R70, R72). -/
def State.request (s : State) (p op : Nat) (h : BitVec 128) (f : State → Nat → Nat → State × Nat × List Byte) : State :=
  if s.tagBusy h ∨ 16 + 64 * 24 ≤ p then s
  else match s.requestLines p op h with
    | none => s.answer h 5 [] []
    | some lines =>
      let (s1, st, data) := (lines.zip (List.range lines.length)).foldl
        (fun a l => let (t, c, d) := f a.1 l.1 l.2; (t, Nat.max a.2.1 c, a.2.2 ++ d)) (s, 0, [])
      s1.answer h st data (if op = 0 then
        (List.range lines.length).filter fun k => (s1.line (lines.getD k 0)).poison || s1.staleKey (lines.getD k 0) else [])

/-! Lines. -/

/-- The STATUS code that decoding a line gives (R72): a miscorrected line looks corrected. -/
def State.lineStatus (s : State) (l : Nat) : Nat :=
  if (s.line l).poison || s.staleKey l then 2
  else if s.flaws l = 0 then 0 else if s.uncorrectable l then 3 else 1

/-- The 64 bytes that a read of a line returns: zeros of a ZEROED line; those of a poisoned one are free. -/
def State.lineBytes (s : State) (l : Nat) : List Byte :=
  if (s.line l).zeroed then List.replicate 64 0
  else (List.range 64).map fun k => if s.poisoned l then BitVec.ofNat 8 (s.free (l + k)) else s.stored (l + k)

/-- RD of one line. -/
def State.readLine (s : State) (l : Nat) : State × Nat × List Byte :=
  let c := s.lineStatus l
  let t := s.settleWord l
  (t, c, t.lineBytes l)

/-- WRM of one line: the line as it is read, with the bytes under the mask replaced, is written as a fresh code word, whatever the
mask; a write to a poisoned one is dropped (R74). -/
def State.writeMasked (s : State) (l mask : Nat) (data : List Byte) : State × Nat × List Byte :=
  let c := s.lineStatus l
  if 2 ≤ c then (((s.settleWord l).markPoison l).countDaily l 2, 4, [])
  else
    let t := s.settleWord l
    (t.writeBytes ((List.range 64).map fun k =>
      (l + k, if mask / 2 ^ k % 2 = 1 then data.getD k 0 else (t.lineBytes l).getD k 0)), c, [])

/-- The LPDDR6 lines of the frames that have the key of an ASID. -/
def State.keyedLines (s : State) (a : Nat) : List Nat :=
  (s.keyedFrames a).flatMap fun f => (List.range 64).map fun k => f + 64 * k

/-- Firmware may rotate the keys of a context whose lines all name its newest version: KEYV rises, and the version before it stays
live until every line has been encrypted again (R79; log 90). -/
def State.rotateKeys (s : State) (a : Nat) : State :=
  let c := s.context a
  let newest := c.keyv.getLastD 0
  if a = 0 ∨ !c.live ∨ !Config.rotates a s.fresh ∨
      (s.keyedLines a).any fun l => !(s.line l).zeroed && !(s.line l).poison && (s.line l).keyv != newest then s
  else s.setContext a { c with keyv := [newest, (newest + 1) % 256] }

/-- SCRUB of one line: read, corrected and written back, under the newest key version of its frame (R71, R79). -/
def State.scrubLine (s : State) (l : Nat) : State × Nat × List Byte :=
  let c := s.lineStatus l
  let t0 := s.settleWord l
  let t := if levelOf l = 4 then t0.rotateKeys (t0.keyAsid l) else t0
  let m := t.line l
  if levelOf l = 4 ∧ !m.zeroed ∧ c < 2 then
    ((t.reseal l (t.newestKey l)).setLine l { m with keyv := t.newestKey l }, c, [])
  else (t, c, [])

/-- ZERO of one line (R74). -/
def State.zeroLine (s : State) (l : Nat) : State :=
  let t := { s.clearFlaw l with st := { (s.clearFlaw l).st with mem := Store.fill 0 s.st.mem l 64 0 } }
  t.setLine l { poison := false, zeroed := true, keyv := 0 }

/-- Symbols as a number, least significant first (spec/27 R353). -/
def leSymbols (l : List Nat) : Nat := l.foldr (fun a r => a + 256 * r) 0

/-- A line whose 80 symbols are written raw: what its decoder will find (R77). The data symbols of an LPDDR6 line are ciphertext:
its plaintext is what the key that its KEYV names makes of them (R78-R80). -/
def State.rawLine (s : State) (l : Nat) (symbols : List Byte) : State :=
  let (n, w) := decodeLine ((List.range 80).map fun k => (symbols.getD k 0).toNat)
  let m := w.getD 64 0 + 2 ^ 8 * w.getD 65 0 + 2 ^ 16 * w.getD 66 0 + 2 ^ 24 * w.getD 67 0
  let zeroed := m / 2 ^ 30 % 2 == 1
  let data := (List.range 64).map fun k => BitVec.ofNat 8 (w.getD k 0)
  let key := s.sealNow l (m / 2 ^ 16 % 2 ^ 8)
  let bs := if zeroed then List.replicate 64 0
    else if levelOf l = 4 then xtsDecrypt (keyOf key.1) key.2 data else data
  ({ s with st := { s.st with
      mem := Store.setList 0 s.st.mem l bs
      seals := if levelOf l = 4 then Store.set none s.st.seals l (some key) else s.st.seals
      syns := Store.set none s.st.syns l (if n = 0 then none else some (leSymbols (syndromes 12 ((List.range 80).map fun k =>
        (symbols.getD k 0).toNat))))
      flaws := Store.set 0 s.st.flaws l n } } : State).setLine l
    { poison := m / 2 ^ 31 % 2 == 1, zeroed := zeroed, keyv := m / 2 ^ 16 % 2 ^ 8 }

/-! The events. -/

/-- RD: 1 to 64 lines of one interleave block (R71, R72). -/
def execRdLines (place : Nat) (hdr : BitVec 128) (s : State) : Host.Outcome State Fault Refusal :=
  .next (s.request place 0 hdr fun t l _ => t.readLine l)

/-- WR: whole lines (R71, R74). -/
def execWrLines (place : Nat) (hdr : BitVec 128) (data : List Byte) (s : State) : Host.Outcome State Fault Refusal :=
  .next (if data.length = 64 * (hdrLen hdr + 1) then
    s.request place 1 hdr fun t l k => (t.writeBytes (runOf l ((data.drop (64 * k)).take 64)), 0, [])
  else s)

/-- WRM: one line under a mask (R74). -/
def execWrmLine (place : Nat) (hdr : BitVec 128) (data : List Byte) (s : State) : Host.Outcome State Fault Refusal :=
  .next (if data.length = 64 then s.request place 2 hdr fun t l _ => t.writeMasked l (hdrMask hdr) data else s)

/-- SCRUB (R71). -/
def execScrubLines (place : Nat) (hdr : BitVec 128) (s : State) : Host.Outcome State Fault Refusal :=
  .next (s.request place 3 hdr fun t l _ => t.scrubLine l)

/-- RAWWR: data and check symbols as given (R71). -/
def execRawWr (place : Nat) (hdr : BitVec 128) (data : List Byte) (s : State) : Host.Outcome State Fault Refusal :=
  .next (if data.length = 80 * (hdrLen hdr + 1) then
    s.request place 4 hdr fun t l k => (t.rawLine l ((data.drop (80 * k)).take 80), 0, [])
  else s)

/-- A line named by a request holds an open slot of a take: a write that belongs to no take waits for it (spec/07 R91). -/
def State.zeroWaits (s : State) (p : Nat) (h : BitVec 128) : Bool := ((s.requestLines p 5 h).getD []).any s.openSlot

/-- ZERO (R74); the zeroing engine waits while a line holds an open slot (spec/07 R91). -/
def execZeroLines (place : Nat) (hdr : BitVec 128) (s : State) : Host.Outcome State Fault Refusal :=
  .next (if s.zeroWaits place hdr then s else s.request place 5 hdr fun t l _ => (t.zeroLine l, 0, []))

/-- REPLY: the last reply of a request arrives, and its tag frees (R70, R72). -/
def execReplyLines (k : Nat) (s : State) : Host.Outcome State Fault Refusal :=
  .next (match s.st.replies[k]? with
    | none => s
    | some r => { s with st := { s.st with replies := s.st.replies.eraseIdx k, tags := s.st.tags.erase (r.src, r.tag) } })

end Sys2Proof.Machine
end

