-- ==== Sys2Proof/Machine/Save.lean ====
section
/-! DEFINITION. The parts of a core image, as ctxsv writes and ctxld reads them (spec/13 R188, spec/17 R252, spec/15 R220), and saving,
loading and taking scratchpad blocks (spec/25 R341, R342). -/

namespace Sys2Proof.Machine

/-! Writing. -/

/-- 64-bit words, least significant byte first. -/
def bytes64 (ws : List W64) : List Byte := ws.flatMap fun w => leBytes 8 w.toNat

/-- 32-bit words. -/
def bytes32 (ws : List W32) : List Byte := ws.flatMap fun w => leBytes 4 w.toNat

/-- A value in 64 bits. -/
def w64 (n : Nat) : W64 := BitVec.ofNat 64 n

/-- Offset registers: each address, then stride. -/
def bytesOfO (o : Vector Oreg 8) : List Byte := bytes64 (o.toList.flatMap fun r => [r.addr.setWidth 64, r.stride])

/-- The loop state of a restart image: 24 bytes. -/
def bytesOfLoop : Option LoopImage → List Byte
  | none => List.replicate 24 0
  | some l => bytes64 [l.head] ++ leBytes 1 l.len ++ leBytes 1 l.xt.toNat ++ leBytes 1 l.pos ++ [1] ++ leBytes 4 0 ++
      bytes64 [l.count]

/-- The supply latch: 8 entries of 24 bytes. -/
def bytesOfLatch (es : List Supply) : List Byte :=
  (List.range 8).flatMap fun k => match es[k]? with
    | none => List.replicate 24 0
    | some e => bytes64 [e.addr, w64 (e.slot % 4 + (if e.used then 2 ^ 8 else 0) + 2 ^ 9), e.value]

/-- The restart stream state: 2 bytes a descriptor. -/
def bytesOfSdState (t : SdState) : List Byte :=
  leBytes 2 (t.qn % 16 + (if t.bound then 16 else 0) + (if t.loaded then 32 else 0))

/-- FMT as it is saved, with its flags. -/
def Core.fmtWord (c : Core) : W64 := c.fmt ||| (c.flags.setWidth 64 <<< 32)

/-- MOM as it is saved, with NVCLAMP. -/
def Core.momWord (c : Core) : W64 := c.mom ||| (if c.nvclamp then 0x800000000#64 else 0#64)

/-- Part 0. -/
def Core.part0 (c : Core) : List Byte :=
  bytes64 c.x.toList ++ bytes64 ((BitVec.allOnes 64) :: c.p.toList.drop 1) ++
    bytes64 [c.fmtWord, c.momWord, c.takepc, c.tser, c.cause, c.tinfo] ++ bytesOfO c.image.o ++
    bytes64 (c.image.sd.toList.map fun t => w64 t.cursor) ++ bytesOfLoop c.image.loop ++ bytesOfO c.o ++
    bytes64 [w64 c.take.preempts] ++ bytesOfLatch c.latch ++ c.image.sd.toList.flatMap bytesOfSdState ++
    List.replicate 16 0

/-- Part 1. -/
def Core.part1 (c : Core) : List Byte := c.v.toList.flatMap fun v => bytes32 v.toList

/-- Part 2: a q register is streamed when a bound descriptor names it. -/
def Core.part2 (c : Core) : List Byte :=
  let streamed := fun (n : Nat) => c.sd.toList.any fun d => d.bound && d.qn == n
  let header := fun (n : Nat) => leBytes 4 ((c.q.getD n []).length % 16 + if streamed n then 2 ^ 8 else 0)
  c.sd.toList.flatMap (fun d => leBytes 64 d.image.toNat) ++ (List.range 16).flatMap header ++ List.replicate 960 0 ++
    (List.range 16).flatMap fun n => (List.range 8).flatMap fun e => bytes32 ((c.q.getD n []).getD e Lanes.zero).toList

/-- Part 3: mean and variance of each lane side by side, as spec/13 R186 numbers their words. -/
def Core.part3 (c : Core) : List Byte :=
  c.m.toList.flatMap fun m => bytes32 ((m.mean.toList.zip m.var.toList).flatMap fun l => [l.1, l.2])

/-- Row `r` of z0 to z7, 0 to 511. -/
def Core.rowAt (c : Core) (r : Nat) : Lanes :=
  (c.z.getD (r / 64) (Vector.replicate 64 Lanes.zero)).getD (r % 64) Lanes.zero

/-- A row of a configured tile. -/
def Core.isTileRow (c : Core) (r : Nat) : Bool := decide (r % 64 < c.rows.getD (r / 64) 0)

/-- PARK.NEXT: the lowest free row, 512 when there is none (spec/15 R229). -/
def Core.nextFree (c : Core) : Nat :=
  ((List.range 512).find? fun r => !c.isTileRow r && !c.parked.contains r).getD 512

/-- The parked map: 64 bytes, then zeros. -/
def Core.parkedMap (c : Core) : List Byte :=
  (List.range 64).map (fun k => BitVec.ofNat 8 ((List.range 8).foldl (fun n b =>
    if c.parked.contains (8 * k + b) then n + 2 ^ b else n) 0)) ++ List.replicate 192 0

/-- Part 4 (spec/17 R252). -/
def Core.part4 (c : Core) : List Byte :=
  let next := c.nextFree
  ((List.range 512).flatMap fun r => if r = next then c.parkedMap else bytes32 (c.rowAt r).toList) ++
    c.rows.toList.flatMap (leBytes 1 ·) ++ leBytes 2 next ++ List.replicate 54 0

/-- Part 5. -/
def Core.part5 (c : Core) : List Byte := Store.getList 0 c.bufs 0 65536 ++ Store.getList 0 c.scales 0 8192

/-- Part 6. -/
def Core.part6 (c : Core) : List Byte := c.cd.toList.flatMap fun d => leBytes 64 d.toNat

/-- A part of a core image. -/
def Core.partBytes (c : Core) : Nat → List Byte
  | 0 => c.part0 | 1 => c.part1 | 2 => c.part2 | 3 => c.part3 | 4 => c.part4 | 5 => c.part5 | _ => c.part6

/-- The bytes of a part (R188). -/
def partSize : Nat → Nat
  | 0 => 1024 | 1 => 8192 | 2 => 34816 | 3 => 8192 | 4 => 131136 | 5 => 73728 | _ => 2048

/-- Where a part begins in a core image (spec/25 R342). -/
def partAt (k : Nat) : Nat := ((List.range k).map partSize).foldl (· + ·) 0

/-- The protected words that a part holds (spec/13 R186). -/
def partWords : Nat → List Nat
  | 0 => [0, 1, 6] | 1 => [2] | 2 => [3, 7] | 3 => [4] | 4 => [5] | 5 => [9, 10] | _ => [8]

/-! Reading. -/

/-- Consecutive 64-bit words. -/
def words64 (n : Nat) (bs : List Byte) : List W64 := (chunks 8 n bs).map fun b => w64 (leNat b)

/-- Consecutive 32-bit words. -/
def words32 (n : Nat) (bs : List Byte) : List W32 := (chunks 4 n bs).map fun b => BitVec.ofNat 32 (leNat b)

/-- Offset registers from their words. -/
def oOf (bs : List Byte) : Vector Oreg 8 :=
  let ws := words64 16 bs
  Vector.ofFn fun i => { addr := (ws.getD (2 * i.val) 0).setWidth 21, stride := ws.getD (2 * i.val + 1) 0 }

/-- The loop state of a restart image. -/
def loopOf (bs : List Byte) : Option LoopImage :=
  if leAt bs 11 1 = 0 then none
  else some { head := w64 (leAt bs 0 8), len := leAt bs 8 1, xt := BitVec.ofNat 5 (leAt bs 9 1), pos := leAt bs 10 1,
              count := w64 (leAt bs 16 8) }

/-- The supply latch: its valid entries. -/
def latchOf (bs : List Byte) : List Supply :=
  (chunks 24 8 bs).filterMap fun b =>
    let m := leAt b 8 8
    if m / 2 ^ 9 % 2 = 0 then none
    else some { addr := w64 (leAt b 0 8), slot := m % 4, value := w64 (leAt b 16 8), used := m / 2 ^ 8 % 2 == 1 }

/-- Loads part 0. -/
def Core.load0 (c : Core) (bs : List Byte) : Core :=
  let ws := words64 46 bs
  let fmt := ws.getD 40 0
  let mom := ws.getD 41 0
  let cursors := words64 16 (bs.drop 496)
  let states := chunks 2 16 (bs.drop 976)
  let sdAt := fun (i : Nat) =>
    let t := leNat (states.getD i [])
    ({ cursor := (cursors.getD i 0).toNat, qn := t % 16, bound := t / 16 % 2 == 1, loaded := t / 32 % 2 == 1 } : SdState)
  { c with
    x := Vector.ofFn fun i => if i.val = 0 then 0 else ws.getD i.val 0
    p := Vector.ofFn fun i => if i.val = 0 then BitVec.allOnes 64 else ws.getD (32 + i.val) 0
    fmt := fmt &&& fmtMask, flags := (fmt >>> 32).setWidth 6, flagsNew := 0, fmtWrites := []
    mom := mom &&& momMask, nvclamp := mom.getLsbD 35, nvclampNew := false, momWrites := []
    takepc := ws.getD 42 0, tser := ws.getD 43 0, cause := ws.getD 44 0 &&& 0x1FFFFFF#64, tinfo := ws.getD 45 0
    image := { o := oOf (bs.drop 368), sd := Vector.ofFn fun i => sdAt i.val, loop := loopOf (bs.drop 624) }
    o := oOf (bs.drop 648)
    latch := latchOf (bs.drop 784)
    take := { c.take with preempts := leAt bs 776 8 } }

/-- Loads part 1. -/
def Core.load1 (c : Core) (bs : List Byte) : Core :=
  let rows := chunks 256 32 bs
  { c with v := Vector.ofFn fun i => lanesOf (words32 64 (rows.getD i.val [])) }

/-- Loads part 2. -/
def Core.load2 (c : Core) (bs : List Byte) : Core :=
  let images := chunks 64 16 bs
  let entries := fun (n : Nat) =>
    (List.range (Nat.min 8 (leAt bs (1024 + 4 * n) 4 % 16))).map fun e => lanesOf (words32 64 (bs.drop (2048 + 2048 * n + 256 * e)))
  { c with sd := Vector.ofFn fun i => sdOfImage (BitVec.ofNat 512 (leNat (images.getD i.val [])))
           q := Vector.ofFn fun i => entries i.val, qhead := Vector.replicate 16 0 }

/-- Loads part 3. -/
def Core.load3 (c : Core) (bs : List Byte) : Core :=
  let regs := chunks 512 16 bs
  let reg := fun (b : List Byte) =>
    let ws := words32 128 b
    ({ mean := Vector.ofFn fun i => ws.getD (2 * i.val) 0, var := Vector.ofFn fun i => ws.getD (2 * i.val + 1) 0 } : Moment)
  { c with m := Vector.ofFn fun i => reg (regs.getD i.val []) }

/-- Loads part 4 (spec/17 R252). -/
def Core.load4 (c : Core) (bs : List Byte) : Core :=
  let rows := chunks 256 512 bs
  let record := bs.drop 131072
  let n := fun (z : Nat) => leAt record z 1
  let next := leAt record 8 2
  let tile := fun (r : Nat) => decide (r % 64 < n (r / 64))
  let map := rows.getD next []
  let bit := fun (r : Nat) => (map.getD (r / 8) 0).toNat / 2 ^ (r % 8) % 2 == 1
  { c with
    z := Vector.ofFn fun i => Vector.ofFn fun j => lanesOf (words32 64 (rows.getD (64 * i.val + j.val) []))
    rows := Vector.ofFn fun i => n i.val
    parked := (List.range 512).filter fun r =>
      !tile r && r != next && (if next < 512 then bit r else true) }

/-- Loads part 5. -/
def Core.load5 (c : Core) (bs : List Byte) : Core :=
  { c with bufs := Store.setList 0 [] 0 (bs.take 65536), scales := Store.setList 0 [] 0 ((bs.drop 65536).take 8192) }

/-- Loads part 6. -/
def Core.load6 (c : Core) (bs : List Byte) : Core :=
  let regs := chunks 64 32 bs
  { c with cd := Vector.ofFn fun i => BitVec.ofNat 512 (leNat (regs.getD i.val [])) }

/-- Loads a part of a core image; the words that it overwrites hold no error any more. -/
def Core.loadPart (c : Core) (k : Nat) (bs : List Byte) : Core :=
  let c1 := match k with
    | 0 => c.load0 bs | 1 => c.load1 bs | 2 => c.load2 bs | 3 => c.load3 bs | 4 => c.load4 bs | 5 => c.load5 bs
    | _ => c.load6 bs
  { c1 with upsets := c1.upsets.filter fun e => !(partWords k).contains (e.1 / 2 ^ 16) }

/-! Errors met by a save. -/

/-- Reads every word of a part of core `n`: correctable errors are corrected and counted; it says whether an uncorrectable
one was met (spec/25 R343, spec/27 R350). -/
def State.readPart (s : State) (n k : Nat) : State × Bool :=
  let mine := (s.coreAt n).upsets.filter fun e => (partWords k).contains (e.1 / 2 ^ 16)
  let fix := fun (t : State) (e : Nat × Nat) =>
    if e.2 = 1 then
      (t.onCore n fun c => { c with upsets := Store.set 0 c.upsets e.1 0 }).countEvent (regRaw n e.1) 1
    else t.countEvent (regRaw n e.1) 2
  (mine.foldl fix s, mine.any fun e => e.2 != 1)

/-- Whole lines written from a raw address, one after another; `bad` poisons them. -/
def State.writeLinesAt (s : State) (raw : Nat) (bs : List Byte) (bad : Bool) : State :=
  (List.range ((bs.length + 63) / 64)).foldl (fun t k =>
    let u := t.writeBytes (runOf (raw + 64 * k) ((bs.drop (64 * k)).take 64))
    if bad then u.markPoison (raw + 64 * k) else u) s

/-- Bytes read from a raw address: the state after the reads, the bytes, and whether any is poisoned. -/
def State.readAt (s : State) (raw n : Nat) : State × List Byte × Bool :=
  let raws := (List.range n).map (raw + ·)
  let s1 := s.settle raws
  (s1, raws.map s1.stored, raws.any fun r => r % 16 == 0 && s1.poisoned r)

/-! The save area (spec/25 R342). -/

/-- Where the image of core `n` begins. -/
def Context.imageAt (c : Context) (n : Nat) : Nat := c.saveRaw + 262144 * n

/-- The number of a 64 KiB scratchpad block over the module: U-pads, C-pads, D-pads. -/
def blockNo (raw : Nat) : Nat :=
  let o := raw % 2 ^ 60
  match levelOf raw with
  | 0 => o / 2 ^ 49 * 32 + o % 2 ^ 49 / 65536
  | 1 => 65536 + o / 2 ^ 53 * 256 + o % 2 ^ 53 / 65536
  | _ => 98304 + o / 2 ^ 57 * 4096 + o % 2 ^ 57 / 65536

/-- Where the image of a block begins. -/
def Context.blockAt (c : Context) (raw : Nat) : Nat := c.saveRaw + 262144 * 2048 + 66560 * blockNo raw

/-- The state with a context changed by a function. -/
def State.onContext (s : State) (a : Nat) (f : Context → Context) : State := s.setContext a (f (s.context a))

/-! Scratchpad blocks (spec/25 R341). -/

/-- The state with a block's owner changed. -/
def State.setOwner (s : State) (raw a : Nat) : State :=
  { s with st := { s.st with owners := Store.set 0 s.st.owners (raw / 65536) a } }

/-- The raw addresses of the granules of a block. -/
def blockGranules (raw : Nat) : List Nat := (List.range 4096).map fun k => raw + 16 * k

/-- 512 bytes of one bit for each granule of a block. -/
def granuleBits (raw : Nat) (f : Nat → Bool) : List Byte :=
  (List.range 512).map fun k => BitVec.ofNat 8 ((List.range 8).foldl
    (fun n b => if f (raw + 16 * (8 * k + b)) then n + 2 ^ b else n) 0)

/-- A block is zeroed: every granule FULL, unclaimed, without poison or error (R341 step 3, R344). -/
def State.zeroBlock (s : State) (raw : Nat) : State :=
  { s with st := { s.st with
      mem := Store.fill 0 s.st.mem raw 65536 0
      empty := Store.fill false s.st.empty raw 65536 false
      claims := Store.fill 0 s.st.claims raw 65536 0
      poison := Store.fill false s.st.poison raw 65536 false
      flaws := Store.fill 0 s.st.flaws raw 65536 0 } }

/-- A block is saved into its owner's area: data, presence bits, poison bits; an error met now poisons the image
(R341 step 2, R342, R343). -/
def State.saveBlock (s : State) (a raw : Nat) : State :=
  let dst := (s.context a).blockAt raw
  let bad := s.st.flaws.any fun e => raw ≤ e.1 && e.1 < raw + 65536 && s.uncorrectable e.1 &&
    !Store.get false s.st.poison (unitOf e.1)
  let pois := granuleBits raw fun g => Store.get false s.st.poison g
  let s1 := s.settle ((s.st.flaws.filter fun e => raw ≤ e.1 && e.1 < raw + 65536).map (·.1))
  let data := Store.getList 0 s1.st.mem raw 65536
  ((s1.writeLinesAt dst (data ++ granuleBits raw (fun g => !s1.isEmpty g) ++ pois) bad).onContext a
    fun c => { c with away := c.away ++ [raw] })

/-- A block's saved image is reloaded; none when it reads poison (R341, R343). -/
def State.loadBlock (s : State) (a raw : Nat) : Option State :=
  let (s1, bs, bad) := s.readAt ((s.context a).blockAt raw) 66560
  if bad then none
  else
    let bit := fun (at_ g : Nat) => (bs.getD (at_ + g / 8) 0).toNat / 2 ^ (g % 8) % 2 == 1
    let s2 := s1.zeroBlock raw
    let s3 := { s2 with st := { s2.st with mem := Store.setList 0 s2.st.mem raw (bs.take 65536) } }
    let s4 := (List.range 4096).foldl (fun t g =>
      let u := if bit 65536 g then t else t.setEmpty (raw + 16 * g)
      if bit 66048 g then { u with st := { u.st with poison := Store.set false u.st.poison (raw + 16 * g) true } } else u) s3
    some (s4.onContext a fun c => { c with away := c.away.filter (· != raw) })

/-- A context takes one block, from none or by a claim: it is handed over zeroed and FULL, or as the context's own image saved
it; none when that image reads poison (R341, R344, spec/05 R53). -/
def State.takeBlock (s : State) (a raw : Nat) : Option State :=
  let o := s.ownerOf raw
  if o = a then some s
  else
    let s1 := if o = 0 then s else s.saveBlock o raw
    let s2 := s1.setOwner raw a
    if (s2.context a).away.contains raw then s2.loadBlock a raw else some (s2.zeroBlock raw)

end Sys2Proof.Machine
end

