-- ==== Sys2Proof/Machine/Firmware.lean ====
section
/-! DEFINITION. The firmware-only slots: tinv (spec/13 R187, spec/05 R65), retake, ctxsv, ctxld (R188), raw writes and scrubs
(R189, R190), power registers (R191) and the hibernation list (R192). -/

namespace Sys2Proof.Machine

/-! tinv. -/

/-- A cached translation overlaps a range of an ASID; 0 pages are its whole address space (R187). -/
def Tlb.inRange (t : Tlb) (asid : Nat) (va : W64) (pages : Nat) : Bool :=
  t.asid == asid && (pages == 0 || (decide (t.base < va.toNat + 4096 * pages) && decide (va.toNat < t.base + t.size)))

/-- Every cache of the module drops what overlaps the range (spec/05 R65 step 1); the controllers take the frame key entries that
they hold for the ASID from the table again (R80, log 107). -/
def State.dropTlb (s : State) (asid : Nat) (va : W64) (pages : Nat) : State :=
  let keep := fun (l : List Tlb) => l.filter fun t => !t.inRange asid va pages
  let drop := fun (c : Core) => { c with tlb := keep c.tlb }
  let cl := s.st.clusterTlb.foldl (fun m e => Store.set [] m e.1 (keep e.2)) s.st.clusterTlb
  let cs := s.cores.foldl (fun m e => Store.set Core.reset m e.1 (drop e.2)) s.cores
  let keys := (s.keyedFrames asid).foldl (fun m f => Store.set 0 m (f / 4096) (s.tableKey f)) s.st.keys
  { s with core := drop s.core, cores := cs, st := { s.st with clusterTlb := cl, keys := keys } }

/-- Accesses of an ASID that have issued and are not performed: engine operations, entries of write streams, and the watched
writes of an open take, which reach their frames at its commit (spec/05 R65 step 3, spec/07 R84). A control core's are those of
ASID 0. -/
def State.accessesOpen (s : State) (asid : Nat) : Bool :=
  (s.eng.ops.any fun o => o.asid == asid) ||
  s.listed.any fun e => (if isControl e.1 then 0 else field e.2.ctx 15 0) == asid &&
    (!e.2.pushed.isEmpty || !e.2.take.overlay.isEmpty)

/-- TINV: the control core stalls until the acknowledgement (R187, spec/05 R65). -/
def execTinv (a b : BitVec 5) (s : State) : Host.Outcome State Fault Refusal :=
  slot (.tinv a b) (fun t =>
    let asid := field (t.x b) 15 0
    if field (t.x a) 11 0 ≠ 0 then trap .align 1 (t.x a)
    else
      let u := t.dropTlb asid (t.x a) (field (t.x b) 63 16)
      if u.accessesOpen asid then .error (.waitIn u) else .ok u) s

/-- A tinv of an ASID awaits its acknowledgement (spec/25 R340, R345). -/
def State.tinvOpen (s : State) (asid : Nat) : Bool :=
  s.listed.any fun e => isControl e.1 && e.2.run == .blocked && match e.2.bundle with
    | none => false
    | some b => match slotOf b.word b.slotNo with
      | .tinv _ x => (if x = 0 then 0 else field (e.2.x[x.toNat]) 15 0) == asid
      | _ => false

/-! Core state (R188). -/

/-- The core that x[xa] names, when it is one of this control core's die. -/
def State.coreNamed (s : State) (a : BitVec 5) : Option Nat :=
  let n := field (s.x a) 10 0
  if dieOf n = dieOf s.cur then some n else none

/-- A stopped core resumes at TAKEPC with its restart image (R188, spec/03 R40). -/
def State.resume (s : State) (n : Nat) : State := s.withCore n fun t => ({ t with core := t.core.discarded }).restart

/-- RETAKE: the shot resumes, and its pair is balanced with it (spec/23 R320, spec/33 R393). -/
def execRetake (d a : BitVec 5) (s : State) : Host.Outcome State Fault Refusal :=
  slot (.retake d a) (fun t =>
    match t.coreNamed a with
    | none => .ok (t.setX d 1)
    | some n => if (t.coreAt n).run = .stopped then .ok (((t.resume n).balanceStart (pairOf n)).setX d 0) else .ok (t.setX d 1)) s

/-- Long runs of resolved bytes are written 64 at a time. -/
def State.writeRun (s : State) (ts : List Touch) (bs : List Byte) (bad : Bool) : State :=
  (List.range ((bs.length + 63) / 64)).foldl (fun t k =>
    let us := (ts.drop (64 * k)).take 64
    let u := t.writeCore (writesOf us ((bs.drop (64 * k)).take 64))
    if bad then us.foldl (fun v c => v.markPoison c.raw) u else u) s

/-- CTXSV: writes a part of a stopped core; an uncorrectable error poisons the part as written and is noticed at the restore
(R188, spec/25 R343). -/
def execCtxsv (d a b : BitVec 5) (p : BitVec 4) (s : State) : Host.Outcome State Fault Refusal :=
  slot (.ctxsv d a b p) (fun t =>
    match t.coreNamed a with
    | none => .ok (t.setX d 1)
    | some n =>
      if (t.coreAt n).run ≠ .stopped then .ok (t.setX d 1)
      else if (t.x b).toNat % 64 ≠ 0 then .ok (t.setX d 2)
      else do
        let (t1, ts) ← t.check { write := true } [(t.x b, partSize p.toNat)] none
        let (t2, bad) := t1.flushStreams.readPart n p.toNat
        pure ((t2.writeRun ts ((t2.coreAt n).partBytes p.toNat) bad).setX d 0)) s

/-- An idle core that is loaded holds a stopped shot of the context that its CTX names (R188), and its pair is balanced with it
(spec/23 R320, spec/33 R393). -/
def State.holdLoaded (s : State) (n : Nat) : State :=
  if (s.coreAt n).run = .idle then
    (s.onCore n fun c =>
      let sh := ((s.context (field c.ctx 15 0)).saved.find? (·.core == n)).map (·.shot)
      { c with run := .stopped, why := .loaded, ballast := none,
               shot := some (sh.getD { launch := 2 ^ 64, index := 0, kind := .placed }) }).balanceStart (pairOf n)
  else s

/-- CTXLD: loads a part of a stopped or idle core; poison loads nothing (R188). -/
def execCtxld (d a b : BitVec 5) (p : BitVec 4) (s : State) : Host.Outcome State Fault Refusal :=
  slot (.ctxld d a b p) (fun t =>
    match t.coreNamed a with
    | none => .ok (t.setX d 1)
    | some n =>
      let r := (t.coreAt n).run
      if r ≠ .stopped ∧ r ≠ .idle then .ok (t.setX d 1)
      else if (t.x b).toNat % 64 ≠ 0 then .ok (t.setX d 2)
      else do
        let (t1, ts) ← t.check {} [(t.x b, partSize p.toNat)] none
        let t2 := t1.flushStreams.settle (ts.map (·.raw))
        if ts.any fun u => u.raw % 16 == 0 && t2.bad u.raw then pure (t2.setX d 3)
        else
          let bs := ts.map fun u => t2.byte u.raw
          pure (((t2.onCore n fun c => c.loadPart p.toNat bs).holdLoaded n).setX d 0)) s

/-! Raw addresses (R186, R189). -/

/-- The words of a register class, and bits of a word (R186, R189). -/
def classWords : Nat → Nat × Nat
  | 0 => (64, 32) | 1 => (8, 64) | 2 => (2048, 32) | 3 => (8192, 32) | 4 => (2048, 32) | 5 => (32768, 32) | 6 => (16, 64)
  | 7 => (128, 64) | 8 => (256, 64) | 9 => (8192, 64) | 10 => (1024, 64) | _ => (0, 0)

/-- A raw address is valid for an access in whole units (R186). -/
def State.rawValid (s : State) (a : W64) : Bool :=
  let l := field a 63 60
  let die := field a 59 57
  let cl := field a 56 53
  let co := field a 52 49
  let off := field a 48 0
  match l with
  | 0 => die < s.liveDies && off < levelSize 0 && off % 8 == 0
  | 1 => die < s.liveDies && co == 0 && off < levelSize 1 && off % 8 == 0
  | 2 => die < s.liveDies && cl == 0 && co == 0 && off < levelSize 2 && off % 8 == 0
  | 3 => field a 59 49 == 0 && off < levelSize 3 && off % 64 == 0
  | 4 => field a 59 49 == 0 && off < levelSize 4 && off % 64 == 0
  | 5 => die < s.liveDies && field a 48 20 == 0 && field a 15 0 < (classWords (field a 19 16)).1
  | 6 => field a 59 49 == 0 && off < levelSize 6 && off % 4096 % 223 == 0
  | _ => false

/-- Bytes of the image of a code word (R189). -/
def imageSize (a : W64) : Nat :=
  match field a 63 60 with
  | 3 | 4 => 80
  | 5 => if (classWords (field a 19 16)).2 = 32 then 5 else 9
  | 6 => 255
  | _ => 9

/-- Replaces bits `lo` to `lo + n - 1` of a word. -/
def putBits {w : Nat} (x : BitVec w) (lo n v : Nat) : BitVec w :=
  let m := BitVec.ofNat w ((2 ^ n - 1) * 2 ^ lo)
  (x &&& ~~~m) ||| (BitVec.ofNat w (v % 2 ^ n * 2 ^ lo))

/-- Core `c` with word `i` of a class written (R186). -/
def Core.setWord (c : Core) (cls i v : Nat) : Core :=
  match cls with
  | 0 => if i < 2 then c else { c with x := c.x.setIfInBounds (i / 2) (putBits (c.x.getD (i / 2) 0) (i % 2 * 32) 32 v) }
  | 1 => if i = 0 then c else { c with p := c.p.setIfInBounds i (w64 v) }
  | 2 => { c with v := c.v.setIfInBounds (i / 64) ((c.v.getD (i / 64) Lanes.zero).setIfInBounds (i % 64) (BitVec.ofNat 32 v)) }
  | 3 =>
    let n := i / 512
    let k := (i / 64 % 8 + 8 - c.qhead.getD n 0) % 8
    let es := c.q.getD n []
    { c with q := c.q.setIfInBounds n (es.set k ((es.getD k Lanes.zero).setIfInBounds (i % 64) (BitVec.ofNat 32 v))) }
  | 4 =>
    let m := c.m.getD (i / 128) { mean := Lanes.zero, var := Lanes.zero }
    let l := i / 2 % 64
    let m' := if i % 2 = 0 then { m with mean := m.mean.setIfInBounds l (BitVec.ofNat 32 v) }
      else { m with var := m.var.setIfInBounds l (BitVec.ofNat 32 v) }
    { c with m := c.m.setIfInBounds (i / 128) m' }
  | 5 =>
    let z := c.z.getD (i / 4096) (Vector.replicate 64 Lanes.zero)
    let r := (z.getD (i / 64 % 64) Lanes.zero).setIfInBounds (i % 64) (BitVec.ofNat 32 v)
    { c with z := c.z.setIfInBounds (i / 4096) (z.setIfInBounds (i / 64 % 64) r) }
  | 6 =>
    let o := c.o.getD (i / 2) { addr := 0, stride := 0 }
    { c with o := c.o.setIfInBounds (i / 2) (if i % 2 = 0 then { o with addr := BitVec.ofNat 21 v } else { o with stride := w64 v }) }
  | 7 => { c with sd := c.sd.setIfInBounds (i / 8) (sdOfImage (putBits ((c.sd.getD (i / 8) Sd.reset).image) (i % 8 * 64) 64 v)) }
  | 8 => { c with cd := c.cd.setIfInBounds (i / 8) (putBits (c.cd.getD (i / 8) 0) (i % 8 * 64) 64 v) }
  | 9 => { c with bufs := Store.setList 0 c.bufs (8 * i) (leBytes 8 v) }
  | 10 => { c with scales := Store.setList 0 c.scales (8 * i) (leBytes 8 v) }
  | _ => c

/-- The number of wrong bits that a SECDED word is kept with: 0, 1, or 2 for all that it detects, and the data it gives. -/
def secded (w data check : Nat) : Nat × Nat :=
  let n := Config.secdedErrors w data check
  if n = 0 then (0, data) else if n = 1 then (1, Config.secdedWord w data check) else (2, data)

/-- The syndrome of a SECDED image, known where it is in error: the codes' matrices are not stated (spec/27 R347, R353). -/
def secdedSyn (w data check : Nat) : Option Nat :=
  if Config.secdedErrors w data check = 0 then none else some (Config.secdedSyndrome w data check)

/-! Tier blocks (spec/29 R364, log 14). -/

/-- The raw address of a tier block. -/
def tierRaw (block : Nat) : Nat := rawOf 6 (4096 * block)

/-- The key pair of a generation's tier blocks (R364; the info string is the model's, log 14). -/
def tierKey (gen : Nat) : List Byte := sized 64 (Config.hkdf Config.deviceSecret (leBytes 8 gen) (leBytes 4 0x72656974))

/-- The tweak of a tier block: its number in bits 29:0, GEN bits 31:0 in bits 95:64 (R364). -/
def tierTweak (block gen : Nat) : Nat := block % 2 ^ 30 + gen % 2 ^ 32 * 2 ^ 64

/-- Blocks of the first GiB hold the slate slots, in clear (R364). -/
def clearBlock (block : Nat) : Bool := decide (block < 262144)

/-- The generation under which a tier block is encrypted; 0 where no drain has written it. -/
def State.tierGen (s : State) (block : Nat) : Nat := ((Store.get none s.st.seals (tierRaw block)).getD (0, 0)).1

/-- The ciphertext of a tier block (R364). -/
def State.tierCipher (s : State) (block : Nat) : List Byte :=
  let plain := Store.getList 0 s.st.mem (tierRaw block) 4096
  if clearBlock block then plain
  else xtsEncrypt (tierKey (s.tierGen block)) (tierTweak block (s.tierGen block)) plain

/-- A tier block as it is read under the key of a generation (R364). -/
def State.tierBlock (s : State) (gen block : Nat) : List Byte :=
  if clearBlock block ∨ s.tierGen block = gen then Store.getList 0 s.st.mem (tierRaw block) 4096
  else xtsDecrypt (tierKey gen) (tierTweak block gen) (s.tierCipher block)

/-- The image of a tier segment with the symbols that R349 does not store taken as zero: 82 to 222 of segment 18. -/
def segmentImage (a : W64) (img : List Byte) : List Nat :=
  (List.range 255).map fun k =>
    if field a 11 0 = 4014 ∧ 82 ≤ k ∧ k ≤ 222 then 0 else (img.getD k 0).toNat

/-- The wrong symbols that a segment is kept with: as many as the decoder corrects, or so many that it detects them surely. -/
def segmentFlaws (n : Nat) : Nat := if n ≤ 16 then n else 2 ^ 16

/-- The data symbols of a tier segment become others: they are ciphertext, so the AES blocks that they lie in change (spec/27 R349). -/
def State.putSegment (s : State) (raw : Nat) (bs : List Byte) : State :=
  let block := raw % 2 ^ 60 / 4096
  let at_ := raw % 4096
  let len := Nat.min 223 (4096 - at_)
  let cipher := s.tierCipher block
  let cipher' := cipher.take at_ ++ bs.take len ++ cipher.drop (at_ + len)
  let gen := s.tierGen block
  let plain := if clearBlock block then cipher'
    else xtsDecrypt (tierKey gen) (tierTweak block gen) cipher'
  { s with st := { s.st with mem := Store.setList 0 s.st.mem (tierRaw block) plain } }

/-- A tier segment is written raw (spec/27 R349). -/
def State.writeSegment (s : State) (raw : Nat) (symbols : List Nat) : State :=
  let (n, w) := decodeSegment symbols
  let t := s.putSegment raw (w.map (BitVec.ofNat 8 ·))
  { t with st := { t.st with
      syns := Store.set none s.st.syns raw (if n = 0 then none else some (leSymbols (syndromes 16 symbols)))
      flaws := Store.set 0 t.st.flaws raw (segmentFlaws n) } }

/-- A tier segment is found uncorrectable: more than 16 wrong symbols are detected or miscorrected, and several upsets may have
struck fewer symbols than their sum (spec/27 R349). -/
def State.segmentBad (s : State) (raw : Nat) : Bool :=
  let n := s.flaws raw
  decide (2 ^ 16 ≤ n) || (decide (16 < n) && s.free raw % 2 == 0)

/-- Writes one code word raw at a valid raw address (R189). -/
def State.writeRaw (s : State) (a : W64) (img : List Byte) : State :=
  let raw := a.toNat
  match field a 63 60 with
  | 3 | 4 => s.rawLine raw img
  | 5 =>
    let cls := field a 19 16
    let b := (classWords cls).2
    let check := leAt img (b / 8) 1 % (if b = 32 then 128 else 256)
    let (n, d) := secded b (leAt img 0 (b / 8)) check
    let t := s.onCore (raw / 2 ^ 49 % 2 ^ 11) fun c =>
      let c1 := c.setWord cls (field a 15 0) d
      { c1 with upsets := Store.set 0 c1.upsets (field a 19 0) n }
    { t with st := { t.st with syns := Store.set none t.st.syns raw (secdedSyn b (leAt img 0 (b / 8)) check) } }
  | 6 => s.writeSegment raw (segmentImage a img)
  | _ =>
    let (n, d) := secded 64 (leAt img 0 8) (leAt img 8 1)
    let t := { s with st := { s.st with
        mem := Store.setList 0 s.st.mem raw (leBytes 8 d)
        flaws := Store.set 0 s.st.flaws raw n
        syns := Store.set none s.st.syns raw (secdedSyn 64 (leAt img 0 8) (leAt img 8 1)) } }
    if t.isCombine raw then t.rowFromWord raw else t

/-- The raw address names a word of a core that holds a running shot, where dstw treats it as invalid (spec/27 R353). -/
def State.coreRuns (s : State) (a : W64) : Bool :=
  let c := s.coreAt (a.toNat / 2 ^ 49 % 2 ^ 11)
  field a 63 60 == 5 && (c.run == .running || c.run == .blocked)

/-- DSTW. A pad of a shed die cannot be accessed and is answered as an invalid address is (spec/29 R371; DESIGN CHOICE, log 94). -/
def execDstw (d a b : BitVec 5) (s : State) : Host.Outcome State Fault Refusal :=
  slot (.dstw d a b) (fun t =>
    if !t.rawValid (t.x a) || t.coreRuns (t.x a) || t.retained (t.x a).toNat then .ok (t.setX d 1)
    else do
      let (u, bs) ← t.load [(t.x b, imageSize (t.x a))] none
      pure ((u.writeRaw (t.x a) bs).setX d 0)) s

/-- The unit of a level as scrb counts it; a tier range covers whole blocks (R189, R190, spec/27 R349). -/
def scrubUnit : Nat → Nat
  | 3 | 4 => 64
  | 6 => 4096
  | _ => 8

/-- Scrubs one tier segment: one without a wrong symbol is left, one that can be corrected is written back, and one that is
miscorrected stands as what the decoder made of it, each symbol free (R190, spec/27 R349). -/
def State.scrubSegment (s : State) (raw : Nat) : State :=
  if s.flaws raw = 0 then s
  else if s.segmentBad raw then s.countEvent raw 2
  else
    let t := (s.countEvent raw 1).clearFlaw raw
    if s.flaws raw ≤ 16 then t else t.putSegment raw ((List.range 223).map fun k => BitVec.ofNat 8 (s.free (raw + k + 1)))

/-- Scrubs `n` bytes from a valid raw address; how many uncorrectable words were found (R190). The words in error are visited in the
order in which the model lists them (DESIGN CHOICE, log 94). -/
def State.scrubRange (s : State) (raw n : Nat) : State × Nat :=
  let l := levelOf raw
  if l = 3 ∨ l = 4 then
    (List.range (n / 64)).foldl (fun a k =>
      let (t, c, _) := a.1.scrubLine (raw + 64 * k)
      (t, if c = 3 then a.2 + 1 else a.2)) (s, 0)
  else
    let ws := ((s.st.flaws.filter fun e => raw ≤ e.1 && e.1 < raw + n).map (·.1))
    ws.foldl (fun a w =>
      let bad := if l = 6 then a.1.segmentBad w else a.1.uncorrectable w
      (if l = 6 then a.1.scrubSegment w else a.1.settlePad w, if bad then a.2 + 1 else a.2)) (s, 0)

/-- SCRB. A range that begins at a valid address and passes the end of its level is answered with all ones and nothing is scrubbed,
as an invalid address is, and so is a pad of a shed die, which cannot be accessed (spec/29 R371): R190 names neither (DESIGN
CHOICE, log 94). -/
def execScrb (d a b : BitVec 5) (s : State) : Host.Outcome State Fault Refusal :=
  slot (.scrb d a b) (fun t =>
    let r := t.x a
    let l := field r 63 60
    let n := (t.x b).toNat
    if !t.rawValid r ∨ t.retained r.toNat ∨ l = 5 ∨ n % scrubUnit l ≠ 0 ∨ (l = 6 ∧ field r 11 0 ≠ 0) ∨ levelSize l < field r 48 0 + n then
      .ok (t.setX d 0xFFFFFFFFFFFFFFFF#64)
    else
      let (u, bad) := t.scrubRange r.toNat n
      .ok (u.setX d (w64 bad))) s

/-! Power registers (R191). -/

/-- PWRCAP as it reads after a write: SHARE 0 as 1, CLKCAP 0 as 1 and above 10 as 10 (spec/33 R393). A SHARE above 100 stays as
written (DESIGN CHOICE, log 110). -/
def pwrcapOf (v : W64) : W64 :=
  w64 (Nat.max 1 (field v 23 16) * 2 ^ 16 + Nat.min 10 (Nat.max 1 (field v 15 8)) * 2 ^ 8 + field v 0 0)

/-- The stacked pairs on which a context has a shot. -/
def State.pairsWith (s : State) (a : Nat) : List Nat :=
  dedup ((s.listed.filter fun e => !isControl e.1 && e.2.shot.isSome && field e.2.ctx 15 0 == a).map fun e => pairOf e.1)

/-- PWRW of PWRCAP: ignored when no live context holds the ASID; it is in force at once where the context has shots, so ballast
that it forbids stops and a cap takes its place (R191, spec/23 R320, spec/33 R393). -/
def execPwrwPwrcap (a b : BitVec 5) (s : State) : Host.Outcome State Fault Refusal :=
  slot (.pwrwPwrcap a b) (fun t =>
    let n := field (t.x a) 15 0
    let c := t.context n
    .ok (if c.live then
      let u := t.setContext n { c with pwrcap := pwrcapOf (t.x b) }
      (u.pairsWith n).foldl State.balanceStart u
    else t)) s

/-- PWRW of CURLIM. -/
def execPwrwCurlim (a b : BitVec 5) (s : State) : Host.Outcome State Fault Refusal :=
  slot (.pwrwCurlim a b) (fun t =>
    let n := field (t.x a) 2 0
    .ok (t.setDie n { t.die n with curlim := field (t.x b) 15 0 })) s

/-! The hibernation list (R192). -/

/-- The status of an edit, and the list after it. -/
def State.hibEdit (s : State) (x r : W64) : Nat × Store (Option HibEntry) :=
  let op := field x 17 16
  let l := field r 63 60
  let list := s.mod.hiblist
  if op = 3 ∨ (op = 0 ∧ field x 63 24 = 0) ∨ field x 23 18 ≠ 0 then (1, list)
  else if op = 0 ∧ (!s.rawValid r ∨ (l ≠ 3 ∧ l ≠ 4) ∨ field r 11 0 ≠ 0 ∨ levelSize l < field r 48 0 + 4096 * field x 63 24) then
    (2, list)
  else if s.mod.hibheld then (3, list)
  else if op = 0 then
    (0, Store.set none list (field x 7 0)
      (some { raw := r, pages := field x 63 24, prio := field x 11 8, flags := field x 15 12 }))
  else if op = 1 then (0, Store.set none list (field x 7 0) none)
  else (0, [])

/-- An edit of the hibernation list, with its status. -/
def State.hibw (s : State) (d a b : BitVec 5) : State :=
  let (st, list) := s.hibEdit (s.x a) (s.x b)
  { s with mod := { s.mod with hiblist := list } }.setX d (w64 st)

/-- HIBW: OP of x[xa] chooses the edit. -/
def execHibwSetEntry (d a b : BitVec 5) (s : State) : Host.Outcome State Fault Refusal :=
  slot (.hibwSetEntry d a b) (fun t => .ok (t.hibw d a b)) s

/-- HIBW with OP 01, clear entry. -/
def execHibwClearEntry (d a b : BitVec 5) (s : State) : Host.Outcome State Fault Refusal :=
  slot (.hibwClearEntry d a b) (fun t => .ok (t.hibw d a b)) s

/-- HIBW with OP 10, clear all. -/
def execHibwClearAll (d a b : BitVec 5) (s : State) : Host.Outcome State Fault Refusal :=
  slot (.hibwClearAll d a b) (fun t => .ok (t.hibw d a b)) s

end Sys2Proof.Machine
end

