-- ==== Sys2Proof/Machine/ScalarMem.lean ====
section
/-! DEFINITION. Scalar loads and stores, and presence (spec/13 R176, R177). -/

namespace Sys2Proof.Machine

/-- The bytes of a size code (R176). -/
def sizeOf (z : Nat) : Nat := 2 ^ (z % 4)

/-- The effective address of an S.M slot (R177). -/
def State.ea (s : State) (a : BitVec 5) (i : BitVec 9) (scale : Nat) : W64 :=
  s.x a + i.signExtend 64 * BitVec.ofNat 64 scale

/-- A loaded value widened to a register: sign-extended from its size when `sx`, else zero-extended (R177). -/
def widenTo (sx : Bool) (n v : Nat) : W64 :=
  if sx then (BitVec.ofNat (8 * n) v).signExtend 64 else BitVec.ofNat 64 v

/-- LD. -/
def execLd (d a : BitVec 5) (i : BitVec 9) (f : BitVec 3) (s : State) : Host.Outcome State Fault Refusal :=
  slot (.ld d a i f) (fun t => do
    let n := sizeOf f.toNat
    let (u, v) ← t.loadWord (t.ea a i n) n
    pure (u.setX d (widenTo (f.getLsbD 2) n v))) s

/-- ST. -/
def execSt (x a : BitVec 5) (i : BitVec 9) (z : BitVec 2) (s : State) : Host.Outcome State Fault Refusal :=
  slot (.st x a i z) (fun t =>
    let n := sizeOf z.toNat
    t.storeWord (t.ea a i n) n (t.x x)) s

/-- LDW: a consuming load; it blocks while a granule is EMPTY or claimed (spec/05 R54). -/
def execLdw (d a : BitVec 5) (i : BitVec 9) (f : BitVec 3) (s : State) : Host.Outcome State Fault Refusal :=
  slot (.ldw d a i f) (fun t => do
    let n := sizeOf f.toNat
    let (u, bs) ← t.consume (t.ea a i n) n (f.getLsbD 2)
    pure (u.setX d (widenTo false n (leNat bs)))) s

/-- STF: a store that sets its granule FULL (spec/05 R53, R55). -/
def execStf (x a : BitVec 5) (i : BitVec 9) (z : BitVec 2) (s : State) : Host.Outcome State Fault Refusal :=
  slot (.stf x a i z) (fun t =>
    let n := sizeOf z.toNat
    t.storeFull (t.ea a i n) n (leBytes n (t.x x).toNat)) s

/-- PCLR. -/
def execPclr (n a : BitVec 5) (i : BitVec 9) (s : State) : Host.Outcome State Fault Refusal :=
  slot (.pclr n a i) (fun t => t.clearPresence (t.ea a i 16) (t.x n)) s

end Sys2Proof.Machine
end

