-- ==== Sys2Proof/Machine/VectorMem.lean ====
section
/-! DEFINITION. Vector memory access, predicates, queues, streams and parking: spec/15 R212-R230. -/

namespace Sys2Proof.Machine

/-! Memory access (R212-R215). -/

/-- The effective address of a V.M slot: the offset counts 256 bytes (R212). -/
def State.eaV (s : State) (a : BitVec 5) (i : BitVec 7) : W64 := s.x a + (i.signExtend 64 <<< 8)

/-- VLD (R212). -/
def execVld (d : BitVec 6) (a : BitVec 5) (i : BitVec 7) (g : BitVec 3) (s : State) :
    Host.Outcome State Fault Refusal :=
  slot (.vld d a i g) (fun t => do
    let ea := t.eaV a i
    let m := t.p g
    let (u, bs) ← t.load (vecRanges 4 ea m) (vecMisaligned 4 ea m)
    u.dst d m (scatterLanes 4 (lanesIn m) bs)) s

/-- VST (R212). -/
def execVst (x : BitVec 6) (a : BitVec 5) (i : BitVec 7) (g : BitVec 3) (s : State) :
    Host.Outcome State Fault Refusal :=
  slot (.vst x a i g) (fun t => do
    let ea := t.eaV a i
    let m := t.p g
    let (u, e) ← t.src x
    u.store (vecRanges 4 ea m) (vecMisaligned 4 ea m) (gatherBytes 4 (lanesIn m) e)) s

/-- VLDW: 16 granules tested and read as one action (R213, spec/05 R54). -/
def execVldw (d : BitVec 6) (a : BitVec 5) (i : BitVec 7) (q : BitVec 1) (s : State) :
    Host.Outcome State Fault Refusal :=
  slot (.vldw d a i q) (fun t => do
    let (u, bs) ← t.consume (t.eaV a i) 256 (q == 1)
    u.dst d allLanes (scatterLanes 4 (List.range 64) bs)) s

/-- VSTF (R213, spec/05 R53, R55). -/
def execVstf (x : BitVec 6) (a : BitVec 5) (i : BitVec 7) (s : State) : Host.Outcome State Fault Refusal :=
  slot (.vstf x a i) (fun t => do
    let (u, e) ← t.src x
    u.storeFull (t.eaV a i) 256 (gatherBytes 4 (List.range 64) e)) s

/-- The ranges of the active lanes at indexed addresses (R214). -/
def indexedRanges (base : W64) (size : Nat) (mask : W64) (idx : Lanes) : List (W64 × Nat) :=
  (lanesIn mask).map fun i => (base + (idx[i]?.getD 0).signExtend 64 * BitVec.ofNat 64 size, size)

/-- VLDS (R214). -/
def execVlds (d : BitVec 6) (r b : BitVec 5) (g : BitVec 3) (f : BitVec 2) (s : State) :
    Host.Outcome State Fault Refusal :=
  slot (.vlds d r b g f) (fun t => do
    let n := elemSize f
    let m := t.p g
    let rs := (lanesIn m).map fun i => (t.x b + BitVec.ofNat 64 i * t.x r, n)
    let (u, bs) ← t.load rs (lowestMisaligned rs)
    u.dst d m (scatterLanes n (lanesIn m) bs)) s

/-- VLDG (R214). -/
def execVldg (d a : BitVec 6) (b : BitVec 5) (g : BitVec 3) (f : BitVec 2) (s : State) :
    Host.Outcome State Fault Refusal :=
  slot (.vldg d a b g f) (fun t => do
    let n := elemSize f
    let m := t.p g
    let (u, idx) ← t.src a
    let rs := indexedRanges (t.x b) n m idx
    let (v, bs) ← u.load rs (lowestMisaligned rs)
    v.dst d m (scatterLanes n (lanesIn m) bs)) s

/-- VSTS: active lanes in ascending order, so the highest lane of a repeated address remains (R214). -/
def execVsts (x a : BitVec 6) (b : BitVec 5) (g : BitVec 3) (f : BitVec 2) (s : State) :
    Host.Outcome State Fault Refusal :=
  slot (.vsts x a b g f) (fun t => do
    let n := elemSize f
    let m := t.p g
    let (u, idx) ← t.src a
    let (v, e) ← u.src x
    let rs := indexedRanges (t.x b) n m idx
    v.store rs (lowestMisaligned rs) (gatherBytes n (lanesIn m) e)) s

/-! Predicates (R216, R217). -/

/-- A predicate operation of two sources. -/
def pred2 (f : W64 → W64 → W64) (d a b g : BitVec 3) (s : State) : Res State :=
  .ok (s.dstP d (s.p g) (f (s.p a) (s.p b)))

/-- PAND. -/
def execPand (d a b g : BitVec 3) (s : State) : Host.Outcome State Fault Refusal :=
  slot (.pand d a b g) (pred2 (fun x y => x &&& y) d a b g) s

/-- POR. -/
def execPor (d a b g : BitVec 3) (s : State) : Host.Outcome State Fault Refusal :=
  slot (.por d a b g) (pred2 (fun x y => x ||| y) d a b g) s

/-- PXOR. -/
def execPxor (d a b g : BitVec 3) (s : State) : Host.Outcome State Fault Refusal :=
  slot (.pxor d a b g) (pred2 (fun x y => x ^^^ y) d a b g) s

/-- PNOT. -/
def execPnot (d a g : BitVec 3) (s : State) : Host.Outcome State Fault Refusal :=
  slot (.pnot d a g) (fun t => .ok (t.dstP d (t.p g) (~~~t.p a))) s

/-- The number of one bits. -/
def ones (m : W64) : Nat := (lanesIn m).length

/-- PCNT: the count of the masked bits, or the bits themselves (R217). -/
def execPcnt (a : BitVec 3) (x : BitVec 5) (g : BitVec 3) (f : BitVec 2) (s : State) :
    Host.Outcome State Fault Refusal :=
  slot (.pcnt a x g f) (fun t =>
    let m := t.p a &&& t.p g
    .ok (t.setX x (if f = 0 then BitVec.ofNat 64 (ones m) else m))) s

/-- PFIRST: the lowest, or the highest, one bit; 64 when there is none (R217). -/
def execPfirst (a : BitVec 3) (x : BitVec 5) (g : BitVec 3) (f : BitVec 2) (s : State) :
    Host.Outcome State Fault Refusal :=
  slot (.pfirst a x g f) (fun t =>
    let l := lanesIn (t.p a &&& t.p g)
    .ok (t.setX x (BitVec.ofNat 64 (if f = 0 then l.headD 64 else l.getLastD 64)))) s

/-! Queues and streams (R218-R227). -/

/-- QCNT: timing-dependent for a streamed register (R218). -/
def execQcnt (q : BitVec 4) (x : BitVec 5) (s : State) : Host.Outcome State Fault Refusal :=
  slot (.qcnt q x) (fun t =>
    let n := BitVec.ofNat 64 (t.queueCount q.toNat)
    match t.boundTo q.toNat with
    | none => .ok (t.setX x n)
    | some _ => do
      let (u, v) ← t.timed n
      pure (u.setX x v)) s

/-- QCLR (R219). -/
def execQclr (q : BitVec 4) (s : State) : Host.Outcome State Fault Refusal :=
  slot (.qclr q) (fun t => t.clearQueue q.toNat) s

/-- QBIND (R223). -/
def execQbind (q k : BitVec 4) (s : State) : Host.Outcome State Fault Refusal :=
  slot (.qbind q k) (fun t => t.bindQueue q.toNat k.toNat) s

/-- QUNBIND (R226). -/
def execQunbind (q : BitVec 4) (s : State) : Host.Outcome State Fault Refusal :=
  slot (.qunbind q) (fun t => t.unbindQueue q.toNat) s

/-- SBIND (R222). -/
def execSbind (k : BitVec 4) (x : BitVec 5) (s : State) : Host.Outcome State Fault Refusal :=
  slot (.sbind k x) (fun t => t.bindTemplate k.toNat (t.x x)) s

/-- SPOS (R227). -/
def execSpos (k : BitVec 4) (x : BitVec 5) (s : State) : Host.Outcome State Fault Refusal :=
  slot (.spos k x) (fun t => .ok (t.setX x (BitVec.ofNat 64 (t.sd k.toNat).cursor))) s

/-! Parking (R229, R230). -/

/-- The row that x[xr] names, checked in order: BADROW, INTILE, and NOTPARKED where one must be parked (R230, spec/17 R253). -/
def State.parkRow (s : State) (x : W64) (parked : Bool) : Res Nat := do
  need (x.toNat < 512) .park 1
  need (!s.tileRow x.toNat) .park 2
  need (!parked || s.core.parked.contains x.toNat) .park 3
  pure x.toNat

/-- VPARK: a pending free of the row stays pending (log 103). -/
def execVpark (a : BitVec 6) (x : BitVec 5) (s : State) : Host.Outcome State Fault Refusal :=
  slot (.vpark a x) (fun t => do
    let (u, e) ← t.src a
    let r ← u.parkRow (t.x x) false
    let v := u.setZrow (r / 64) (r % 64) e
    pure { v with core := { v.core with parked := dedup (v.core.parked ++ [r]) } }) s

/-- VUNPARK. -/
def execVunpark (d : BitVec 6) (x : BitVec 5) (s : State) : Host.Outcome State Fault Refusal :=
  slot (.vunpark d x) (fun t => do
    let r ← t.parkRow (t.x x) true
    t.dst d allLanes (t.zrow (r / 64) (r % 64))) s

/-- VUNPARK_FREE: the row is free when the take commits. -/
def execVunparkFree (d : BitVec 6) (x : BitVec 5) (s : State) : Host.Outcome State Fault Refusal :=
  slot (.vunparkFree d x) (fun t => do
    let r ← t.parkRow (t.x x) true
    let u ← t.dst d allLanes (t.zrow (r / 64) (r % 64))
    pure { u with core := { u.core with take := { u.core.take with frees := dedup (u.core.take.frees ++ [r]) } } }) s

end Sys2Proof.Machine
end

