-- ==== Sys2Proof/Machine/CoreEvents.lean ====
section
/-! DEFINITION. Steps of a core that are events of their own: dispatch and fetch (spec/11 R142, R400), the commit before a
bundle (spec/03 R38), the walk (spec/05 R63), the end of a wait (spec/03 R44, spec/05 R54, R65, spec/21 R301), the start of a
spawned shot (spec/03 R36), streams (spec/15 R224, R225) and wounds (spec/07 R89). -/

namespace Sys2Proof.Machine

/-! The current core. -/


/-- The current core may fetch its next bundle: it leads, and no member of its gang is behind or strays. -/
def State.mayFetch (s : State) : Bool := s.cur == s.lead && !s.behind && s.strays.isNone

/-- BUNDLE_FETCH: the bundle at the pc is fetched ahead; the trap of a fetch that fails is raised when it is dispatched
(spec/11 R400). -/
def execBundleFetch (s : State) : Host.Outcome State Fault Refusal :=
  .next (if s.mayFetch then (match s.fetch with | .ok (t, _) => t | .error _ => s) else s)

/-- The current core stands at the boundary before a bundle that begins a take: the state that has fetched the bundle
(spec/03 R37). -/
def State.atBoundary (s : State) : Option State :=
  if !s.mayFetch || !s.core.take.started then none
  else match s.fetch with
    | .error _ => none
    | .ok (s1, w) =>
      let replay := s1.core.loop.any fun l => l.head == s1.core.pc
      if (s1.refuses w).isSome || (s1.diverges w replay).isSome || !beginsTakeAt w || s1.skipsLoop w replay || s1.anyHeld w
      then none else some s1

/-- The take commits where the core stands at its boundary and nothing bars it (spec/03 R38, R39). -/
def State.takeCommit (s : State) : State :=
  match s.atBoundary with
  | none => s
  | some s1 => match s1.boundaryAll with
    | .error e => s.notCommitted e
    | .ok s2 => s2

/-- TAKE_COMMIT: the boundary before a bundle that begins a take (spec/03 R37-R39). -/
def execTakeCommit (s : State) : Host.Outcome State Fault Refusal := .next s.takeCommit

/-- TRANSLATION_WALK: the walk of an address for the current agent fills its caches; a walk that fails leaves nothing
(spec/05 R63). -/
def execTranslationWalk (va : W64) (s : State) : Host.Outcome State Fault Refusal :=
  .next (if !canonical va || padBase ≤ va.toNat then s
  else match s.walk s.asid va with
    | .error _ => s
    | .ok t => s.cache [{ va := va, len := 0, raw := 0, watched := false, leaf := some t }])

/-! The end of a wait. -/

/-- The meaning of a blocking slot. -/
def blockingMeaning : Instr → Option (State → Host.Outcome State Fault Refusal)
  | .cwait h v c => some (execCwait h v c)
  | .ldw d a i f => some (execLdw d a i f)
  | .vldw d a i q => some (execVldw d a i q)
  | .cbal h v n => some (execCbal h v n)
  | .spawn a b => some (execSpawn a b)
  | _ => none

/-- The x registers, where the results of a held slot that has issued join what later slots have left (spec/11 R144). -/
def Slipped.results (e : Slipped) (now after : Vector W64 32) : Vector W64 32 :=
  (dests e.instr).foldl (fun x d => match d with | .x n => x.setIfInBounds n (after.getD n 0) | _ => x) now

/-- The results of a held slot that has issued in a core's snapshot. -/
def Slipped.give (e : Slipped) (after b : Core) : Core :=
  { b with x := e.results b.x after.x
           v := (dests e.instr).foldl (fun v d => match d with | .v n => v.setIfInBounds n (after.v.getD n Lanes.zero) | _ => v) b.v }

/-- The current core at a held slot's own bundle, with the slots that are held before it. -/
def State.atHeld (s : State) (e : Slipped) : State :=
  { s with core := { s.core with bundle := some e.bundle, pc := e.pc, x := e.x, run := .blocked, stalled := e.stalled,
                                 slipped := s.core.slipped.takeWhile (· != e) } }

/-- The held slot has been tried, with the outcome `u`, and is held no more, or is still: the core stands where it stood. -/
def State.triedHeld (s : State) (e : Slipped) (u : State) : State :=
  let c := s.core
  let back := { u.core with bundle := c.bundle, pc := c.pc, run := c.run, stalled := c.stalled }
  if u.core.run = .running then
    let later := (c.slipped.filter (· != e)).map fun f =>
      if (c.slipped.takeWhile (· != e)).contains f then f else { f with x := e.results f.x u.core.x }
    let t := { u with core := { back with x := e.results c.x u.core.x, slipped := later } }
    (t.noted s t.cur ((c.slipped.takeWhile (· != e)).map (·.key))).released e.key (e.give u.core)
  else
    { u with core := { back with x := c.x, slipped := c.slipped.map fun f => if f = e then { f with stalled := u.core.stalled } else f } }

/-- A held slot is tried, as it stands at its own bundle: it issues, or is still held, or it traps or replays the take, and then no
slot after it has had an effect (spec/11 R142, spec/25 R325, R326). -/
def State.trySlipped (s : State) (e : Slipped) : State :=
  match blockingMeaning e.instr with
  | none => s
  | some g =>
    let attempt := fun (t : State) => match g (t.atHeld e) with | .next u => u | _ => t
    let u := attempt s
    if u.core.bundle ≠ some e.bundle ∨ u.core.run = .stopped then attempt (s.undoPast e.key) else s.triedHeld e u

/-- The held slots of the current core are tried in program order, each where it waits for none before it (spec/11 R142). -/
def State.trySlippedAll (s : State) : State :=
  (s.core.slipped.map (·.key)).foldl (fun t k =>
    match t.core.slipped.find? (·.key == k) with
    | none => t
    | some e => if (t.core.slipped.takeWhile (· != e)).any fun f => t.waitsFor f e.instr e.port then t else t.trySlipped e) s

/-- After a slot: its effects are noted where slots before it are held, and the next slot's turn comes (spec/25 R326). -/
def State.afterSlot (u t : State) : State :=
  (if u.cur = t.cur ∧ u.core.slipped = t.core.slipped then u.noted t t.cur (t.core.slipped.map (·.key)) else u).advanceSlot t.cur
    t.core.issued

/-- The slot at which core `n` is blocked, or that a port of it holds, runs again, the blocked one where `f` gives it; then the
present core goes on. -/
def State.retrySlot (s : State) (n : Nat) (f : Instr → Option (State → Host.Outcome State Fault Refusal)) :
    Host.Outcome State Fault Refusal :=
  let t := (s.focus n).trySlippedAll
  if t.core.run ≠ .blocked ∨ t.current.any t.waitsForHeld then .next (t.focus s.cur)
  else match t.current.bind f with
    | none => .next (t.focus s.cur)
    | some g => match g t with
      | .next u => .next ((u.afterSlot t).focus s.cur)
      | .fault e => .fault e
      | .refused r => .refused r

/-- TINV_ACK: a control core that stalls at a tinv goes on when no access remains open (spec/05 R65). -/
def execTinvAck (core : Nat) (s : State) : Host.Outcome State Fault Refusal :=
  s.retrySlot core fun i => match i with
    | .tinv a b => some (execTinv a b)
    | _ => none

/-- CONSUMING_LOAD_WAKE: a consuming load that waits finds its granules FULL (spec/05 R54). -/
def execConsumingLoadWake (core : Nat) (s : State) : Host.Outcome State Fault Refusal :=
  s.retrySlot core fun i => match i with
    | .ldw d a i f => some (execLdw d a i f)
    | .vldw d a c o => some (execVldw d a c o)
    | _ => none

/-- CWAIT_WAKE: a waiter whose counter has reached its target wakes (spec/03 R44). -/
def execCwaitWake (core : Nat) (s : State) : Host.Outcome State Fault Refusal :=
  s.retrySlot core fun i => match i with
    | .cwait h v c => some (execCwait h v c)
    | _ => none

/-- CBAL_WAKE: a waiting cbal takes a slot that has freed (spec/21 R301). -/
def execCbalWake (core : Nat) (s : State) : Host.Outcome State Fault Refusal :=
  s.retrySlot core fun i => match i with
    | .cbal h v n => some (execCbal h v n)
    | _ => none

/-- BUNDLE_DISPATCH: held slots that can issue do; then the bundle at the pc is fetched, checked and latched (spec/11 R142,
spec/25 R325). -/
def execBundleDispatch (s : State) : Host.Outcome State Fault Refusal :=
  let t := s.trySlippedAll
  .next (if t.core.run = s.core.run ∧ t.core.pc = s.core.pc then t.dispatch else t)

/-! Streams (spec/15 R224, R225). -/

/-- STREAM_FETCH: a read stream of a core that runs a shot fetches an entry ahead. -/
def execStreamFetch (core sd : Nat) (s : State) : Host.Outcome State Fault Refusal :=
  .next (s.withCore core fun t =>
    if (t.core.run = .running ∨ t.core.run = .blocked) ∧ sd < 16 then t.prefetch sd else t)

/-- STREAM_ENTRY_WRITE: the `entry`-th of the entries pushed through q register `q` and not yet written is written; those of the open
take wait while a slot of it is held (spec/25 R326; log 98). -/
def execStreamEntryWrite (core q entry : Nat) (s : State) : Host.Outcome State Fault Refusal :=
  .next (s.withCore core fun t =>
    let free := fun (p : Pushed) => p.q == q && (p.committed || t.core.slipped.isEmpty)
    let at_ := (List.range t.core.pushed.length).filter fun i => (t.core.pushed[i]?).any free
    match at_[entry]? with
    | none => t
    | some i => t.writeEntry i)

/-! Wounds (spec/07 R89). -/

/-- A core has stalled for a reader slot of a line for 256 clk since the last comparison, and is older than core `n`. -/
def State.wounds (s : State) (l n : Nat) (e : Nat × Core) : Bool :=
  (e.2.stalls.any fun t => t.1 == l && decide (256 ≤ (s.mod.clk - t.2).toNat)) && s.older e.1 n

/-- Core `n` is the youngest holder of a line's three reader slots, and yields to a reader that has stalled there. -/
def State.woundable (s : State) (n : Nat) : Bool :=
  (s.coreAt n).take.log.any fun l =>
    let rs := (s.watchOf l).readers.map (·.1)
    rs.length == 3 && rs.contains n && rs.all (fun m => m == n || s.older m n) && s.listed.any (s.wounds l n)

/-- The stalled readers that have made their comparison wait 256 clk for the next (R89). -/
def State.compared (s : State) (n : Nat) : State :=
  let lines := (s.coreAt n).take.log
  (s.listed.filter fun e => lines.any fun l => s.wounds l n e).foldl (fun t e =>
    let next := fun (p : Nat × W64) => (p.1, p.2 + w64 ((s.mod.clk - p.2).toNat / 256 * 256))
    t.onCore e.1 fun c => { c with stalled := c.stalled.map next
                                   slipped := c.slipped.map fun x => { x with stalled := x.stalled.map next } }) s

/-- The take of core `n` is discarded without a trap record, with that of every member of its gang, and each goes on at its
TAKEPC (spec/07 R89, spec/03 R35). -/
def State.discardAll (s : State) (n : Nat) : State :=
  ((s.focus n).eachMember fun u => u.discard.restart).focus s.cur

/-- WOUND: the youngest holder of a slot yields to an older reader that has stalled for it for 256 clk. -/
def execWound (core : Nat) (s : State) : Host.Outcome State Fault Refusal :=
  let r := (s.coreAt core).run
  .next (if (r = .running ∨ r = .blocked) ∧ s.woundable core then (s.compared core).discardAll core else s)

/-! What moves. -/

/-- The move of the current core: held slots that can issue do; a blocked slot may be held; a bundle is dispatched where none is
latched; and the state comes back with the instruction that its next slot issues. A core that is gated does not move, nor one whose
gang is behind it (spec/11 R142, spec/03 R34, spec/33 R397). -/
def State.coreMove (s : State) : State × Option Instr :=
  if s.core.gated then (s, none)
  else if s.core.pending.isSome then (s.takePending, none)
  else if s.yields then (s.stopPreempted, none)
  else if s.lags then (s, none)
  else
    let u := s.trySlippedAll
    if u.core.run ≠ s.core.run ∨ u.core.bundle ≠ s.core.bundle then (u, none)
    else if u.canSlip && u.free 1 % 2 == 1 then (u.slip, none)
    else
      let t := if u.core.bundle.isNone then u.dispatch else u
      if t.core.run = .running ∨ t.core.run = .blocked then
        if t.current.any t.waitsForHeld then (t.block, none) else (t, t.current)
      else (t, none)

/-- What moves next: the first entry of the agenda, else the current core. The instruction comes with whether it is a slot
of that core (log 3). -/
def State.move (s : State) : State × Option (Instr × Bool) :=
  match s.agenda with
  | .event i :: rest => ({ s with agenda := rest }, some (i, false))
  | .core n :: rest =>
    let (t, i) := ({ s with agenda := rest }.focus n).coreMove
    (t, i.map fun j => (j, true))
  | [] =>
    let (t, i) := s.coreMove
    (t, i.map fun j => (j, true))

end Sys2Proof.Machine
end

