-- ==== Sys2Proof/Machine/Crews.lean ====
section
/-! DEFINITION. What firmware does with cores, blocks, counters and launches: save areas (spec/25 R342), saving and restoring
cores (R333, R338), scratchpad blocks (R341), counters of a context that is not resident (spec/07 R104, R105), the end of a
launch (spec/03 R43) and of a context (spec/25 R343, R344). -/

namespace Sys2Proof.Machine

/-! The save area (spec/25 R342). -/

/-- The context's save area needs no key pair of its own: its lines are HBM lines (log 24). -/
def State.saveParts (s : State) (n : Nat) : State :=
  let base := (s.context (field (s.coreAt n).ctx 15 0)).imageAt n
  (List.range 7).foldl (fun t k =>
    let (u, bad) := t.readPart n k
    u.writeLinesAt (base + partAt k) ((u.coreAt n).partBytes k) bad) s

/-- What firmware keeps of the shot that core `n` holds. -/
def State.savedOf (s : State) (n : Nat) (sh : Shot) : Saved :=
  let c := s.coreAt n
  { core := n, shot := sh, gang := c.gang, why := c.why, dw0 := c.dw0, dw1 := c.dw1, acc := c.acc, ageStep := c.take.ageStep,
    ageClk := c.take.ageClk }

/-- Saves the stopped shot of core `n` into its context's save area. -/
def State.saveShot (s : State) (n : Nat) : State :=
  match (s.coreAt n).shot with
  | none => s
  | some sh =>
    let a := field (s.coreAt n).ctx 15 0
    (s.saveParts n).onContext a fun c => { c with saved := c.saved.filter (·.core != n) ++ [s.savedOf n sh] }

/-- Forgets the saved shot of core `n`. -/
def State.dropSaved (s : State) (a n : Nat) : State :=
  s.onContext a fun c => { c with saved := c.saved.filter (·.core != n) }

/-- Loads parts 0 to 6 of a context's image of core `n`; none when a part reads poison (R343). -/
def State.loadParts (s : State) (a n : Nat) : Option State :=
  let base := (s.context a).imageAt n
  (List.range 7).foldlM (fun t k =>
    let (u, bs, bad) := t.readAt (base + partAt k) (partSize k)
    if bad then none else some (u.onCore n fun c => c.loadPart k bs)) s

/-- Core `n` holds the saved shot again, stopped, its registers loaded; none on poison. -/
def State.reload (s : State) (a n : Nat) (v : Saved) : Option State :=
  (s.loadParts a n).map fun t => t.onCore n fun c =>
    { c with ctx := ctxWord a (s.context a), run := .stopped, why := v.why, shot := some v.shot, gang := v.gang,
             resident := a, dw0 := v.dw0, dw1 := v.dw1, acc := v.acc, stalled := none, bundle := none, rep := none, pending := none, issued := 0,
             pushed := [], oldCode := [], hold := Vector.replicate 2 none, awaitStep := none, ballast := none,
             take := { Take.reset with preempts := c.take.preempts, ageStep := v.ageStep, ageClk := v.ageClk } }

/-! Counters (spec/07 R104, R105). -/

/-- The counters that a context owns on a die. -/
def State.countersOn (s : State) (a die : Nat) : List Nat :=
  (s.sync.owner.filter fun e => e.2 == a && e.1 / 2 ^ 22 == die).map (·.1)

/-- The context holds a shot of any kind on some core, or a core is reserved for one of it. -/
def State.hasShots (s : State) (a : Nat) : Bool :=
  s.listed.any fun e => !isControl e.1 &&
    ((e.2.shot.isSome && field e.2.ctx 15 0 == a) || e.2.reserved.any (·.asid == a))

/-- The images of saved counters: each handle, then its value (R342 names them and states no layout; log 42). -/
def State.counterImages (s : State) (saved : List (Nat × W64)) : List Byte :=
  saved.flatMap fun e => bytes64 [w64 (s.handleOf e.1), e.2]

/-- Firmware saves a context's counters out of a die and opens its arrival log (R104); the images stand in the save area
(spec/25 R342). A poisoned counter keeps its mark. -/
def State.saveCounters (s : State) (a die : Nat) : State :=
  let ks := s.countersOn a die
  if (s.context a).arrivals.any (·.die == die) ∨ ks.isEmpty then s
  else
    let saved := ks.map fun k => (k, s.counter k)
    let s1 := s.writeLinesAt ((s.context a).arrivalsAt die) (s.counterImages saved) false
    let s2 := ks.foldl (fun t k => t.setCounter k 0) s1
    s2.onContext a fun c => { c with arrivals := c.arrivals ++
      [{ die := die, saved := saved, log := [], size := Config.ringSize 1, seq := 0 }] }

/-- The images of a die's saved counters, or an entry of its log, read poison (spec/25 R343). -/
def State.arrivalsBad (s : State) (a : Nat) (l : Arrivals) : Bool :=
  let c := s.context a
  (s.readAt (c.arrivalsAt l.die) (16 * l.saved.length)).2.2 ||
    (List.range l.log.length).any fun k => (s.readAt (c.arrivalAt l (l.seq - l.log.length + k)) 16).2.2

/-- Firmware reloads the saved values of every die and applies the logs in entry order (R105): an add of the log that would
overflow is not applied and is reported (R97). None on poison (spec/25 R343). -/
def State.restoreCounters (s : State) (a : Nat) : Option State :=
  let logs := (s.context a).arrivals
  if logs.isEmpty then some s
  else if logs.any (s.arrivalsBad a) then none
  else
    let s1 := s.onContext a fun c => { c with arrivals := [] }
    let s2 := logs.foldl (fun t l => l.saved.foldl (fun u e => u.setCounter e.1 e.2) t) s1
    some (logs.foldl (fun t l => l.log.foldl (fun u e => u.outsideAdd e.key e.value e.src) t) s2)

/-! The end of a launch (spec/03 R43). -/

/-- Core `n` gives up what it holds, its take discarded. -/
def State.stopCore (s : State) (n : Nat) : State :=
  (s.withCore n fun t =>
    let u := t.discard
    { u with core := { u.core.ended s.mod.clk with reserved := none } }).rebalance (pairOf n)

/-- An engine operation of a launch that ends is cancelled; a collective goes on without its add (spec/21 R296). -/
def State.cancelForLaunch (s : State) (o : EngineOp) : State :=
  let s1 := { s with sync := { s.sync with held := s.sync.held.filter fun h => h.op != some o.id } }
  match o.kind with
  | .coll => { s1 with eng := { s1.eng with ops := s1.eng.ops.map fun p => if p.id == o.id then { p with key := none, committed := true, launch := none } else p } }
  | .copy => (s1.cancelCopy o).dropOp o.id
  | .put => (s1.cancelPut o).dropOp o.id

/-- Firmware ends a launch with a cause code: its shots stop, its copies are cancelled, and it will retire with status
TERMINATED (R43). -/
def State.endLaunch (s : State) (id cause : Nat) : State :=
  let mine := (s.listed.filter fun e => e.2.shot.any (·.launch == id) || e.2.reserved.any (·.launch == id)).map (·.1)
  let s1 := mine.foldl State.stopCore s
  let s2 := (s1.eng.ops.filter fun o => o.launch == some id).foldl State.cancelForLaunch s1
  let asid := ((s.launch id).map (·.asid)).getD 0
  let s3 := s2.onContext asid fun c => { c with saved := c.saved.filter fun v => v.shot.launch != id }
  s3.onLaunch id fun l => if l.status = 0 ∧ !l.retired then { l with status := 4, cause := cause } else l

/-! The end of a context (spec/25 R343, R344). -/

/-- A device-physical 4 KiB frame becomes ZEROED lines (R344). -/
def State.zeroFrame (s : State) (raw : Nat) : State := (List.range 64).foldl (fun t k => t.zeroLine (raw + 64 * k)) s

/-- The entries of a table that may be valid: all 512, or of the 262144 of a root those that hold a listed byte, for an unlisted
one reads 0 (spec/05 R58; log 2). -/
def State.tableIndices (s : State) (c : Context) (level table : Nat) : List Nat :=
  if level = 4 then
    (List.range 512).flatMap fun b =>
      match s.place c (table + 4096 * b) with
      | none => []
      | some raw => dedup ((s.st.mem.filter fun e => raw ≤ e.1 && e.1 < raw + 4096).map fun e => 512 * b + (e.1 - raw) / 8)
  else List.range 512

/-- The frames that the leaves of a context's tables map, by device-physical address and size: the entries of the four levels. -/
def State.tableLeaves (s : State) (c : Context) : (level table : Nat) → List (Nat × Nat)
  | 0, _ => []
  | n + 1, table =>
    (s.tableIndices c (n + 1) table).flatMap fun i =>
      match s.entryAt c (table + 8 * i) with
      | .error _ => []
      | .ok e =>
        if !e.getLsbD 0 then []
        else if e.getLsbD 2 then
          if n = 2 then [(frameOf e, 2 ^ 30)] else if n = 1 then [(frameOf e, 2 ^ 21)]
          else if e.getLsbD 3 then [(frameOf e / 65536 * 65536 + 4096 * (i % 16), 4096)] else [(frameOf e, 4096)]
        else s.tableLeaves c n (frameOf e)

/-- The tables of a context from one of a level down, by device-physical address; the root's 512 blocks count as tables. -/
def State.tablesOf (s : State) (c : Context) : (level table : Nat) → List Nat
  | 0, _ => []
  | n + 1, t => (if n = 3 then (List.range 512).map fun b => t + 4096 * b else [t]) ++
    (s.tableIndices c (n + 1) t).flatMap fun i =>
      match s.entryAt c (t + 8 * i) with
      | .error _ => []
      | .ok e => if !e.getLsbD 0 || e.getLsbD 2 || n = 0 then [] else s.tablesOf c n (frameOf e)

/-- The tables of a context are cleared (R344): no later context finds its mappings. -/
def State.zeroTables (s : State) (a : Nat) : State :=
  let c := s.context a
  (dedup ((s.tablesOf c 4 c.root).filterMap (s.place c ·))).foldl State.zeroFrame s

/-- Every frame of device memory that a context maps, zeroed; of a page that the host owns nothing is here to clear. -/
def State.zeroFrames (s : State) (a : Nat) : State :=
  let c := s.context a
  let raws := (s.tableLeaves c 4 c.root).flatMap fun f =>
    (List.range (f.2 / 4096)).filterMap fun k => s.place c (f.1 + 4096 * k)
  (dedup raws).foldl State.zeroFrame s

/-- Bytes of a context's save area: core images, block images, counter images and arrival logs of 8 dies (R342). -/
def saveSize : Nat := 262144 * 2048 + 66560 * 131072 + 8 * 2 ^ 30

/-- The save area and the event log of a context are zeroed before reuse (R344): what they hold is listed memory. Its frame area
is a mapping of the context, and is zeroed as its frames are. -/
def State.zeroSave (s : State) (a : Nat) : State :=
  let c := s.context a
  let mine := fun (r : Nat) => (c.saveRaw ≤ r && r < c.saveRaw + saveSize) ||
    (c.logRaw ≤ r && r < c.logRaw + 32 * Config.ringSize 0)
  { s with st := { s.st with
      mem := s.st.mem.filter fun e => !mine e.1
      lines := s.st.lines.filter fun e => !mine e.1
      flaws := s.st.flaws.filter fun e => !mine e.1 } }

/-- Firmware ends a context: every launch ends with TERMINATED and the code, its storage is cleared and freed, its ASID may
be given again once its translations are gone (R343, R344, spec/05 R66). -/
def State.endContext (s : State) (a cause : Nat) : State :=
  let s0 := ((s.sched.launches.filter fun l => l.asid == a && !l.retired).map (·.id)).foldl (fun t i => t.endLaunch i cause) s
  let s1 := (s0.eng.ops.filter fun o => o.asid == a).foldl (fun t o => (t.cancelForLaunch o).dropOp o.id) s0
  let s2 := (s1.st.owners.filter fun e => e.2 == a).foldl (fun t e => (t.zeroBlock (65536 * e.1)).setOwner (65536 * e.1) 0) s1
  let s2z := ((s2.zeroFrames a).zeroTables a).zeroSave a
  let s3 := ((s2z.keyedFrames a).foldl (fun t f => t.setKey f 0) s2z).dropTlb a 0 0
  let ks := (s3.sync.owner.filter fun e => e.2 == a).map (·.1)
  let s4 := ks.foldl (fun t k => { t with sync := { t.sync with
    value := Store.set 0 t.sync.value k 0, owner := Store.set 0 t.sync.owner k 0,
    poisoned := Store.set false t.sync.poisoned k false, flaws := Store.set 0 t.sync.flaws k 0 } }) s3
  let s5 := (s4.eng.streams.filter fun e => e.2.asid == a).foldl (fun t e => t.setCstream e.1 CStream.none)
    { s4 with peers := { s4.peers with moves := s4.peers.moves.filter (·.asid != a) } }
  let s6 := (s5.listed.filter fun e => e.2.resident == a).foldl (fun t e => t.onCore e.1 fun c => { c with resident := 0 }) s5
  { s6 with
    sched := { s6.sched with
      queues := s6.sched.queues.filter (·.asid != a), started := s6.sched.started.filter (·.asid != a)
      adds := s6.sched.adds.filter (·.asid != a)
      selected := s6.sched.selected.filter fun e => !e.2.any (·.asid == a)
      launches := s6.sched.launches.filter (·.asid != a)
      contexts := Store.set Context.none s6.sched.contexts a Context.none,
      events := s6.sched.events.filter (·.asid != a) } }

/-! The start of a shot. -/

/-- Shots of a context are about to start on cores of a die: counters that firmware has saved are restored, and the U-pad blocks
that it is granted there are taken; poison ends the context (spec/07 R104, R105, spec/25 R341, R343; log 25). -/
def State.prepare (s : State) (a die : Nat) (ns : List Nat) (f : State → State) : State :=
  match (s.restoreCounters a).bind fun t => (t.padsOf a die ns).foldlM (fun (u : State) raw => u.takeBlock a raw) t with
  | some t => f t
  | none => s.endContext a 0x1F

/-! Spawned shots (spec/03 R36). -/

/-- The shot that a reservation waits for starts on core `n`. -/
def State.startSpawned (s : State) (n : Nat) (r : Reservation) : State :=
  s.prepare r.asid (dieOf n) [n] fun t =>
    t.startShot n r.asid r.entry (startX r.args []) { launch := r.launch, index := 0, kind := .spawned } none

/-- SPAWN_SHOT_START: a reserved core that is awake starts its shot once the take that reserved it has committed, and once no
engine operation writes a U-pad block that it takes (spec/25 R341). -/
def execSpawnShotStart (core : Nat) (s : State) : Host.Outcome State Fault Refusal :=
  let c := s.coreAt core
  .next (match c.reserved with
    | none => s
    | some r => if r.ready && !c.gated && s.padsReady r.asid core && s.mod.phase = .normal then s.startSpawned core r else s)

end Sys2Proof.Machine
end

