-- ==== Sys2Proof/Machine/Dispatcher.lean ====
section
/-! DEFINITION. The dispatcher of a die: queues and packets (spec/23 R310-R317), malformed packets (R322), selection (R318) and
the packets' effects (R317). -/

namespace Sys2Proof.Machine

/-! Queue headers (R311). -/

/-- The header of a queue as the dispatcher reads it: its bytes by raw address; none when it cannot be read or reads poison. -/
def State.header (s : State) (q : Queue) : Option (List Touch × List Byte) :=
  match s.touchesFor q.asid {} [(q.header, 64)] with
  | .error _ => none
  | .ok ts =>
    let vs := (s.readOut ts).2
    if vs.any (·.2) then none else some (ts, vs.map (·.1))

/-- READ. -/
def hdrRead (h : List Byte) : W64 := w64 (leAt h 8 8)
/-- RING. -/
def hdrRing (h : List Byte) : W64 := w64 (leAt h 16 8)
/-- LG. -/
def hdrLg (h : List Byte) : Nat := leAt h 24 1 % 32
/-- PRI. -/
def hdrPri (h : List Byte) : Nat := leAt h 25 1 % 4
/-- EN. -/
def hdrEn (h : List Byte) : Bool := leAt h 26 1 % 2 == 1

/-- A header that is served: LG in range, RING aligned, reserved fields zero (R311). -/
def hdrGood (h : List Byte) : Bool :=
  4 ≤ hdrLg h && hdrLg h ≤ 16 && (hdrRing h).toNat % 64 == 0 && leAt h 24 1 < 32 && leAt h 25 1 < 4 && leAt h 26 1 < 2 &&
  leAt h 27 5 == 0 && leAt h 41 23 == 0

/-- A line of a queue's header, or of `n` bytes that the dispatcher reads for a context, holds an open slot of a take: the write
of the header, or the read, waits (spec/07 R91). -/
def State.headerBusy (s : State) (q : Queue) : Bool :=
  match s.touchesFor q.asid {} [(q.header, 64)] with
  | .error _ => false
  | .ok ts => s.writeWaits ts

/-- A read of bytes for a context waits for an open write (spec/07 R91). -/
def State.readBusy (s : State) (asid : Nat) (va : W64) (n : Nat) : Bool :=
  match s.touchesFor asid {} [(va, n)] with
  | .error _ => false
  | .ok ts => s.readWaits ts

/-- The dispatcher writes bytes of a queue's header. -/
def State.setHeader (s : State) (q : Queue) (off : Nat) (bs : List Byte) : State :=
  match s.header q with
  | none => s
  | some (ts, _) => s.writePlain ((ts.drop off).take bs.length) bs

/-- ERRIDX and ERRST record a packet (R322). -/
def State.recordError (s : State) (q : Queue) (index : W64) (status : Nat) : State :=
  (s.setHeader q 32 (leBytes 8 index.toNat)).setHeader q 40 (leBytes 1 status)

/-- The queue of a context with a number. -/
def State.queue (s : State) (asid num : Nat) : Option Queue :=
  s.sched.queues.find? fun q => q.asid == asid && q.num == num

/-- EN becomes 0. -/
def State.disable (s : State) (q : Queue) : State :=
  match s.header q with
  | none => s
  | some (_, h) => s.setHeader q 26 (leBytes 1 (leAt h 26 1 / 2 * 2))

/-! Packets (R314, R315). -/

/-- TYPE. -/
def pktType (p : List Byte) : Nat := leAt p 0 1
/-- A flag of a packet: 0 W0, 1 W1, 2 CA, 3 SER. -/
def pktFlag (p : List Byte) (k : Nat) : Bool := leAt p 1 1 / 2 ^ k % 2 == 1
/-- The handle of wait 0 or 1, or of the completion add (2). -/
def pktHandle (p : List Byte) (k : Nat) : W64 := w64 (leAt p (4 + 4 * k) 4)
/-- The target of wait 0 or 1, or CV (2). -/
def pktValue (p : List Byte) (k : Nat) : W64 := w64 (leAt p (16 + 8 * k) 8)
/-- Eight bytes of TS: KDESC, CBLK, AH or LIST. -/
def pktA (p : List Byte) : W64 := w64 (leAt p 40 8)
/-- Eight bytes of TS: LBLK or AV. -/
def pktB (p : List Byte) : W64 := w64 (leAt p 48 8)
/-- NARG. -/
def pktNarg (p : List Byte) : Nat := leAt p 56 1
/-- NW + 1, the entries of a wait list. -/
def pktWaits (p : List Byte) : Nat := leAt p 48 1 + 1
/-- AH. -/
def pktAh (p : List Byte) : W64 := w64 (leAt p 40 4)

/-- The TS bits that a type does not list are zero (R315). -/
def tsGood (p : List Byte) : Bool :=
  match pktType p with
  | 1 => leAt p 57 6 == 0
  | 2 => leAt p 48 15 == 0
  | 3 => leAt p 44 4 == 0 && leAt p 56 7 == 0
  | 4 => leAt p 40 23 == 0
  | 5 => leAt p 49 14 == 0
  | _ => leAt p 41 22 == 0

/-- No field of the packet is BADFIELD (R322). -/
def packetGood (p : List Byte) : Bool :=
  let off := fun (k : Nat) => pktFlag p k || (pktHandle p k == 0 && pktValue p k == 0)
  leAt p 1 1 < 16 && leAt p 2 2 == 0 && off 0 && off 1 && off 2 && tsGood p &&
  (pktType p != 1 || pktNarg p ≤ 8) && (pktType p != 6 || leAt p 40 1 ≤ 1)

/-- Bytes that a dispatcher reads for a context; none where translation or protection fails. -/
def State.readFor (s : State) (asid : Nat) (va : W64) (n : Nat) : Option (List Byte) :=
  match s.touchesFor asid {} [(va, n)] with
  | .error _ => none
  | .ok ts => some ((s.readOut ts).2.map (·.1))

/-- The wait list of a BARRIER: 16 bytes an entry; none is BADADDR (R316). -/
def State.waitList (s : State) (asid : Nat) (p : List Byte) : Option (List (List Byte)) :=
  if (pktA p).toNat % 16 ≠ 0 then none
  else (s.readFor asid (pktA p) (16 * pktWaits p)).map fun bs => chunks 16 (pktWaits p) bs

/-- The status of a packet that is malformed before readiness; 0 when it is not (R322). -/
def State.packetStatus (s : State) (asid : Nat) (p : List Byte) : Nat :=
  let t := pktType p
  let ok := fun (h : W64) => (s.counterKey asid h).isSome
  let list := if t = 5 then s.waitList asid p else some []
  if t = 0 ∨ 6 < t then 0x10
  else if !packetGood p || (list.any fun es => es.any fun e => leAt e 4 4 != 0) then 0x11
  else if [0, 1, 2].any (fun k => pktFlag p k && !ok (pktHandle p k)) || (t == 3 && !ok (pktAh p)) ||
      (list.any fun es => es.any fun e => !ok (w64 (leAt e 0 4))) then 0x12
  else if list.isNone then 0x13 else 0

/-- A counter has reached a target, as the dispatcher finds it; the value of a poisoned one is free. -/
def State.reached (s : State) (asid : Nat) (h target : W64) : Bool :=
  match s.counterKey asid h with
  | none => false
  | some k => target.toNat ≤ (if s.counterBad k then w64 (s.free k) else s.counter k).toNat

/-- The packet is ready (R317). -/
def State.packetReady (s : State) (q : Queue) (p : List Byte) : Bool :=
  let wait := fun (k : Nat) => !pktFlag p k || s.reached q.asid (pktHandle p k) (pktValue p k)
  let list := pktType p != 5 || (s.waitList q.asid p).any fun es => es.all fun e =>
    s.reached q.asid (w64 (leAt e 0 4)) (w64 (leAt e 8 8))
  let ser := !pktFlag p 3 || !s.sched.started.any fun t => t.asid == q.asid && t.num == q.num
  wait 0 && wait 1 && list && ser

/-- What stands at the head of a queue. -/
inductive Head where
  | none
  | notServed (status : Nat)
  | malformed (status : Nat) (packet : List Byte)
  | waiting
  | ready (pri : Nat) (packet : List Byte)
  deriving DecidableEq, Repr

/-- The head of a queue: the packet at READ once it is published and EN is 1 (R311, R312, R317). -/
def State.head (s : State) (q : Queue) : Head :=
  match s.header q with
  | none => .none
  | some (_, h) =>
    if !hdrEn h then .none
    else if !hdrGood h then .notServed 0x11
    else
      let i := (hdrRead h).toNat
      let slot := hdrRing h + w64 (64 * (i % 2 ^ hdrLg h))
      match s.readFor q.asid slot 64 with
      | none => .notServed 0x13
      | some p =>
        if s.readBusy q.asid slot 64 then .none
        else if leAt p 63 1 ≠ (1 + i / 2 ^ hdrLg h) % 256 then .none
        else if pktType p = 5 ∧ s.readBusy q.asid (pktA p) (16 * pktWaits p) then .waiting
        else
          let st := s.packetStatus q.asid p
          if st ≠ 0 then .malformed st p
          else if s.packetReady q p then .ready (Nat.min (hdrPri h) (field (s.context q.asid).prio 1 0)) p
          else .waiting

/-- Looking at the head of a queue meets the errors of the lines that are read for it: the header, the slot at READ, a wait list
(spec/27 R350, R351, R353). -/
def State.meetHead (s : State) (q : Queue) : State :=
  if s.st.flaws.isEmpty then s
  else
    let t := s.meetFor q.asid q.header 64
    match t.header q with
    | none => t
    | some (_, h) =>
      let slot := hdrRing h + w64 (64 * ((hdrRead h).toNat % 2 ^ hdrLg h))
      if !hdrEn h || !hdrGood h || t.readBusy q.asid slot 64 then t
      else
        let u := t.meetFor q.asid slot 64
        match u.readFor q.asid slot 64 with
        | none => u
        | some p => if pktType p = 5 ∧ !u.readBusy q.asid (pktA p) (16 * pktWaits p) then u.meetFor q.asid (pktA p) (16 * pktWaits p) else u

/-! Selection (R318). -/

/-- The queues that the dispatcher of a die homes (R310), but one whose header an open take has touched (spec/07 R91). -/
def State.homed (s : State) (die : Nat) : List Queue :=
  s.sched.queues.filter fun q =>
    let (d0, n) := s.dies (s.context q.asid)
    (s.context q.asid).live && d0 + q.num % n == die && !s.headerBusy q

/-- The READ index of a queue. -/
def State.readIndex (s : State) (q : Queue) : W64 := ((s.header q).map fun h => hdrRead h.2).getD 0

/-- READ increments. -/
def State.bumpRead (s : State) (q : Queue) : State := s.setHeader q 8 (leBytes 8 (s.readIndex q + 1).toNat)

/-- A completion add that the dispatcher owes for a packet (R317, R322). -/
def State.owe (s : State) (asid : Nat) (p : List Byte) : State :=
  match pktFlag p 2, s.counterKey asid (pktHandle p 2) with
  | true, some k => { s with sched := { s.sched with
      adds := s.sched.adds ++ [{ asid := asid, key := k, value := pktValue p 2 }] } }
  | _, _ => s

/-- A queue that is not served is disabled; a malformed packet ends at once (R311, R322). -/
def State.clearHead (s : State) (q : Queue) : State :=
  match s.head q with
  | .notServed st => (s.recordError q (s.readIndex q) st).disable q
  | .malformed st p => ((s.recordError q (s.readIndex q) st).bumpRead q).owe q.asid p
  | _ => s

/-- The heads of a die's queues are looked at, and those that are malformed or not served end; what they leave at the head is looked
at in turn. -/
def State.serveHeads (s : State) (die : Nat) : State :=
  (s.homed die).foldl (fun t q => ((t.meetHead q).clearHead q).meetHead q) s

/-- The place of a queue in the round of a level: its number, then its context. -/
def Queue.turn (q : Queue) : Nat := q.num * 65536 + q.asid

/-- The first of a pool after a pointer, wrapping. -/
def nextTurn (rr : Nat) (pool : List Queue) : Option Queue :=
  let best := fun (l : List Queue) => l.foldl (fun (b : Option Queue) q =>
    match b with | none => some q | some c => if q.turn < c.turn then some q else b) none
  match best (pool.filter fun q => rr < q.turn) with
  | some q => some q
  | none => best pool

/-- The selection: starts the pending packet of one ready queue (R318). -/
def State.select (s : State) (die : Nat) : State :=
  let rs := (s.homed die).filterMap fun q => match s.head q with
    | .ready pri p => some (q, pri, p)
    | _ => none
  let aged := rs.filter fun r => 64 ≤ r.1.age
  let top := (rs.map (·.2.1)).foldl Nat.max 0
  let (pool, lvl) := if aged.isEmpty then (rs.filter fun r => r.2.1 == top, top) else (aged, 4)
  let rr := Store.get 65535 s.sched.rr (8 * die + lvl)
  match nextTurn rr (pool.map (·.1)) with
  | none => s
  | some q =>
    match rs.find? fun r => r.1.turn == q.turn with
    | none => s
    | some (_, _, p) =>
      let i := s.readIndex q
      let s1 := s.bumpRead q
      let age := fun (k : Queue) =>
        if k.turn == q.turn then { k with age := 0 }
        else if rs.any fun r => r.1.turn == k.turn then { k with age := k.age + 1 } else k
      { s1 with sched := { s1.sched with
          queues := s1.sched.queues.map age
          rr := Store.set 65535 s1.sched.rr (8 * die + lvl) q.turn
          selected := Store.set none s1.sched.selected die (some { asid := q.asid, num := q.num, index := i, packet := p })
          started := s1.sched.started ++ [{ asid := q.asid, num := q.num, index := i, launch := none, op := none }] } }

/-- The module dispatches work: it is up, and no power-fail warning stands (spec/29 R358). -/
def State.dispatching (s : State) : Bool := s.mod.boot == .up && s.mod.phase == .normal

/-- SELECTION: malformed heads end, then one ready packet starts. -/
def execSelection (die : Nat) (s : State) : Host.Outcome State Fault Refusal :=
  .next (if !s.dispatching || (Store.get none s.sched.selected die).isSome then s
  else (s.serveHeads die).select die)

/-! The packets' effects (R317). -/

/-- The packet that a die has selected, when it is of a type. -/
def State.picked (s : State) (die type : Nat) : Option Picked :=
  match Store.get none s.sched.selected die with
  | none => none
  | some p => if pktType p.packet = type ∧ s.dispatching then some p else none

/-- The dispatcher is free for its next selection. -/
def State.unpick (s : State) (die : Nat) : State :=
  { s with sched := { s.sched with selected := Store.set none s.sched.selected die none } }

/-- The entry of a started packet. -/
def Started.is (t : Started) (p : Picked) : Bool := t.asid == p.asid && t.num == p.num && t.index == p.index

/-- A started packet has completed: its completion add is owed (R317). -/
def State.finishPacket (s : State) (p : Picked) : State :=
  ({ s with sched := { s.sched with started := s.sched.started.filter fun t => !t.is p } }).owe p.asid p.packet

/-- The header of a packet's queue holds an open slot (spec/07 R91). -/
def State.queueBusy (s : State) (p : Picked) : Bool := (s.queue p.asid p.num).any s.headerBusy

/-- A packet found malformed at its start ends (R322). -/
def State.failStart (s : State) (die : Nat) (p : Picked) (status : Nat) : State :=
  let s1 := match s.queue p.asid p.num with | some q => s.recordError q p.index status | none => s
  (s1.unpick die).finishPacket p

/-- ADD_PACKET. -/
def execAddPacket (die : Nat) (s : State) : Host.Outcome State Fault Refusal :=
  .next (match s.picked die 3 with
  | none => s
  | some p =>
    let key := s.counterKey p.asid (pktAh p.packet)
    if s.logStalls key then s.makeRoom key
    else
      let s1 := match key with | some k => s.outsideAdd k (pktB p.packet) (dieAgent die 4) | none => s
      (s1.unpick die).finishPacket p)

/-- WAIT_PACKET: its waits were its whole effect. -/
def execWaitPacket (die : Nat) (s : State) : Host.Outcome State Fault Refusal :=
  .next (match s.picked die 4 with | none => s | some p => (s.unpick die).finishPacket p)

/-- BARRIER_PACKET: its wait list was its whole effect. -/
def execBarrierPacket (die : Nat) (s : State) : Host.Outcome State Fault Refusal :=
  .next (match s.picked die 5 with | none => s | some p => (s.unpick die).finishPacket p)

/-- CONTROL_DISABLE: EN becomes 0. -/
def execControlDisable (die : Nat) (s : State) : Host.Outcome State Fault Refusal :=
  .next (match s.picked die 6 with
  | none => s
  | some p =>
    if leAt p.packet 40 1 ≠ 1 || s.queueBusy p then s
    else
      let s1 := match s.queue p.asid p.num with | some q => s.disable q | none => s
      (s1.unpick die).finishPacket p)

/-- PRIO.SLICE of a context in nanoseconds (R323). -/
def Context.slice (c : Context) : W64 := w64 (1000 * field c.prio 47 32)

/-- The copy of a packet whose block can be read now: its checks, and the copy as cpy of class 00 for no take (R316, R322). -/
def State.startCopy (s : State) (die : Nat) (p : Picked) : State :=
    match if (pktA p.packet).toNat % 64 = 0 then s.readFor p.asid (pktA p.packet) 128 else none with
    | none => s.failStart die p 0x13
    | some b =>
      let d := BitVec.ofNat 512 (leAt b 0 64)
      if leAt b 80 48 ≠ 0 ∨ !descGood d false then s.failStart die p 0x14
      else
        let src := rangesAt (w64 (leAt b 64 8)) (rowLen d) ((rowsOf d).map (·.1))
        let dst := rangesAt (w64 (leAt b 72 8)) (rowLen d) ((rowsOf d).map (·.2))
        match s.touchesFor p.asid {} src, s.touchesFor p.asid { write := true } dst with
        | .ok ta, .ok tb =>
          let key := if pktFlag p.packet 2 then s.counterKey p.asid (pktHandle p.packet 2) else none
          let o := { s.newOp .copy d key (pktValue p.packet 2) with
            agent := 4096 + die, port := 0, asid := p.asid, launch := none, committed := true, bundle := 0,
            reads := partsOf ta, writes := partsOf tb }
          let s1 := (s.addOp o).unpick die
          { s1 with sched := { s1.sched with started := s1.sched.started.map fun t => if t.is p then { t with op := some o.id } else t } }
        | _, _ => s.failStart die p 0x14

/-- COPY_PACKET: the copy block is read and checked, and the copy made (R316, R322). -/
def execCopyPacket (die : Nat) (s : State) : Host.Outcome State Fault Refusal :=
  .next (match s.picked die 2 with
  | none => s
  | some p =>
    if s.queueBusy p || s.readBusy p.asid (pktA p.packet) 128 then s
    else (s.meetFor p.asid (pktA p.packet) 128).startCopy die p)

/-- The packet of a copy that has completed is finished: its completion add, carried by the operation, is owed (R317). -/
def State.finishCopy (s : State) (o : EngineOp) : State :=
  match s.sched.started.find? fun t => t.op == some o.id with
  | none => s
  | some t =>
    let s1 := { s with sched := { s.sched with started := s.sched.started.filter fun u => u.op != some o.id } }
    match o.key with
    | none => s1
    | some k => { s1 with sched := { s1.sched with adds := s1.sched.adds ++ [{ asid := t.asid, key := k, value := o.amount }] } }

/-- A copy that belongs to no take waits for the open slots on its watched lines (spec/07 R91). -/
def State.outWaits (s : State) (o : EngineOp) : Bool :=
  s.readWaits (o.reads.map partTouch) || s.writeWaits (o.writes.map partTouch)

/-- All the bytes of a dispatcher's copy move (R316, spec/07 R91, spec/21 R284). -/
def State.moveOut (s : State) (o : EngineOp) : State :=
  let (s1, vals) := s.readOut (o.reads.map partTouch)
  s1.writeOut (o.writes.map partTouch) vals

/-- A copy has performed every read and write: a core's add is made or held for the take, a dispatcher's packet is finished
(spec/21 R279, R285, spec/07 R100). -/
def State.endCopy (s : State) (o : EngineOp) : State :=
  if 4096 ≤ o.agent then ((s.moveOut o).dropOp o.id).finishCopy o else (s.moveCopy o).completeOp o

/-- COPY_COMPLETE: the bytes move, their granules become FULL, the add follows, the operation leaves the engine; it waits while an
open write stands on its source, or an earlier operation of its agent has a part to perform on its granules
(spec/21 R279, R284, R285, spec/07 R90-R92, R100, spec/05 R53, R55; log 15). -/
def execCopyComplete (op : Nat) (s : State) : Host.Outcome State Fault Refusal :=
  .next (match s.eng.ops.find? fun o => o.id == op && o.kind == .copy with
  | none => s
  | some o =>
    if (if 4096 ≤ o.agent then s.outWaits o else s.behindOp o || s.logStalls o.key || !s.mayMove o) then s.makeRoom o.key
    else (s.endCopy o).noted s o.agent (s.heldBefore o))

/-- COMPLETION_ADD: one of the adds that the dispatcher owes is made; it stalls at a full arrival log (R323, spec/07 R101,
R104). -/
def execCompletionAdd (k : Nat) (s : State) : Host.Outcome State Fault Refusal :=
  .next (match s.sched.adds[k]? with
  | none => s
  | some a =>
    if s.logStalls (some a.key) then s.makeRoom (some a.key)
    else ({ s with sched := { s.sched with adds := s.sched.adds.eraseIdx k } }).outsideAdd a.key a.value
      (dieAgent (s.dies (s.context a.asid)).1 4))

end Sys2Proof.Machine
end

