-- ==== Sys2Proof/Machine/Launches.lean ====
section
/-! DEFINITION. Launches: the kernel descriptor and its checks (spec/03 R24-R27, spec/23 R322), the registers that a shot's levels
give it (spec/03 R28-R31), placement of units, co-residency groups and gangs (R33, R34, spec/23 R319-R321) and completion (spec/03
R42, spec/23 R323). -/

namespace Sys2Proof.Machine

/-! The kernel descriptor (spec/03 R24, R25). -/

/-- LEVELS of a descriptor header. -/
def kdLevels (h : List Byte) : Nat := leAt h 8 1 % 16

/-- The fields of a loop-level entry: KIND. -/
def lvKind (e : List Byte) : Nat := leAt e 8 1 / 32 % 4
/-- XREG. -/
def lvXreg (e : List Byte) : Nat := leAt e 8 1 % 32
/-- ARG. -/
def lvArg (e : List Byte) : Bool := leAt e 8 1 / 128 == 1
/-- CORES. -/
def lvCores (e : List Byte) : Bool := leAt e 9 1 % 2 == 1
/-- GANG. -/
def lvGang (e : List Byte) : Bool := leAt e 9 1 / 2 % 2 == 1

/-- A loop level, its extent from the launch block where ARG is 1 (R25). -/
def levelOfEntry (exts : List Nat) (k : Nat) (e : List Byte) : Level :=
  { kind := if lvKind e = 1 then .cores else if lvKind e = 2 then .dies else .temporal, xreg := lvXreg e,
    step := (BitVec.ofNat 32 (leAt e 4 4)).signExtend 64, extent := if lvArg e then exts.getD k 0 else leAt e 0 4,
    cores := lvCores e, gang := lvGang e }

/-- The header and the entries of a descriptor; none is BADADDR (R26). More than 8 levels have no entries to read. -/
def State.readDescriptor (s : State) (asid : Nat) (va : W64) : Option (List Byte × List (List Byte)) :=
  if va.toNat % 16 ≠ 0 then none
  else
    match s.readFor asid va 16 with
    | none => none
    | some h =>
      if 8 < kdLevels h then some (h, [])
      else (s.readFor asid (va + 16) (16 * kdLevels h)).map fun bs => (h, chunks 16 (kdLevels h) bs)

/-! The shot space (spec/03 R28-R30). -/

/-- The index at each of a list of levels that a linear index names, the outermost most significant (R28). -/
def digits : List Level → Nat → List (Level × Nat)
  | [], _ => []
  | l :: ls, n => (l, n / product (ls.map (·.extent)) % l.extent) :: digits ls n

/-- The first D index and the number of D indices of die `d` of `n` (R29). -/
def dBlock (ls : List Level) (n d : Nat) : Nat × Nat :=
  let q := dRange ls / n
  let r := dRange ls % n
  (d * q + Nat.min d r, q + if d < r then 1 else 0)

/-- The level registers of a shot (spec/03 R31). -/
def levelRegs (ls : List Level) (d c : Nat) : List (Nat × W64) :=
  ((levelsOf ls .temporal).map fun l => (l.xreg, w64 l.extent)) ++
    (digits (levelsOf ls .dies) d ++ digits (levelsOf ls .cores) c).map fun e => (e.1.xreg, w64 e.2 * e.1.step)

/-! The checks of R26. -/

/-- BADTABLE. -/
def badTable (h : List Byte) (es : List (List Byte)) (ls : List Level) : Bool :=
  decide (8 < kdLevels h) || leAt h 9 7 != 0 || leAt h 0 1 % 16 != 0 ||
  (es.any fun e => leAt e 9 1 / 4 != 0 || leAt e 10 6 != 0) ||
  (es.any fun e => lvKind e == 3) ||
  (es.any fun e => decide (lvXreg e < 10)) || (dedup (es.map lvXreg)).length != es.length ||
  (es.any fun e => (lvArg e && leAt e 0 4 != 0) || (lvKind e == 0 && leAt e 4 4 != 0)) ||
  (es.any fun e => (lvCores e || lvGang e) && lvKind e != 1) || decide (1 < (es.filter lvCores).length) ||
  (ls.any fun l => l.gang && (decide (16 < l.extent) || !l.cores)) ||
  decide (2 ^ 32 ≤ dRange ls * cRange ls)

/-- NOFIT (R26, spec/23 R321). -/
def noFit (c : Context) (ls : List Level) : Bool :=
  match coLevel ls with
  | none => false
  | some (e, d) =>
    decide (256 < e) || decide (c.quota < e) ||
      (c.det && !(ls.any (·.gang)) && decide (0 < dRange ls * cRange ls) && decide (256 / Nat.gcd d 256 < e))

/-- The R27 status that the checks give, in their order. -/
def launchStatus (c : Context) (h : List Byte) (es : List (List Byte)) (ls : List Level) : Nat :=
  if badTable h es ls then 1
  else if ls.any (·.gang) && !(c.det && c.feat.getLsbD 6) then 3
  else if noFit c ls then 2 else 0

/-! The start of a launch. -/

/-- The launch block and the descriptor that a packet names, or the status of R322 (spec/23 R316, R322). -/
def State.launchInputs (s : State) (p : Picked) : Except Nat (List Byte × List Byte × List (List Byte)) :=
  let b := if (pktB p.packet).toNat % 64 = 0 then s.readFor p.asid (pktB p.packet) 128 else none
  if b.any fun x => leAt x 112 16 != 0 then .error 0x11
  else match b, s.readDescriptor p.asid (pktA p.packet) with
    | some x, some (h, es) => .ok (x, h, es)
    | _, _ => .error 0x13

/-- A block that the start of a launch reads holds an open write: the read waits (spec/07 R91). -/
def State.inputsBusy (s : State) (p : Picked) : Bool :=
  s.readBusy p.asid (pktB p.packet) 128 || s.readBusy p.asid (pktA p.packet) 16 ||
    match s.readFor p.asid (pktA p.packet) 16 with
    | some h => s.readBusy p.asid (pktA p.packet + 16) (16 * Nat.min 8 (kdLevels h))
    | none => false

/-- The launch that a packet starts (spec/03 R26, spec/23 R316). -/
def State.newLaunch (s : State) (p : Picked) (b h : List Byte) (es : List (List Byte)) : Launch :=
  let c := s.context p.asid
  let exts := (List.range 8).map fun k => leAt b (64 + 4 * k) 4
  let ls := es.mapIdx (levelOfEntry exts)
  let pri := (((s.queue p.asid p.num).bind s.header).map fun e => hdrPri e.2).getD 0
  { id := s.sched.next, asid := p.asid, num := p.num, index := p.index, prio := Nat.min pri (field c.prio 1 0),
    entry := w64 (leAt h 0 8), cls := leAt h 8 1 / 16, levels := ls,
    args := (List.range (pktNarg p.packet)).map fun k => w64 (leAt b (8 * k) 8), record := w64 (leAt b 96 8),
    handler := w64 (leAt b 104 8),
    comp := if pktFlag p.packet 2 then (s.counterKey p.asid (pktHandle p.packet 2)).map fun k => (k, pktValue p.packet 2)
      else none,
    span := s.dies c, nextJ := [], ended := 0, status := launchStatus c h es ls, cause := 0, tstart := none, dies := 0, ranOn := [],
    retired := false }

/-- Reading the blocks of a launch meets their errors (spec/27 R350, R351, R353). -/
def State.meetInputs (s : State) (p : Picked) : State :=
  if s.st.flaws.isEmpty then s
  else
    let t := (s.meetFor p.asid (pktB p.packet) 128).meetFor p.asid (pktA p.packet) 16
    match t.readFor p.asid (pktA p.packet) 16 with
    | none => t
    | some h => t.meetFor p.asid (pktA p.packet + 16) (16 * Nat.min 8 (kdLevels h))

/-- The launch of a packet whose blocks can be read now (spec/23 R317, R322). -/
def State.startLaunch (s : State) (die : Nat) (p : Picked) : State :=
    match s.launchInputs p with
    | .error st => s.failStart die p st
    | .ok (b, h, es) =>
      let l := s.newLaunch p b h es
      let s1 := s.unpick die
      { s1 with sched := { s1.sched with
          launches := s1.sched.launches ++ [l], next := s1.sched.next + 1
          started := s1.sched.started.map fun t => if t.is p then { t with launch := some l.id } else t } }

/-- LAUNCH_PACKET: the blocks are read and checked; the launch goes to the dispatcher of every die of the device
(spec/23 R317). -/
def execLaunchPacket (die : Nat) (s : State) : Host.Outcome State Fault Refusal :=
  .next (match s.picked die 1 with
  | none => s
  | some p => if s.queueBusy p || s.inputsBusy p then s else (s.meetInputs p).startLaunch die p)

/-! Placement (spec/23 R319-R321). -/

/-- The core that takes a shot: the first candidate within the limits that leaves its pair balanced, else the first within
them; no hot cluster's core while a cool cluster has one (R319, R320, spec/33 R395, R398). -/
def State.pickCore (s : State) (d asid launch : Nat) (ks : List Nat) : Option Nat :=
  let all := ks.filter fun n => (s.trial n asid launch).withinLimits d asid
  let cool := all.filter fun n => !s.hot (clusterOf n)
  let ok := if cool.isEmpty then all else cool
  match ok.find? fun n =>
      let t := s.trial n asid launch
      balanced (t.estimate (pairOf n) 0) 10 (t.estimate (pairOf n) 1) with
  | some n => some n
  | none => ok.head?

/-- The core that deterministic mode fixes for a shot: `j` counts from the die's first shot, `i` is the position in gang `u`
(R321). -/
def fixedCore (d : Nat) (ls : List Level) (u i j : Nat) : Nat :=
  256 * d + if ls.any (·.gang) then 16 * (u % 16) + i else j % 256

/-- The cores for the shots of a unit, all or none (R33, R319, R321). -/
def State.coresFor (s : State) (d : Nat) (l : Launch) (u : Nat) : Option (List Nat) :=
  let js := unitShots l.levels u
  if (s.context l.asid).quota < s.held d l.asid + js.length then none
  else ((List.range js.length).foldlM (init := (s, ([] : List Nat))) fun (a : State × List Nat) (i : Nat) =>
    let ks := a.1.candidates d l.asid l.id a.2
    let ok := if (s.context l.asid).det then ks.filter (· == fixedCore d l.levels u i (js.getD i 0)) else ks
    (a.1.pickCore d l.asid l.id ok).map fun n => (a.1.trial n l.asid l.id, a.2 ++ [n])).map (·.2)

/-- Starts the shots of a unit on cores. -/
def State.placeUnit (s : State) (d : Nat) (l : Launch) (u : Nat) (cores : List Nat) : State :=
  let (d0, n) := l.span
  let first := (dBlock l.levels n (d - d0)).1
  let c := cRange l.levels
  let js := unitShots l.levels u
  let isGang := l.levels.any (·.gang)
  let s1 := (List.range cores.length).foldl (fun t i =>
    let j := js.getD i 0
    let k := cores.getD i 0
    (t.wakeRequest k).startShot k l.asid l.entry (startX l.args (levelRegs l.levels (first + j / c) (j % c)))
      { launch := l.id, index := first * c + j, kind := .placed } (if isGang then some { cores := cores, pos := i } else none)) s
  s1.onLaunch l.id fun x => { x with nextJ := Store.set 0 x.nextJ d (u + 1) }

/-- The units of a launch on a die, and the next to be placed; none when the launch does not run there or is over. -/
def State.nextUnit (_ : State) (d : Nat) (l : Launch) : Option Nat :=
  let (d0, n) := l.span
  let u := Store.get 0 l.nextJ d
  if l.live && decide (d0 ≤ d) && decide (d < d0 + n) &&
      decide (u < unitCount l.levels ((dBlock l.levels n (d - d0)).2 * cRange l.levels)) then some u else none

/-- The launches of every dispatcher by priority, then in start order (R319). -/
def State.ordered (s : State) : List Launch :=
  [3, 2, 1, 0].flatMap fun p => s.sched.launches.filter fun l => l.prio == p

/-- Places one unit of the first launch that has a placeable one. -/
def State.placeOne (s : State) (d : Nat) : Option State :=
  s.ordered.findSome? fun l =>
    match s.nextUnit d l with
    | none => none
    | some u => if s.leaving d l.asid then none
      else (s.coresFor d l u).map fun ks => s.prepare l.asid d ks fun t => t.placeUnit d l u ks

/-- Places units until none is placeable. -/
def State.placeAll (d : Nat) : Nat → State → State
  | 0, s => s
  | n + 1, s => match s.placeOne d with | some t => placeAll d n t | none => s

/-! Events that wait for a core (spec/25 R337). -/

/-- A waiting event takes a core of the die before any shot is placed there (spec/25 R337; for a spawn see log 93). -/
def State.eventFirst (s : State) (d : Nat) : Bool :=
  (List.range s.sched.events.length).any fun k =>
    (s.sched.events[k]?).any fun e => s.eventDie e == d && s.deliverable k e && (s.eventCore e).isSome

/-- SHOT_PLACEMENT: every unit that can be placed on a die is placed. -/
def execShotPlacement (die : Nat) (s : State) : Host.Outcome State Fault Refusal :=
  .next (if s.dispatching && !s.eventFirst die then s.placeAll die 256 else s)

/-! A context gives up its slice (R317). -/

/-- A context that is not halted has ready work on a die: a shot to be placed, a shot that a switch has put away, not one whose
handler runs on its core, or an event that no handler has been given (R317, R324). -/
def State.readyOn (s : State) (a die : Nat) : Bool :=
  !(s.context a).halted &&
  ((s.sched.launches.any fun l => l.asid == a && (s.nextUnit die l).isSome) ||
  ((s.returning die a).any fun v => (s.coreAt v.core).resident != a) ||
  s.sched.events.any fun e => e.asid == a && s.eventDie e == die && !e.given)

/-- Another context has ready work on a die. -/
def State.othersReady (s : State) (asid : Nat) (die : Nat) : Bool :=
  s.sched.contexts.any fun e => e.1 != asid && s.readyOn e.1 die

/-- CONTROL_YIELD: the context's slice ends on every die of the device where another context has ready work. -/
def execControlYield (die : Nat) (s : State) : Host.Outcome State Fault Refusal :=
  .next (match s.picked die 6 with
  | none => s
  | some p =>
    if leAt p.packet 40 1 ≠ 0 then s
    else
      let c := s.context p.asid
      let (d0, n) := s.dies c
      let past := (List.range n).filter fun k => s.othersReady p.asid (d0 + k)
      let at_ := past.foldl (fun m k => Store.set 0 m (d0 + k) (s.mod.clk - c.slice)) c.sliceAt
      ((s.setContext p.asid { c with sliceAt := at_ }).unpick die).finishPacket p)

/-! Groups (spec/03 R33). -/

/-- The cores that hold the co-residency group of the shot on core `n`, itself alone when it is in none. -/
def State.groupCores (s : State) (n : Nat) : List Nat :=
  match (s.coreAt n).shot with
  | none => [n]
  | some h =>
    match s.launch h.launch with
    | none => [n]
    | some l =>
      if (coLevel l.levels).isNone ∨ h.kind ≠ .placed then [n]
      else (s.listed.filter fun e => dieOf e.1 == dieOf n && !isControl e.1 && e.2.shot.any fun k =>
        k.launch == h.launch && k.kind == .placed && unitOfShot l.levels k.index == unitOfShot l.levels h.index).map (·.1)

/-! Completion (spec/03 R42, spec/23 R323). -/

/-- Every shot of a launch has ended and every engine operation of it that names a counter has completed (spec/21 R297). -/
def State.launchOver (s : State) (l : Launch) : Bool :=
  let (d0, n) := l.span
  (List.range n).all (fun k => (s.nextUnit (d0 + k) l).isNone) &&
  !(s.listed.any fun e => e.2.shot.any (·.launch == l.id) || e.2.reserved.any (·.launch == l.id)) &&
  !((s.context l.asid).saved.any fun v => v.shot.launch == l.id) &&
  !(s.eng.ops.any fun o => o.launch == some l.id && o.key.isSome)

/-- The completion record; TSTART of a launch that ran no shot is free. -/
def State.recordOf (s : State) (l : Launch) : List Byte :=
  leBytes 1 l.status ++ [0] ++ leBytes 2 l.cause ++ leBytes 4 0 ++ leBytes 8 l.ended ++
    leBytes 8 (l.tstart.getD (w64 (s.free 0))).toNat ++ leBytes 8 s.mod.clk.toNat ++ leBytes 1 l.dies ++ leBytes 31 0 ++
    (List.range 8).flatMap fun d => leBytes 8 (s.die d).round

/-- The launch is retired: its status goes to ERRST when it is not OK, and its completion add is owed. -/
def State.retire (s : State) (l : Launch) : State :=
  let s1 := if l.status = 0 then s else match s.queue l.asid l.num with
    | some q => s.recordError q l.index l.status
    | none => s
  let s2 := s1.onLaunch l.id fun x => { x with retired := true }
  { s2 with sched := { s2.sched with
      started := s2.sched.started.filter fun t => t.launch != some l.id
      adds := s2.sched.adds ++ match l.comp with
        | some (k, v) => [{ asid := l.asid, key := k, value := v }]
        | none => [] } }

/-- LAUNCH_COMPLETION: the record is written, once no open slot of a watched line stands in its way, and the launch retires. -/
def execLaunchCompletion (launch : Nat) (s : State) : Host.Outcome State Fault Refusal :=
  .next (match s.launch launch with
  | none => s
  | some l =>
    if l.retired ∨ !(l.status != 0 || s.launchOver l) ∨ (s.queue l.asid l.num).any s.headerBusy then s
    else if l.record = 0 then s.retire l
    else match s.touchesFor l.asid { write := true } [(l.record, 128)] with
      | .error _ => s.retire l
      | .ok ts => if s.writeWaits ts then s else (s.writePlain ts (s.recordOf l)).retire l)

end Sys2Proof.Machine
end

