-- ==== Sys2Proof/Machine/Traps.lean ====
section
/-! DEFINITION. Delivery of traps and events: records and frames (spec/25 R325, R331-R333), ACTION (R334-R336), events and the
event log (R337), translation faults and page moves (R345, spec/05 R68, R69, spec/07 R106, spec/31 R389). -/

namespace Sys2Proof.Machine

/-! CAUSE. -/

/-- Bits of CAUSE. -/
def pendBit : W64 := 0x1000000
/-- Bits of CAUSE. -/
def eventBit : W64 := 0x800000

/-- CODE of CAUSE. -/
def causeCode (c : W64) : Nat := field c 7 0

/-- TRAP_RECORD: a trap that is pending in a core is recorded (R325). -/
def execTrapRecord (core : Nat) (s : State) : Host.Outcome State Fault Refusal := .next (s.withCore core State.takePending)

/-! Frames (R332). -/

/-- The address of the frame of core `n`. -/
def Context.frameOf (c : Context) (n : Nat) : W64 := c.frameVa + w64 (512 * n)

/-- COREID of core `n` as it reads in its context. -/
def State.coreidOf (s : State) (n : Nat) : W64 := (s.focus n).coreid

/-- The bytes of a frame: eight words from CAUSE to ACTION, SUPPLY 0, and the images. -/
def frameBytes (ws : List W64) (xs ps : List W64) : List Byte :=
  bytes64 (ws.take 7) ++ List.replicate 72 0 ++ bytes64 xs ++ bytes64 ps ++ List.replicate 64 0

/-- Firmware writes bytes of a frame; the area is pinned and unwatched. -/
def State.writeFrame (s : State) (a n : Nat) (bs : List Byte) : State :=
  match s.touchesFor a { write := true } [((s.context a).frameOf n, 512)] with
  | .error _ => s
  | .ok ts => s.writePlain ts bs

/-- The frame of the stopped shot on core `n`. -/
def State.frameFor (s : State) (n : Nat) : List Byte :=
  let c := s.coreAt n
  frameBytes [c.cause, c.tinfo, c.takepc, c.tser, c.dw0, c.dw1, s.coreidOf n] c.x.toList
    (BitVec.allOnes 64 :: c.p.toList.drop 1)

/-- The bytes of the frame of core `n` as firmware reads them; none when it cannot. -/
def State.readFrame (s : State) (a n : Nat) : Option (List Byte) := s.readFor a ((s.context a).frameOf n) 512

/-! Handler shots (R333). -/

/-- A handler shot starts on core `n`: x2 the frame address, x3 the CAUSE value (R333). CAUSE of the core describes the event that
an event's handler is given (R327). -/
def State.startHandler (s : State) (n a : Nat) (l : Launch) (kind : ShotKind) (cause : W64) : State :=
  s.prepare a (dieOf n) [n] fun s0 =>
    ((s0.wakeRequest n).startShot n a l.handler (startX [(s0.context a).frameOf n, cause] [])
      { launch := l.id, index := 0, kind := kind } none).onCore n fun c =>
        if kind = .event then { c with cause := cause } else c

/-- The cores that stopped with core `n`: its gang, or itself (R336). -/
def State.stoppedWith (s : State) (n : Nat) : List Nat :=
  match (s.coreAt n).gang with | some g => g.cores | none => [n]

/-- The core whose stop firmware acts on: the lead of a gang, else the core itself (R336). -/
def State.leads (s : State) (n : Nat) : Bool := (s.stoppedWith n).headD n == n

/-- Sets PEND, saves every stopped member, writes its frame, and runs the handler on core `n` (R332, R333, R336). -/
def State.runHandler (s : State) (n a : Nat) (l : Launch) : State :=
  let s1 := (s.stoppedWith n).foldl (fun t m =>
    let u := t.onCore m fun c => { c with cause := c.cause ||| pendBit }
    (u.saveShot m).writeFrame a m (u.frameFor m)) s
  s1.startHandler n a l .handler (s1.coreAt n).cause

/-- The shot that core `n` holds resumes with its gang: PEND clears, retake follows (R331, R334). -/
def State.resumeAll (s : State) (n : Nat) : State :=
  (s.stoppedWith n).foldl (fun t m => (t.onCore m fun c => { c with cause := c.cause &&& ~~~pendBit }).resume m) s

/-- An entry joins the supply latch of a core (R334, spec/13 R183). -/
def Core.supplied (c : Core) (v : W64) : Core :=
  { c with latch := c.latch ++ [{ addr := c.tinfo, slot := field c.cause 21 20, value := v, used := false }] }

/-- The supply latch of the stopped shot, or of a member of its gang, holds 8 entries (spec/13 R183). -/
def State.latchFull (s : State) (n : Nat) : Bool := (s.stoppedWith n).any fun m => 8 ≤ (s.coreAt m).latch.length

/-- A trap that firmware does not resolve goes to the launch's handler, or ends the launch (R331, R335); a DETREAD raised with a
full supply latch ends it (spec/13 R183). -/
def State.deliverTrap (s : State) (n : Nat) (h : Shot) : State :=
  let code := causeCode (s.coreAt n).cause
  match s.launch h.launch with
  | none => s
  | some l =>
    if h.kind = .handler ∨ h.kind = .event ∨ l.handler = 0 ∨ (code = 0x12 ∧ s.latchFull n) then s.endLaunch l.id code
    else s.runHandler n l.asid l

/-- DETREAD under a supply policy of firmware: the value is supplied and the shot resumes; a full latch ends the launch
(R331, R334). -/
def State.supplyPolicy (s : State) (n : Nat) (v : W64) (launch : Nat) : State :=
  if s.latchFull n then s.endLaunch launch 0x12
  else ((s.stoppedWith n).foldl (fun t m => t.onCore m (·.supplied v)) s).resumeAll n

/-! Page moves (spec/05 R68, R69, spec/31 R389). -/

/-- The 4 KiB page of an address. -/
def pageOf (va : W64) : W64 := va &&& ~~~0xFFF#64

/-- The session with a number. -/
def State.session (s : State) (sid : Nat) : Option Session := s.peers.sessions.find? fun x => x.sid == sid && x.alive

/-- The state with a session changed. -/
def State.onSession (s : State) (sid : Nat) (f : Session → Session) : State :=
  { s with peers := { s.peers with sessions := s.peers.sessions.map fun x => if x.sid == sid then f x else x } }

/-- The session through which the host of a context is reached. -/
def State.hostOf (s : State) (a : Nat) : Option Session := (s.context a).session.bind s.session

/-- The live contexts, by ASID. -/
def State.liveContexts (s : State) : List (Nat × Context) := s.sched.contexts.filter fun e => e.2.live

/-- The contexts of a session. -/
def State.contextsOf (s : State) (sid : Nat) : List Nat :=
  (s.liveContexts.filter fun e => e.2.session == some sid).map (·.1)

/-- The context without its session, detached (spec/31 R383). -/
def Context.detach (c : Context) (clk : W64) : Context :=
  if c.live then { c with session := Option.none, detached := some clk } else c

/-- A session that has used up its messages in a direction ends, and its contexts become detached (spec/31 R380, R383). -/
def State.exhaust (s : State) (sid : Nat) : State :=
  match s.peers.sessions.find? fun x => x.sid == sid with
  | none => s
  | some x =>
    if x.next < 2 ^ 32 ∧ x.sent < 2 ^ 32 then s
    else (s.contextsOf sid).foldl (fun t a => t.onContext a fun c => c.detach t.mod.clk)
      (s.onSession sid fun y => { y with alive := false })

/-- The datagram of a protected message from the device: the header, which is authenticated, then the sealed body with its tag; the
nonce is the direction bit and the sequence number (spec/31 R381). -/
def Session.datagram (x : Session) (seq : Nat) (body : List Byte) : List Byte :=
  let head := leBytes 4 0x101 ++ leBytes 4 x.sid ++ leBytes 8 seq
  head ++ sized (body.length + 16) (Config.gcmSeal x.keyOut (2 ^ 95 + seq) head body)

/-- The body of a FETCH request: MIGRATE with sub-operation 0 (spec/31 R388, R389). -/
def fetchBody (a : Nat) (va : W64) : List Byte :=
  leBytes 2 10 ++ leBytes 2 a ++ leBytes 4 0 ++ bytes64 [va, 0, 0]

/-- A FETCH of a page goes out in a session with a sequence number. -/
def State.sendFetch (s : State) (x : Session) (seq a : Nat) (va : W64) : State :=
  s.send (.fetch x.sid seq a (pageOf va) (x.datagram seq (fetchBody a (pageOf va))))

/-- The device-physical address of the entry that a walk ends at, by the index fields of the levels (spec/05 R58). -/
def State.leafEntryIn (s : State) (c : Context) (va : W64) : List (Nat × Nat) → Nat → Option (Nat × W64)
  | [], _ => none
  | (hi, lo) :: ls, table =>
    let at_ := table + 8 * field va hi lo
    match s.entryAt c at_ with
    | .error _ => none
    | .ok e => if !e.getLsbD 0 then none else if e.getLsbD 2 then some (at_, e) else s.leafEntryIn c va ls (frameOf e)

/-- The leaf entry of an address and its place. -/
def State.leafEntry (s : State) (a : Nat) (va : W64) : Option (Nat × W64) :=
  let c := s.context a
  s.leafEntryIn c va [(56, 39), (38, 30), (29, 21), (20, 12)] c.root

/-- Firmware writes a table entry of a context. -/
def State.setEntry (s : State) (a pa : Nat) (e : W64) : State :=
  match s.place (s.context a) pa with
  | none => s
  | some raw => s.writeBytes (runOf raw (leBytes 8 e.toNat))

/-- The entries of the leaf that maps an address, each with its place, and the bytes that the leaf maps: 16 entries for a page of
64 KiB (spec/05 R58, R60). -/
def State.leafEntries (s : State) (a : Nat) (va : W64) : List (Nat × W64) × Nat :=
  match s.leafEntry a va, s.walk a (pageOf va) with
  | some (pa, e), .ok t =>
    if t.size = 65536 then
      ((List.range 16).filterMap fun k =>
        let p := pa / 128 * 128 + 8 * k
        (s.entryAt (s.context a) p).toOption.map fun g => (p, g), 65536)
    else ([(pa, e)], t.size)
  | some (pa, e), .error _ => ([(pa, e)], 4096)
  | none, _ => ([], 4096)

/-- The first address of the leaf of `size` bytes that maps an address. -/
def leafBase (va : W64) (size : Nat) : W64 := w64 (va.toNat / size * size)

/-- OWN of the page's leaf is set or cleared, in each of its entries, and every cache drops what it maps (spec/05 R60, R65, R68;
log 92). -/
def State.setOwn (s : State) (a : Nat) (va : W64) (own : Bool) : State :=
  let (es, size) := s.leafEntries a va
  (es.foldl (fun t e => t.setEntry a e.1 (if own then e.2 ||| 64#64 else e.2 &&& ~~~64#64)) s).dropTlb a (leafBase va size)
    (size / 4096)

/-- The leaf of a page: shared with the host, and who owns it. -/
def State.shared (s : State) (a : Nat) (va : W64) : Bool × Bool :=
  match s.leafEntry a va with
  | none => (false, false)
  | some (_, e) => (e.getLsbD 5, e.getLsbD 6)

/-- The 4 KiB parts of the page that maps an address, one for each message of a move (spec/31 R389; log 92). -/
def State.partsOfPage (s : State) (a : Nat) (va : W64) : List Nat :=
  let size := (s.leafEntries a va).2
  (List.range (size / 4096)).map fun k => (leafBase va size).toNat + 4096 * k

/-- Two addresses lie in one page of a context. -/
def State.samePage (s : State) (a : Nat) (va vb : W64) : Bool :=
  let size := (s.leafEntries a va).2
  leafBase va size == leafBase vb size

/-- The bytes of the part at an address are with the device: it owns the page, or holds the part of one whose ownership changes
part by part (log 92). -/
def State.holdsPart (s : State) (a : Nat) (va : W64) : Bool :=
  (s.shared a va).2 || (s.context a).parts.contains (pageOf va).toNat

/-- A move of the page, or of a part of it, is in flight. -/
def State.moving (s : State) (a : Nat) (va : W64) : Bool := s.peers.moves.any fun m => m.asid == a && s.samePage a va m.va

/-- The part of a host-owned page that is fetched next: that of the address, or the first that is still missing. -/
def State.missingPart (s : State) (a : Nat) (va : W64) : W64 :=
  let held := (s.context a).parts
  if held.contains (pageOf va).toNat then
    w64 (((s.partsOfPage a va).find? fun p => !held.contains p).getD (pageOf va).toNat)
  else pageOf va

/-- FETCH is sent for a host-owned page, once for all the faults on it (spec/05 R69, spec/31 R389). -/
def State.fetchPage (s : State) (a : Nat) (va : W64) : State :=
  if s.moving a va then s
  else match s.hostOf a with
    | none => s
    | some x =>
      let part := s.missingPart a va
      let t := s.sendFetch x x.sent a part
      let m : PageMove := { asid := a, va := part, sid := x.sid, seq := x.sent, since := s.mod.clk }
      let u : State := { t with peers := { t.peers with moves := t.peers.moves ++ [m] } }
      (u.onSession x.sid fun y => { y with sent := y.sent + 1 }).exhaust x.sid

/-- The raw address of a page's frame. -/
def State.pageRaw (s : State) (a : Nat) (va : W64) : Option Nat :=
  match s.walk a (pageOf va) with
  | .error _ => none
  | .ok t => s.place (s.context a) (t.frame + ((pageOf va).toNat - t.base))

/-- The state with the parts that the device holds of a context's host-owned pages changed. -/
def State.setParts (s : State) (a : Nat) (f : List Nat → List Nat) : State :=
  s.onContext a fun c => { c with parts := f c.parts }

/-- The contents of a part of a page arrive: they are written to the frame, and OWN is set once the whole page is there
(spec/05 R67, R68; log 92). -/
def State.takePage (s : State) (a : Nat) (va : W64) (bs : List Byte) : State :=
  match s.pageRaw a va with
  | none => s
  | some raw =>
    let ps := s.partsOfPage a va
    let t := (s.writeLinesAt raw bs false).setParts a fun l => (pageOf va).toNat :: l
    if ps.all fun p => (t.context a).parts.contains p then
      (t.setParts a fun l => l.filter fun p => !ps.contains p).setOwn a va true
    else t

/-- A part of a page is given up: OWN of the page clears with the first one, and the device holds the others until they are given up
too (spec/05 R67, R68; log 92). -/
def State.givePage (s : State) (a : Nat) (va : W64) : State :=
  let own := (s.shared a va).2
  let ps := if own then s.partsOfPage a va else []
  let t := s.setParts a fun l => (l ++ ps).filter (· != (pageOf va).toNat)
  if own then t.setOwn a va false else t

/-- A 4 KiB block of storage has a watched line with an open slot. -/
def State.blockOpen (s : State) (raw : Nat) : Bool := (List.range 64).any fun k => s.openSlot (raw + 64 * k)

/-- The page's frame holds an open slot of a watched line: a write that belongs to no take waits (spec/07 R91). -/
def State.pageWaits (s : State) (a : Nat) (va : W64) : Bool :=
  match s.pageRaw a va with | none => false | some raw => s.blockOpen raw

/-- The move of a page has ended. -/
def State.endMove (s : State) (a : Nat) (va : W64) : State :=
  { s with peers := { s.peers with moves := s.peers.moves.filter fun m => !(m.asid == a && m.va == pageOf va) } }

/-- FETCH_RESEND: a FETCH that has had no reply within 1 ms is sent again with the same SEQ (spec/31 R389); in a session that has
reclaimed the context since it goes out as a new message. -/
def execFetchResend (asid : BitVec 16) (va : W64) (s : State) : Host.Outcome State Fault Refusal :=
  let a := asid.toNat
  .next (match s.peers.moves.find? fun m => m.asid == a && m.va == pageOf va, s.hostOf a with
  | some m, some x =>
    if (s.mod.clk - m.since).toNat < 1000000 then s
    else if m.sid = x.sid then
      let t := s.sendFetch x m.seq a va
      { t with peers := { t.peers with moves := t.peers.moves.map fun k =>
          if k.asid == a && k.va == pageOf va then { k with since := s.mod.clk } else k } }
    else (s.endMove a va).fetchPage a va
  | _, _ => s)

/-- One 4 KiB block of a page is copied to its new frame: the new block takes the context's key, poison goes with its line, and
the old block's key entry is freed (spec/05 R80, spec/07 R106). -/
def State.moveBlock (s : State) (a old new : Nat) : State :=
  let (s1, bs, bad) := s.readAt old 4096
  let s2 := (s1.setKey new a).writeLinesAt new bs false
  let s3 := if bad then (List.range 64).foldl (fun t k =>
    if s1.poisoned (old + 64 * k) then t.markPoison (new + 64 * k) else t) s2 else s2
  s3.setKey old 0

/-- The leaf's frame becomes a new one: each entry keeps its other bits (spec/05 R59, R60). -/
def State.setFrame (s : State) (a : Nat) (es : List (Nat × W64)) (frame : Nat) : State :=
  (List.range es.length).foldl (fun t k =>
    let e := es.getD k (0, 0)
    t.setEntry a e.1 ((e.2 &&& ~~~0x000FFFFFFFFFF000#64) ||| (w64 (frame + 4096 * k) &&& 0x000FFFFFFFFFF000#64))) s

/-- PAGE_MOVE: firmware copies a device page of any size to another frame aligned to it, writes the new mapping and invalidates the
old one; no access of the context is on its way then, and no open take holds a watched write or a slot of a line of either frame
(spec/07 R84, R106, spec/05 R65, R66). -/
def execPageMove (asid : BitVec 16) (va : W64) (frame : Nat) (s : State) : Host.Outcome State Fault Refusal :=
  let a := asid.toNat
  let (es, size) := s.leafEntries a va
  let base := leafBase va size
  .next (if s.accessesOpen a ∨ s.mod.phase ≠ .normal then s
  else match s.walk a (pageOf va) with
    | .error _ => s
    | .ok l =>
      let blocks := (List.range (size / 4096)).map fun k =>
        (s.place (s.context a) (l.frame + 4096 * k), s.place (s.context a) (frame + 4096 * k))
      if frame % size ≠ 0 ∨ (blocks.any fun b => b.1.isNone || b.2.isNone) ∨
        (blocks.any fun b => s.blockOpen (b.1.getD 0) || s.blockOpen (b.2.getD 0)) then s
      else
        let t := blocks.foldl (fun (u : State) b => u.moveBlock a (b.1.getD 0) (b.2.getD 0)) s
        (t.setFrame a es frame).dropTlb a base (size / 4096))

/-! Translation faults (R345, R346). -/

/-- The fault is PAGE or PROT. -/
def isFault (cause : W64) : Bool := causeCode cause == 7 || causeCode cause == 8

/-- The access that a PAGE or PROT record tells of: a bundle fetch at dispatch, else what the core keeps of it. -/
def accOf (c : Core) : Acc :=
  { write := c.acc % 2 == 1, fetch := field c.cause 19 16 == 6 || c.acc / 2 % 2 == 1, presence := c.acc / 4 % 2 == 1 }

/-- The fresh walk for the current core: no cached translation serves it; none when the access is allowed (R345). -/
def State.freshFail (s : State) (acc : Acc) (va : W64) : Option Fail :=
  let t := { s with core := { s.core with tlb := [] }, st := { s.st with clusterTlb := [] } }
  match t.resolve acc va with | .error f => some f | .ok _ => none

/-- The cause and detail of a stopped core become those of the fresh walk (R345). -/
def Core.recaused (c : Core) (f : Fail) : Core :=
  { c with cause := (c.cause &&& ~~~0xFFFF#64) ||| w64 (f.cause.code + 256 * f.detail) }

/-- The fault of a stopped core is walked afresh: its shot resumes, or the record tells what the walk finds and `act` follows (R345). -/
def State.walkedAfresh (s : State) (n : Nat) (act : Fail → State → State) : State :=
  let c := s.coreAt n
  match (s.focus n).freshFail (accOf c) c.dw0 with
  | none => s.resumeAll n
  | some f => act f ((s.stoppedWith n).foldl (fun u m => u.onCore m (·.recaused f)) s)

/-- A translation fault: walked afresh once no tinv of the ASID is open; the shot resumes, waits for a page of the host, or
its trap is delivered (R345, R346, spec/05 R69). No table translates the scratchpad windows: a fault there is delivered as it was
raised. -/
def State.resolveFault (s : State) (n : Nat) (h : Shot) : State :=
  let c := s.coreAt n
  let a := field c.ctx 15 0
  if s.tinvOpen a ∨ (s.moving a c.dw0 ∧ field c.cause 15 0 = 0x0507) then s
  else if padBase ≤ c.dw0.toNat then s.deliverTrap n h
  else s.walkedAfresh n fun f t => if f = Fail.hostOwned then t.fetchPage a c.dw0 else t.deliverTrap n h

/-- The stopped cores that wait for a page of a context, one for each gang, each with its shot. -/
def State.waitingFor (s : State) (a : Nat) (va : W64) : List (Nat × Shot) :=
  s.listed.filterMap fun e =>
    if !isControl e.1 && e.2.run == .stopped && e.2.why == .trap && field e.2.cause 15 0 == 0x0507 &&
        field e.2.ctx 15 0 == a && s.samePage a va e.2.dw0 && s.leads e.1 then e.2.shot.map fun h => (e.1, h) else none

/-- What arrived of a page may let the shots go on that wait for it (spec/05 R69, R345). -/
def State.resolveWaiting (s : State) (a : Nat) (va : W64) : State :=
  (s.waitingFor a va).foldl (fun u e => u.resolveFault e.1 e.2) s

/-- The host's reply to a FETCH: the page arrives and the faulting shots resume; a DENIED leaves it with the host, and the faults
are delivered; none where the write of the page waits, or what a denial delivers for the end of a tinv (spec/05 R68, R69,
spec/07 R91, spec/31 R389, R345). -/
def State.fetched (s : State) (a : Nat) (va : W64) (granted : Bool) (data : List Byte) : Option State :=
  if !s.peers.moves.any fun m => m.asid == a && m.va == pageOf va then some s
  else if granted then
    if s.pageWaits a va then none else some (((s.takePage a va data).endMove a va).resolveWaiting a va)
  else if s.tinvOpen a then none
  else
    let t := s.endMove a va
    some ((t.waitingFor a va).foldl (fun u e => u.walkedAfresh e.1 fun _ v => v.deliverTrap e.1 e.2) t)

/-- The stopped shot of core `n` whose trap firmware has still to act on; a gang is acted on through its lead, and nothing is acted
on between a power-fail warning and the end of the restart (spec/29 R357, R374). -/
def State.undelivered (s : State) (n : Nat) : Option Shot :=
  let c := s.coreAt n
  if c.run = .stopped ∧ c.why = .trap ∧ s.leads n ∧ s.mod.phase = .normal then c.shot else none

/-- The trap of core `n` had been delivered when its shot was put away: its handler runs again from its first bundle (R335, R339). -/
def State.pends (s : State) (n : Nat) : Bool := (s.coreAt n).cause.getLsbD 24

/-- FAULT_RESOLUTION. -/
def execFaultResolution (core : Nat) (s : State) : Host.Outcome State Fault Refusal :=
  .next (match s.undelivered core with
  | none => s
  | some h => if isFault (s.coreAt core).cause && !s.pends core then s.resolveFault core h else s)

/-- TRAP_DELIVERY: a translation fault is resolved as R345 says; DETREAD may be supplied by firmware; any other trap goes to
the handler or ends the launch (R331). -/
def execTrapDelivery (core : Nat) (s : State) : Host.Outcome State Fault Refusal :=
  let c := s.coreAt core
  .next (match s.undelivered core with
  | none => s
  | some h =>
    if s.pends core then s.deliverTrap core h
    else if isFault c.cause then s.resolveFault core h
    else match if causeCode c.cause = 0x12 then Config.supplies (field c.ctx 15 0) s.fresh else none with
      | some v => s.supplyPolicy core v h.launch
      | none => s.deliverTrap core h)

/-! ACTION (R334). -/

/-- A handler shot that has ended on core `n`, with ACTION and SUPPLY of its frame; a frame that cannot be read is as
TERMINATE. -/
def State.action (s : State) (n : Nat) : Option (Shot × Nat × W64) :=
  let c := s.coreAt n
  match c.shot with
  | none => none
  | some h =>
    if c.run ≠ .ended ∨ s.mod.phase ≠ .normal then none
    else match s.readFrame (field c.ctx 15 0) n with
      | none => some (h, 2, 0)
      | some b => some (h, leAt b 56 8, w64 (leAt b 64 8))

/-- x1 to x31 and p1 to p7 of a core from its frame's images. -/
def Core.withImages (c : Core) (b : List Byte) : Core :=
  { c with x := Vector.ofFn fun i => if i.val = 0 then 0 else w64 (leAt b (128 + 8 * i.val) 8)
           p := Vector.ofFn fun i => if i.val = 0 then BitVec.allOnes 64 else w64 (leAt b (384 + 8 * i.val) 8) }

/-- Core `n` is idle again: its handler shot is gone. -/
def State.release (s : State) (n : Nat) : State := (s.onCore n fun c => c.ended s.mod.clk).rebalance (pairOf n)

/-- The saved shot of core `n`, with its gang, is loaded again with the images of its frames; none on a poisoned save. -/
def State.reloadAll (s : State) (n a : Nat) (v : Saved) : Option State :=
  let ms := match v.gang with | some g => g.cores | none => [n]
  ms.foldlM (fun t m =>
    match (t.context a).savedAt m with
    | none => some t
    | some w => (t.reload a m w).map fun u =>
        let u1 := match u.readFrame a m with | some b => u.onCore m fun c => c.withImages b | none => u
        u1.dropSaved a m) s

/-- The handler of a trap is over: the shot resumes, with a supplied value where one is given (R334, R336). -/
def State.handlerResume (s : State) (n a : Nat) (supply : Option W64) : State :=
  match (s.context a).savedAt n with
  | none => s.release n
  | some v =>
    match s.reloadAll n a v with
    | none => s.endContext a 0x1F
    | some t =>
      let u := match supply with
        | some x => (t.stoppedWith n).foldl (fun (w : State) m => w.onCore m (·.supplied x)) t
        | none => t
      (u.resumeAll n).balanceStart (pairOf n)

/-- The code under which the save of core `n` was made, as its part 0 holds CAUSE. -/
def State.savedCause (s : State) (n a : Nat) : W64 :=
  let bs := (s.readAt ((s.context a).imageAt n) 1024).2.1
  w64 (leAt bs 352 8)

/-- A saved shot may return to its core. -/
def State.open_ (s : State) (n : Nat) : Bool :=
  let c := s.coreAt n
  c.run == .idle && c.shot.isNone && c.reserved.isNone && !c.testing && !c.fenced && !(s.die (dieOf n)).shed

/-- Saved shots of a context are loaded again, stopped, and count as run on their cores; none when one is poisoned (R343). -/
def State.reloadList (s : State) (a : Nat) (vs : List Saved) : Option State :=
  vs.foldlM (fun t v => (t.reload a v.core v).map fun u => (u.dropSaved a v.core).onLaunch v.shot.launch fun l =>
    { l with ranOn := if l.ranOn.contains v.core then l.ranOn else l.ranOn ++ [v.core] }) s

/-- The cores of reloaded shots go on; one that a trap holds stays stopped (R334, R338, R339). -/
def State.goOn (s : State) (ns : List Nat) : State :=
  let s1 := ns.foldl (fun t n =>
    let u := t.wakeRequest n
    if (u.coreAt n).why = .trap then u else u.resume n) s
  ns.foldl (fun t n => t.balanceStart (pairOf n)) s1

/-- The shot that was displaced from core `n` returns with its group, once all their cores are open (R33, R337, R339). -/
def State.returnShots (s : State) (n a : Nat) : State :=
  let vs := s.savedWith n a
  if vs.isEmpty ∨ vs.any fun v => !s.open_ v.core then s
  else match s.reloadList a vs with
    | none => s.endContext a 0x1F
    | some t => t.goOn (vs.map (·.core))

/-- The first event of a launch is over; the shot that it displaced resumes on its core (R337). -/
def State.eventOver (s : State) (n a launch : Nat) : State :=
  let i := s.sched.events.findIdx fun e => e.launch == launch
  (({ s with sched := { s.sched with events := s.sched.events.eraseIdx i } }).release n).returnShots n a

/-- The recorded code of the first event of a launch. -/
def State.eventCode (s : State) (launch : Nat) : Nat :=
  ((s.sched.events.find? fun e => e.launch == launch).map fun e => e.cause.code).getD 0

/-- The handler asks to go on. -/
def State.actResume (s : State) (n : Nat) (h : Shot) (supply : Option W64) : State :=
  let a := field (s.coreAt n).ctx 15 0
  if h.kind = .event then s.eventOver n a h.launch else s.handlerResume n a supply

/-- The handler asks to end the launch (R334, R337). -/
def State.actTerminate (s : State) (n : Nat) (h : Shot) : State :=
  let a := field (s.coreAt n).ctx 15 0
  if h.kind = .event then (s.eventOver n a h.launch).endLaunch h.launch (s.eventCode h.launch)
  else s.endLaunch h.launch (causeCode (s.savedCause n a))

/-- ACTION_RESUME: ACTION 0. -/
def execActionResume (core : Nat) (s : State) : Host.Outcome State Fault Refusal :=
  .next (match s.action core with
  | some (h, 0, _) => s.actResume core h none
  | _ => s)

/-- ACTION_SUPPLY: ACTION 1; for another cause than DETREAD, and where the latch is full, as TERMINATE. -/
def execActionSupply (core : Nat) (s : State) : Host.Outcome State Fault Refusal :=
  .next (match s.action core with
  | some (h, 1, v) =>
    let a := field (s.coreAt core).ctx 15 0
    let latch := latchOf (((s.readAt ((s.context a).imageAt core) 1024).2.1).drop 784)
    if h.kind = .handler ∧ causeCode (s.savedCause core a) = 0x12 ∧ latch.length < 8 then s.actResume core h (some v)
    else s.actTerminate core h
  | _ => s)

/-- ACTION_TERMINATE: any other ACTION. -/
def execActionTerminate (core : Nat) (s : State) : Host.Outcome State Fault Refusal :=
  .next (match s.action core with
  | some (h, n + 2, _) => let _ := n; s.actTerminate core h
  | _ => s)

/-! Events (R337). -/

/-- CAUSE of an event. -/
def Event.causeWord (e : Event) : W64 := Machine.causeWord e.cause.code 0 6 0 false true true

/-- An entry joins a context's event log, a ring of 32-byte entries (R337). -/
def State.logEvent (s : State) (e : Event) : State :=
  let c := s.context e.asid
  let n := Config.ringSize 0
  if n = 0 ∨ !c.live then s
  else
    let cause := e.causeWord &&& ~~~pendBit
    let record := ((s.launch e.launch).map (·.record)).getD 0
    (s.writeBytes (runOf (c.logRaw + 32 * (c.logNext % n)) (bytes64 [cause, e.w0, e.w1, record]))).setContext e.asid
      { c with logNext := c.logNext + 1 }

/-- Removes event `k`. -/
def State.dropEvent (s : State) (k : Nat) : State :=
  { s with sched := { s.sched with events := s.sched.events.eraseIdx k } }

/-- Event `k` finds no core: it waits from now on, if it did not before (R337). -/
def State.eventWaits (s : State) (k : Nat) : State :=
  { s with sched := { s.sched with events := s.sched.events.mapIdx fun i e =>
      if i = k then { e with waits := some (e.waits.getD s.mod.clk) } else e } }

/-- The frame of the core on which an event's handler will run: no images. -/
def State.eventFrame (s : State) (e : Event) (n : Nat) : List Byte :=
  frameBytes [e.causeWord, 0, 0, 0, e.w0, e.w1, s.coreidOf n] (List.replicate 32 0) (List.replicate 8 0)

/-- Event `k`'s handler has been started. -/
def State.giveEvent (s : State) (k : Nat) : State :=
  { s with sched := { s.sched with events := s.sched.events.mapIdx fun i e => if i = k then { e with given := true } else e } }

/-- The handler of event `k` runs on core `n`. -/
def State.runEvent (s : State) (k : Nat) (e : Event) (n : Nat) (l : Launch) : State :=
  let s1 := (s.giveEvent k).onCore n fun c => { c with ctx := ctxWord e.asid (s.context e.asid) }
  (s1.writeFrame e.asid n (s1.eventFrame e n)).startHandler n e.asid l .event e.causeWord

/-- EVENT_DELIVERY: to the event log for a launch that is over, or for a SCREEN without a handler; without a handler the
launch ends; else the handler runs on the first candidate (R337, spec/27 R356). -/
def execEventDelivery (k : Nat) (s : State) : Host.Outcome State Fault Refusal :=
  .next (match s.sched.events[k]? with
  | none => s
  | some e =>
    match s.launch e.launch with
    | none => s.dropEvent k
    | some l =>
      if !l.live then (s.logEvent e).dropEvent k
      else if l.handler = 0 then
        if e.cause = .screen then (s.logEvent e).dropEvent k else (s.dropEvent k).endLaunch l.id e.cause.code
      else if !s.deliverable k e || !s.dispatching then s
      else match s.eventCore e with
        | none => s.eventWaits k
        | some n => s.runEvent k e n l)

end Sys2Proof.Machine
end

