-- ==== Sys2Proof/Machine/Switch.lean ====
section
/-! DEFINITION. Pre-emption and the switch (spec/25 R338-R341, spec/23 R324), the grace period (spec/03 R41, spec/07 R103), and
an event that has waited too long for a core (spec/25 R337). -/

namespace Sys2Proof.Machine

/-! Stopping. -/

/-- A core is to be pre-empted from now on. -/
def Core.toEvict (c : Core) (clk : W64) : Core := if c.evicting then c else { c with evicting := true, evictAt := clk }

/-- PREEMPT reaches core `n`: it stops at once where it may; a shot that a commit has released is started first, once its U-pad
blocks can be taken. -/
def State.evict (s : State) (n : Nat) : State :=
  let s0 := match (s.coreAt n).reserved with
    | some r => if r.ready && s.padsReady r.asid n then s.startSpawned n r else s
    | none => s
  let s1 := s0.onCore n fun c => c.toEvict s.mod.clk
  if (s1.focus n).yields then s1.withCore n State.stopPreempted else s1

/-- Core `n` does not run and its shot may be put away: it is stopped, or holds none. A handler shot stops as any other does, so a
protected take of it, or one that has performed an atomic, is waited for; a handler that has ended waits for firmware to read
ACTION (R338 step 2). -/
def State.quiet (s : State) (n : Nat) : Bool :=
  let c := s.coreAt n
  c.run == .stopped || c.shot.isNone

/-- No copy of a committed take of core `n` is on its way (R338 step 4). -/
def State.copiesDone (s : State) (n : Nat) : Bool := !s.eng.ops.any fun o => o.agent == n && o.committed && o.kind == .copy

/-- A trap recorded before the pre-emption: its frame is written and PEND is saved (R339). -/
def State.pendTrap (s : State) (n : Nat) : State :=
  let c := s.coreAt n
  let a := field c.ctx 15 0
  match c.why, c.shot.bind fun h => s.launch h.launch with
  | .trap, some l =>
    if l.handler = 0 then s
    else
      let t := s.onCore n fun c => { c with cause := c.cause ||| pendBit }
      t.writeFrame a n (t.frameFor n)
  | _, _ => s

/-- Core `n` gives up its stopped shot to the save area; a handler shot is discarded, the shot it serves being saved already
(R335, R338 step 5). -/
def State.putAway (s : State) (n : Nat) : State :=
  match (s.coreAt n).shot with
  | none => s.onCore n fun c => { c with evicting := false }
  | some h =>
    let s0 := s.withCore n State.flushStreams
    let s1 := if h.kind = .handler ∨ h.kind = .event then s0.withCore n State.discard else (s0.pendTrap n).saveShot n
    (s1.onCore n fun c => c.ended s.mod.clk).rebalance (pairOf n)

/-! The victim leaves a die (R338 steps 1-5). -/

/-- The cores of a die on which a context has a shot of any kind or a reservation. -/
def State.crewOn (s : State) (d a : Nat) : List Nat :=
  (s.listed.filter fun e => !isControl e.1 && dieOf e.1 == d &&
    ((e.2.shot.isSome && field e.2.ctx 15 0 == a) || e.2.reserved.any (·.asid == a))).map (·.1)

/-- The counters of a context that holds no shot anywhere leave the dies of its device (spec/07 R104). -/
def State.parkCounters (s : State) (a : Nat) : State :=
  if s.hasShots a then s
  else
    let (d0, n) := s.dies (s.context a)
    (List.range n).foldl (fun t k => t.saveCounters a (d0 + k)) s

/-- The context gives up its cores on a die: its shots are saved, no core there is resident for it any more. -/
def State.switchOut (s : State) (d a : Nat) : State :=
  let s1 := (s.crewOn d a).foldl State.putAway s
  let mine := (s1.listed.filter fun e => !isControl e.1 && dieOf e.1 == d && e.2.resident == a).map (·.1)
  (mine.foldl (fun t n => t.onCore n fun c => { c with resident := 0, evicting := false }) s1).parkCounters a

/-- One pass of the switch away from a context: its crews are told to stop, and once all have stopped and their copies have
ended it is switched out; the state, and whether it has left (R338, R340). -/
def State.leave (s : State) (d a : Nat) : State × Bool :=
  if s.tinvOpen a then (s, false)
  else
    let s1 := (s.crewOn d a).foldl State.evict s
    let ks := s1.crewOn d a
    if ks.all (fun n => s1.quiet n && s1.copiesDone n && (s1.coreAt n).reserved.isNone) then (s1.switchOut d a, true)
    else (s1, false)

/-! The incoming context (R338 step 6). -/

/-- The cores that a context takes on a die when it comes in: those of its saved shots, then the lowest-numbered that no
context holds, up to its quota. -/
def State.coresTaken (s : State) (d a : Nat) : List Nat :=
  let back := s.savedOn d a
  let free := (coresOfDie d).filter fun n =>
    !back.contains n && (s.coreAt n).resident == 0 && s.free_ n
  back ++ free.take ((s.context a).quota - back.length)

/-- The cores to which a context's shots return are open to it. -/
def State.mayReturn (s : State) (d a : Nat) : Bool :=
  (s.savedOn d a).all fun n =>
    let c := s.coreAt n
    (c.resident == 0 || c.resident == a) && c.run == .idle && !c.testing && c.reserved.isNone

/-- A context comes in on a die: blocks, counters, its shots; those that no trap holds resume; poison ends it (R341, R343,
spec/07 R105). -/
def State.switchIn (s : State) (d a : Nat) : State :=
  let ks := s.coresTaken d a
  let s1 := ks.foldl (fun t n => t.onCore n fun c => { c with resident := a }) s
  match (s1.grantedBlocks a d ks).foldlM (fun t raw => t.takeBlock a raw) s1 with
  | none => s1.endContext a 0x1F
  | some s2 =>
    match (s2.restoreCounters a).bind fun t => t.reloadList a (s2.returning d a) with
    | none => s2.endContext a 0x1F
    | some s3 => (s3.goOn (s2.savedOn d a)).onContext a fun c => { c with sliceAt := Store.set 0 c.sliceAt d s.mod.clk }

/-- No engine operation writes a block that the context would claim (R341 step 1). -/
def State.blocksReady (s : State) (d a : Nat) (ks : List Nat) : Bool :=
  (s.grantedBlocks a d ks).all fun raw => s.ownerOf raw == a || !s.blockBusy raw

/-- The cores that a resident context gains on a die: those that no context holds, up to its quota (spec/23 R324). -/
def State.coresGained (s : State) (d a : Nat) : List Nat :=
  ((coresOfDie d).filter fun n => (s.coreAt n).resident == 0 && s.free_ n).take ((s.context a).quota - s.residentOn d a)

/-- A resident context gains cores, with the U-pad blocks that it is granted there (R341, R343). -/
def State.grow (s : State) (d a : Nat) : State :=
  let ks := s.coresGained d a
  let s1 := ks.foldl (fun t n => t.onCore n fun c => { c with resident := a }) s
  ((s1.padsOf a d ks).foldlM (fun (t : State) raw => t.takeBlock a raw) s1).getD
    (s1.endContext a 0x1F)

/-- The context has no core of the die. -/
def State.isOut (s : State) (d a : Nat) : Bool := s.residentOn d a == 0

/-- One pass of a die's switch from context `o` to context `i`; 0 stands for none. A context that has cores there already gains
more. -/
def State.switch (s : State) (d o i : Nat) : State :=
  let (s1, left) := if o = 0 ∨ o = i ∨ !(s.context o).live then (s, true) else s.leave d o
  let (d0, n) := s1.dies (s1.context i)
  if left && i != 0 && (s1.context i).live && !(s1.context i).halted && decide (d0 ≤ d) && decide (d < d0 + n) && s1.dispatching &&
      !(s1.die d).shed then
    if !s1.isOut d i then (if (s1.coresGained d i).all (s1.padsReady i) then s1.grow d i else s1)
    else if s1.mayReturn d i && s1.blocksReady d i (s1.coresTaken d i) then s1.switchIn d i else s1
  else s1

/-- Firmware may have set the grace period anew (spec/03 R41; log 27). -/
def State.setGrace (s : State) : State :=
  match Config.graceSet s.fresh with | some g => { s with mod := { s.mod with grace := g } } | none => s

/-- PREEMPT: a die switches from one context to another; the step recurs until the switch is complete. -/
def execPreempt (die : Nat) (out into : BitVec 16) (s : State) : Host.Outcome State Fault Refusal :=
  .next (s.setGrace.switch die out.toNat into.toNat)

/-! Slices (spec/23 R324). -/

/-- A resident context holds fewer cores of a die than its quota, and a unit of its shots finds no cores there. -/
def State.needsCores (s : State) (d a : Nat) : Bool :=
  decide (s.residentOn d a < (s.context a).quota) && s.sched.launches.any fun l => l.asid == a &&
    (s.nextUnit d l).any fun u => (s.coresFor d l u).isNone

/-- The context has work for a die on which it holds no core, shots to place, saved shots, or an event; or has ready shots there
for which it holds too few (R324). -/
def State.wantsDie (s : State) (d a : Nat) : Bool :=
  if s.isOut d a then s.readyOn a d else !(s.context a).halted && s.needsCores d a

/-- The first of a list of contexts after one, in ascending order, wrapping. -/
def nextContext (after : Nat) (l : List Nat) : Option Nat :=
  let low := fun (m : List Nat) => m.foldl (fun (b : Option Nat) x => match b with
    | none => some x
    | some y => some (Nat.min x y)) none
  match low (l.filter fun x => after < x) with | some x => some x | none => low l

/-- TIME_SLICE_END: a context whose slice is over gives way to the next in round robin; where the die still has room the next
comes in beside the others. Where the switch must wait, PREEMPT completes it. -/
def execTimeSliceEnd (die : Nat) (s : State) : Host.Outcome State Fault Refusal :=
  let asids := s.sched.contexts.map (·.1)
  let want := asids.filter fun a => s.wantsDie die a
  let past := asids.filter fun a => !s.isOut die a && s.residentOn die a != 0 &&
    (s.context a).slice.toNat ≤ (s.mod.clk - Store.get 0 (s.context a).sliceAt die).toNat
  let room := fun (a : Nat) => (!s.isOut die a || s.mayReturn die a) && (coresOfDie die).any fun n => (s.coreAt n).resident == 0 && s.free_ n
  .next (match nextContext ((nextContext 0 past).getD 0) want with
  | none => s
  | some i =>
    if room i then s.switch die 0 i
    else match nextContext 0 (past.filter (· != i)) with | some o => s.switch die o i | none => s)

/-! Grace (spec/03 R41, spec/07 R103). -/

/-- GRACE_EXPIRY: a protected take, or one that has performed an atomic, has kept a pre-emption waiting too long. -/
def execGraceExpiry (core : Nat) (s : State) : Host.Outcome State Fault Refusal :=
  let c := s.coreAt core
  .next (if c.evicting ∧ (2 ≤ c.take.preempts ∨ c.take.atomic) ∧ s.mod.grace ≤ (s.mod.clk - c.evictAt).toNat ∧
      (c.run = .running ∨ c.run = .blocked) then
    match c.shot with | some h => s.endLaunch h.launch 0x20 | none => s
  else s)

/-! Events (R337). -/

/-- The highest-numbered core that a context holds on a die with a shot, of whatever kind. -/
def State.highestCore (s : State) (d a : Nat) : Option Nat :=
  ((s.crewOn d a).filter fun n => (s.coreAt n).shot.isSome).foldl
    (fun b n => match b with | none => some n | some m => some (Nat.max m n)) none

/-- The cores to be stopped with core `n`: its co-residency group or gang (spec/03 R33). -/
def State.stopSet (s : State) (n : Nat) : List Nat := dedup (s.groupCores n ++ s.stoppedWith n)

/-- One pass of the pre-emption of a set of cores of one context; the state, and whether all have been put away. -/
def State.displace (s : State) (ks : List Nat) : State × Bool :=
  let s1 := ks.foldl State.evict s
  if ks.all fun n => s1.quiet n && s1.copiesDone n then (ks.foldl State.putAway s1, true) else (s1, false)

/-- EVENT_WAIT_EXPIRY: the shot on the context's highest-numbered core of the die is pre-empted, and the handler runs there. -/
def execEventWaitExpiry (k : Nat) (s : State) : Host.Outcome State Fault Refusal :=
  .next (match s.sched.events[k]? with
  | none => s
  | some e =>
    if !s.deliverable k e || !s.dispatching || (s.eventCore e).isSome ||
        !(e.waits.any fun t => decide (s.mod.grace ≤ (s.mod.clk - t).toNat)) || s.isOut (s.eventDie e) e.asid || s.tinvOpen e.asid then s
    else match s.highestCore (s.eventDie e) e.asid, s.launch e.launch with
      | some n, some l =>
        let (s1, gone) := s.displace (s.stopSet n)
        if gone then s1.runEvent k e n l else s1
      | _, _ => s)

end Sys2Proof.Machine
end

