-- ==== Sys2Proof/Machine/Reliability.lean ====
section
/-! DEFINITION. Upsets (spec/27 R347, R350, R351), patrol scrubbing (R352, R353) and screen tests (R354-R356). -/

namespace Sys2Proof.Machine

/-! Upsets. An upset at LEVEL 7 strikes the counter that OFFSET numbers, one at LEVEL 8 a latch of a core, its group in bits
15:0: the raw addresses of spec/13 R186 name neither (log 26). -/

/-- An upset has struck a code word: its syndrome is not that of an image written raw any more (R353). -/
def State.struck (s : State) (w : Nat) : State := { s with st := { s.st with syns := Store.set none s.st.syns w none } }

/-- The wrong bits or lanes of a code word grow. -/
def State.spoil (s : State) (w n : Nat) : State :=
  { s.struck w with st := { (s.struck w).st with flaws := Store.set 0 s.st.flaws w (s.flaws w + n) } }

/-- UPSET: `bits` of the code word at a raw address flip, or symbols of a tier segment; a word of a core keeps its error until it is
read or overwritten (R350), as does a counter (R347, R351), a latch error replays the take (R347). -/
def execUpset (raw : W64) (bits : Nat) (s : State) : Host.Outcome State Fault Refusal :=
  let l := field raw 63 60
  let core := raw.toNat / 2 ^ 49 % 2 ^ 11
  .next (if bits = 0 then s
  else if l = 7 then
    let key := raw.toNat % 2 ^ 25
    { s with sync := { s.sync with flaws := Store.set 0 s.sync.flaws key (s.counterFlaws key + bits) } }
  else if l = 8 then
    s.onCore core fun c => { c with pending := some { cause := .softerr, detail := 2, w1 := w64 (field raw 15 0) } }
  else if !s.rawValid raw then s
  else if l = 5 then
    (s.struck raw.toNat).onCore core fun c => { c with upsets := Store.set 0 c.upsets (field raw 19 0) (Store.get 0 c.upsets (field raw 19 0) + bits) }
  else s.spoil raw.toNat bits)

/-! Patrol (R352, R353). -/

/-- LAG of a level's dailies is set when the pass runs late. -/
def State.noteLag (s : State) (d l : Nat) : State :=
  if Config.late d l (s.mod.scrub.toList.getD l 0) then s.setDaily d l 5 (s.daily d l 5 ||| 0x100) else s

/-- The patrol scrub of one unit; poisoned and ZEROED units are passed over. -/
def State.patrol (s : State) (raw : Nat) : State :=
  let l := levelOf raw
  if l < 3 then (if Store.get false s.st.poison (unitOf raw) then s else s.settlePad raw)
  else if l = 6 then s.scrubSegment raw
  else if (s.line raw).poison ∨ (s.line raw).zeroed then s
  else (s.scrubLine raw).1

/-- PATROL_SCRUB: the scrubber of a die takes the next unit of a level that it patrols; a PERIOD of 0 stops it, and
a pad of a shed die cannot be accessed (spec/29 R371). -/
def execPatrolScrub (die : Nat) (raw : W64) (s : State) : Host.Outcome State Fault Refusal :=
  let l := field raw 63 60
  .next (if !s.rawValid raw ∨ l = 5 ∨ s.retained raw.toNat ∨ s.patrolDie raw.toNat ≠ die ∨ s.mod.scrub.toList.getD l 0 = 0 then s
  else (s.patrol raw.toNat).noteLag die l)

/-! Screen tests (R354-R356). -/

/-- A cluster of the module. -/
def State.cluster (s : State) (k : Nat) : Cluster := s.mod.clusters.getD k { hot := false, steps := 0, screen := 0 }

/-- The state with a cluster changed. -/
def State.setCluster (s : State) (k : Nat) (c : Cluster) : State :=
  { s with mod := { s.mod with clusters := s.mod.clusters.setIfInBounds k c } }

/-- SCREEN_TEST_START: the next core of a cluster that is not fenced takes no more shots until its test is over. -/
def execScreenTestStart (cluster : Nat) (s : State) : Host.Outcome State Fault Refusal :=
  let c := s.cluster cluster
  let order := (List.range 16).map fun k => 16 * cluster + (c.screen + k) % 16
  .next (if !s.dispatching || (s.die (cluster / 16)).shed || order.any (fun n => (s.coreAt n).testing) then s
  else match order.find? fun n => !(s.coreAt n).fenced with
    | none => s
    | some n => ((s.stopBallast n).onCore n fun k => { k with testing := true }).setCluster cluster
        { c with screen := (n + 1) % 16 })

/-- The shot of a core belongs to a co-residency group. -/
def State.grouped (s : State) (n : Nat) : Bool :=
  (s.coreAt n).shot.any fun h => h.kind == .placed &&
    (s.launch h.launch).any fun l => (coLevel l.levels).isSome

/-- SCREEN_PREEMPT: a shot that still runs is pre-empted for the test; a core in a group is skipped, three times at most in
succession. -/
def execScreenPreempt (core : Nat) (s : State) : Host.Outcome State Fault Refusal :=
  let c := s.coreAt core
  .next (if !c.testing || c.shot.isNone || s.tinvOpen (field c.ctx 15 0) then s
  else if s.grouped core && decide (c.skips < 3) then
    s.onCore core fun k => { k with testing := false, skips := k.skips + 1 }
  else (s.displace (s.stopSet core)).1)

/-- The round of a die increments when every core that is not fenced has passed since the last increment. -/
def State.closeRound (s : State) (d : Nat) : State :=
  if (coresOfDie d).all (fun n => (s.coreAt n).fenced || (s.coreAt n).passed) then
    let t := (coresOfDie d).foldl (fun t n => if (t.coreAt n).passed then (t.onCore n fun c => { c with passed := false }) else t) s
    t.setDie d { t.die d with round := ((t.die d).round + 1) % 2 ^ 32 }
  else s

/-- A core passes. -/
def State.passTest (s : State) (n : Nat) : State :=
  let s1 := s.onCore n fun c =>
    { c with testing := false, passes := (c.passes + 1) % 2 ^ 32, passed := true, skips := 0, holdAt := s.mod.clk }
  let forget := fun (l : Launch) => { l with ranOn := l.ranOn.filter (· != n) }
  ({ s1 with sched := { s1.sched with launches := s1.sched.launches.map forget } }).closeRound (dieOf n)

/-- A core fails: it is fenced, and SCREEN arises for every launch that ran a shot on it since its last pass. -/
def State.failTest (s : State) (n : Nat) : State :=
  let c := s.coreAt n
  let s1 := s.onCore n fun c => { c with testing := false, fenced := true, skips := 0, resident := 0 }
  ((s.sched.launches.filter fun l => l.ranOn.contains n).foldl (fun t l =>
    t.addEvent .screen l.id l.asid (dieOf n) (w64 n) (w64 c.passes)) s1).closeRound (dieOf n)

/-- SCREEN_TEST: the scan patterns pass or fail, on a die that is not shed (spec/29 R371); the shot that the test displaced resumes on a core that passes. -/
def execScreenTest (core : Nat) (pass : Bool) (s : State) : Host.Outcome State Fault Refusal :=
  let c := s.coreAt core
  .next (if !c.testing || c.shot.isSome || c.reserved.isSome || (s.die (dieOf core)).shed || !s.dispatching then s
  else if pass then
    let t := s.passTest core
    if c.resident = 0 then t else t.returnShots core c.resident
  else s.failTest core)

end Sys2Proof.Machine
end

