-- ==== Sys2Proof/Machine/Hibernate.lean ====
section
/-! DEFINITION. Hibernation (spec/29): the power-fail warning (R357), quiescence (R358), the drain and the slate (R362-R369),
restart (R373-R376), and what a power-up leaves (spec/31 R377). The tier holds the fixed image, the regions and the slate; what the
drain saves of firmware's own records, which no rule lays out in bytes, goes with it as `Kept` (log 53). -/

namespace Sys2Proof.Machine

/-! The warning (R357). -/

/-- Every core that is listed, without the control cores. -/
def State.shotCores (s : State) : List Nat := (s.listed.map (·.1)).filter fun n => !isControl n

/-- POWER reaches core `n`: its open take is discarded and it stops; a handler shot is gone, the shot it serves being saved; a
shot that a commit has released is started first. -/
def State.powerStop (s : State) (n : Nat) : State :=
  let s0 := match (s.coreAt n).reserved with
    | some r => if r.ready then s.startSpawned n r else s
    | none => s
  let s1 := s0.onCore n fun c => { c with testing := false, evicting := false }
  let c := s1.coreAt n
  match c.shot with
  | none => s1
  | some h =>
    let s2 := s1.withCore n State.flushStreams
    if h.kind = .handler ∨ h.kind = .event then (s2.withCore n State.discard).onCore n fun k => k.ended s.mod.clk
    else if c.run = .running ∨ c.run = .blocked then
      s2.withCore n fun t =>
        let u := t.discard
        { u with core := { u.core with run := .stopped, why := .power } }
    else s2

/-- The commit of the take of core `n`, or of the gang that it leads, has reached step 1 of R38: it stands at the boundary, or at its
`done`, and watched writes of the take's copies are still to be performed. -/
def State.commitBegun (s : State) (n : Nat) : Bool :=
  let t := s.focus n
  t.lead == n && t.watchedOut && (t.atBoundary.isSome || (t.core.run == .blocked && t.current == some .doneShot && t.allAtDone))

/-- Such a commit completes: the copies with watched writes end, and the take commits or the shot ends. -/
def State.finishCommit (s : State) (n : Nat) : State :=
  s.withCore n fun t =>
    let os := t.eng.ops.filter fun o => t.members.contains o.agent && !o.committed && o.kind == .copy && o.writes.any (·.2)
    let u := os.foldl State.endCopy t
    if t.current = some .doneShot then u.doneAll else u.takeCommit

/-- POWER reaches every core: the takes whose commit has not begun are discarded, then the commits that have begun complete, and
their cores stop in turn (R357, R358). -/
def State.powerStopAll (s : State) : State :=
  let leads := s.shotCores.filter s.commitBegun
  let begun := leads.flatMap fun n => (s.focus n).members
  let s1 := (s.shotCores.filter fun n => !begun.contains n).foldl State.powerStop s
  begun.foldl State.powerStop (leads.foldl State.finishCommit s1)

/-- POWER_FAIL_WARNING: every core stops at a take start; a warning before a restart is complete drains nothing and leaves its slate
in place (R376). -/
def execPowerFailWarning (s : State) : Host.Outcome State Fault Refusal :=
  .next (if s.mod.boot ≠ .up then s
  else match s.mod.phase with
    | .normal =>
      let t := s.powerStopAll
      { t with mod := { t.mod with phase := .warned, stepw := t.mod.step } }
    | .restarting => { s with mod := { s.mod with boot := .off } }
    | _ => s)

/-! Quiescence (R358). -/

/-- An engine operation of a committed take ends at quiescence: a copy or a put completes, or is carried where its add finds its
arrival log full; a collective is carried (R358). -/
def State.settleOp (s : State) (o : EngineOp) : State :=
  if s.logStalls o.key then s
  else match o.kind with
    | .coll => s
    | .put => let (t, p) := s.takeSource o; t.depositPut p
    | .copy => s.endCopy o

/-- QUIESCENCE: pushed entries are written, engine operations end or are carried, events that were not yet delivered are dropped,
page moves are abandoned and named in the report. -/
def execQuiescence (s : State) : Host.Outcome State Fault Refusal :=
  .next (if s.mod.phase ≠ .warned then s
  else
    let s1 := s.shotCores.foldl (fun t n => t.withCore n State.flushStreams) s
    let s2 := s1.eng.ops.foldl State.settleOp s1
    let pages := s2.peers.moves.map fun m => (m.asid, m.va)
    { s2 with
      sched := { s2.sched with events := s2.sched.events.filter (·.given) }
      peers := { s2.peers with moves := [] }
      mod := { s2.mod with phase := .quiet, report := some { regions := [], stopped := [], pages := pages } } })

/-! The tier (R364). -/

/-- The first block of a slate slot. -/
def slotBlock (k : Nat) : Nat := 131072 * k

/-- The first block of the fixed image. -/
def fixedBlock : Nat := 262144

/-- Whole tier blocks are written: their errors are gone; but for those of the slate slots they are encrypted under the key that
the generation gives. -/
def State.writeTier (s : State) (gen block : Nat) (bs : List Byte) : State :=
  let n := (bs.length + 4095) / 4096
  let lo := tierRaw block
  let hi := tierRaw (block + n)
  let inside := fun (r : Nat) => decide (lo ≤ r) && decide (r < hi)
  { s with st := { s.st with
      mem := Store.setList 0 s.st.mem lo bs
      flaws := s.st.flaws.filter fun e => !inside e.1
      syns := s.st.syns.filter fun e => !inside e.1
      lines := s.st.lines.filter fun e => !inside e.1
      seals := (List.range n).foldl (fun m k => Store.set none m (tierRaw (block + k))
        (if clearBlock (block + k) then none else some (gen, tierTweak (block + k) gen))) s.st.seals } }

/-- Bytes of tier blocks as they are read under the key of a generation. -/
def State.tierBytes (s : State) (gen block n : Nat) : List Byte :=
  ((List.range ((n + 4095) / 4096)).flatMap fun k => s.tierBlock gen (block + k)).take n

/-- The segments in error of a run of tier blocks. -/
def State.tierFlaws (s : State) (block n : Nat) : List Nat :=
  (s.st.flaws.filter fun e => decide (tierRaw block ≤ e.1) && decide (e.1 < tierRaw (block + n))).map (·.1)

/-- Some segment of a run of tier blocks cannot be corrected (spec/27 R349). -/
def State.tierBad (s : State) (block n : Nat) : Bool := (s.tierFlaws block n).any s.segmentBad

/-- The segments of a run of tier blocks are read: errors are counted, and corrected where they can be (spec/27 R349, R353). -/
def State.settleTier (s : State) (block n : Nat) : State := (s.tierFlaws block n).foldl State.scrubSegment s

/-- Line `k` of a tier block was saved as poisoned, or a segment that holds a byte of it cannot be corrected (R374 step 1). -/
def State.tierLost (s : State) (block k : Nat) : Bool :=
  (s.line (tierRaw block + 64 * k)).poison || [64 * k / 223, (64 * k + 63) / 223].any fun i => s.segmentBad (tierRaw block + 223 * i)

/-- Lines of device memory go to the tier, decrypted where they are LPDDR6; a line that reads poisoned is saved as poisoned. How
many were (R362, R364). -/
def State.copyLines (s : State) (raw block : Nat) : Nat → State × Nat
  | 0 => (s, 0)
  | k + 1 =>
    let (t, n) := s.copyLines raw block k
    let src := raw + 64 * k
    let dst := tierRaw block + 64 * k
    let u := t.settleWord src
    let v := { u with st := { u.st with mem := Store.setList 0 u.st.mem dst (u.lineBytes src) } }
    if u.poisoned src then (v.setLine dst { LineMeta.reset with poison := true }, n + 1) else (v, n)

/-- `n` pages of device memory are copied to tier blocks. -/
def State.copyPages (s : State) (gen raw block n : Nat) : State × Nat :=
  (s.writeTier gen block (List.replicate (4096 * n) 0)).copyLines raw block (64 * n)

/-! Firmware-reserved memory (R362, spec/05 R61). -/

/-- Where a context's group table stands (R368). -/
def groupPlace (a : Nat) : Nat := Config.firmwarePlace a 9

/-- Where ROUND of each die and PASSES of each core are backed (R362 step 3; R362 states no layout, log 53). -/
def backing : Nat := Config.firmwarePlace 0 9

/-- The raw 4 KiB blocks that a context maps. -/
def State.mappedBlocks (s : State) (c : Context) : List Nat :=
  dedup ((s.tableLeaves c 4 c.root).flatMap fun f => (List.range (f.2 / 4096)).filterMap fun k => s.place c (f.1 + 4096 * k))

/-- The raw blocks of a context's frame area. -/
def State.frameBlocks (s : State) (a : Nat) : List Nat :=
  (List.range 256).filterMap fun k => s.pageRaw a ((s.context a).frameVa + w64 (4096 * k))

/-- The blocks of the tables and frame areas of all contexts. -/
def State.ownBlocks (s : State) : List Nat :=
  dedup (s.liveContexts.flatMap fun e =>
    ((s.tablesOf e.2 4 e.2.root).filterMap fun t => (s.place e.2 t).map fun r => r / 4096 * 4096) ++ s.frameBlocks e.1)

/-- The raw 4 KiB block belongs to firmware-reserved memory: save areas, event logs, group tables, the backing, tables, frame
areas, and what firmware reserves besides (R362 step 4, spec/05 R61). -/
def State.reservedBlock (s : State) (own : List Nat) (raw : Nat) : Bool :=
  let meets := fun (lo n : Nat) => decide (lo / 4096 * 4096 ≤ raw) && decide (raw < lo + n)
  Config.reserved.contains (raw / 4096) || own.contains raw || meets backing 16448 || s.liveContexts.any fun e =>
    meets e.2.saveRaw saveSize || meets e.2.logRaw (32 * Config.ringSize 0) || meets (groupPlace e.1) 65536

/-- Bytes of device memory that firmware reserves: for itself, for the backing of ROUND and PASSES, and for every live context its
tables, frame area, save area, event log and group table (spec/05 R61, spec/29 R359). -/
def State.reservedBytes (s : State) : Nat :=
  4096 * (Config.reserved.length + s.ownBlocks.length) + 20480 + s.liveContexts.length * (saveSize + 32 * Config.ringSize 0 + 65536)

/-- The 4 KiB blocks of device memory in which something is listed. -/
def State.listedBlocks (s : State) : List Nat :=
  dedup (((s.st.mem.map (·.1) ++ s.st.lines.map (·.1) ++ s.st.flaws.map (·.1)).filter fun r =>
    levelOf r == 3 || levelOf r == 4).map fun r => r / 4096 * 4096)

/-- The blocks of the fixed image: firmware-reserved device memory in use. -/
def State.fixedBlocks (s : State) : List Nat :=
  let own := s.ownBlocks
  s.listedBlocks.filter (s.reservedBlock own)

/-- The entries of a context's group table: one for each step in flight, and one for a group without one, whose step is not
stated and free (R368). -/
def State.groupRows (s : State) (a : Nat) : List Byte :=
  (s.context a).groups.flatMap fun g =>
    let steps := (s.eng.ops.filter fun o => o.kind == .coll && o.asid == a && groupOf o.desc == g.group).map fun o => (1, o.step)
    (if steps.isEmpty then [(0, w64 (s.free g.group))] else steps).flatMap fun e =>
      leBytes 2 g.group ++ leBytes 1 e.1 ++ leBytes 5 0 ++ bytes64 [e.2]

/-- ROUND of each die, then PASSES of each core. -/
def State.backingBytes (s : State) : List Byte :=
  bytes64 (((List.range 8).map fun d => w64 (s.die d).round) ++ (List.range 2048).map fun n => w64 (s.coreAt n).passes)

/-- Step 3 of the drain, with the group tables: every context's resident counters go to their backing, in its save area, and
ROUND and PASSES to theirs (R362, R368). -/
def State.backUp (s : State) : State :=
  let as := s.liveContexts.map (·.1)
  let s1 := as.foldl (fun t a => (List.range t.liveDies).foldl (fun u d => u.saveCounters a d) t) s
  let s2 := as.foldl (fun t a => t.writeLinesAt (groupPlace a) (t.groupRows a) false) s1
  s2.writeLinesAt backing s2.backingBytes false

/-- Step 4: the fixed image goes to the tier from `fixedBlock` on. -/
def State.saveFixed (s : State) (gen : Nat) (blocks : List Nat) : State :=
  (List.range blocks.length).foldl (fun t k => (t.copyPages gen (blocks.getD k 0) (fixedBlock + k) 1).1) s

/-- What the drain keeps of firmware's records. -/
def State.keep (s : State) (blocks : List Nat) : Kept :=
  { blocks := blocks, sched := s.sched, owner := s.sync.owner, poisoned := s.sync.poisoned, ops := s.eng.ops, nextOp := s.eng.next,
    keys := s.st.keys, owners := s.st.owners,
    resident := (s.listed.filter fun e => !isControl e.1 && e.2.resident != 0).map fun e => (e.1, e.2.resident),
    passed := (s.listed.filter fun e => e.2.passed).map (·.1), hiblist := s.mod.hiblist, sites := s.mod.lives,
    pages := (s.mod.report.map (·.pages)).getD [] }

/-! Regions (R360, R363, R367). -/

/-- A row of the region table. -/
structure RegionRow where
  entry    : HibEntry
  index    : Nat
  done     : Nat
  state    : Nat
  block    : Nat
  poisoned : Nat
  hash     : List Byte
  deriving DecidableEq, Repr

/-- The set entries in drain order: descending PRIO, ascending INDEX. -/
def State.drainOrder (s : State) : List (Nat × HibEntry) :=
  ((List.range 16).map (15 - ·)).flatMap fun p => s.mod.hiblist.filterMap fun e =>
    match e.2 with
    | some h => if h.prio == p then some (e.1, h) else none
    | none => none

/-- The row of a region of which nothing is saved. -/
def emptyRow (i : Nat) (e : HibEntry) (st : Nat) : RegionRow :=
  { entry := e, index := i, done := 0, state := st, block := 0, poisoned := 0, hash := List.replicate 48 0 }

/-- One region of the drain: `left` pages of the budget remain, `block` is the next free tier block. -/
def State.drainRegion (s : State) (gen left block : Nat) (i : Nat) (e : HibEntry) : State × RegionRow :=
  if left = 0 then (s, emptyRow i e 0)
  else if e.flags % 2 = 1 ∧ left < e.pages then (s, emptyRow i e 3)
  else
    let n := Nat.min e.pages left
    let (t, bad) := s.copyPages gen e.raw.toNat block n
    (t, { entry := e, index := i, done := n, state := if n = e.pages then 1 else 2, block := block, poisoned := bad,
          hash := if n = 0 then List.replicate 48 0 else sized 48 (Config.sha384 (t.tierBytes gen block (4096 * n))) })

/-- The regions of the list in drain order. -/
def State.drainRegions (gen : Nat) : List (Nat × HibEntry) → Nat → Nat → State → State × List RegionRow
  | [], _, _, s => (s, [])
  | (i, e) :: es, left, block, s =>
    let (t, r) := s.drainRegion gen left block i e
    let (u, rs) := drainRegions gen es (left - r.done) (block + r.done) t
    (u, r :: rs)

/-- The bytes of a row. -/
def RegionRow.bytes (r : RegionRow) : List Byte :=
  bytes64 [r.entry.raw, w64 r.entry.pages, w64 r.done] ++ leBytes 1 r.index ++ leBytes 1 r.entry.prio ++
    leBytes 1 r.entry.flags ++ leBytes 1 r.state ++ leBytes 4 0 ++ bytes64 [w64 r.block, w64 r.poisoned] ++ r.hash ++
    List.replicate 32 0

/-- A row from its bytes. -/
def rowOf (b : List Byte) : RegionRow :=
  { entry := { raw := w64 (leAt b 0 8), pages := leAt b 8 8, prio := leAt b 25 1, flags := leAt b 26 1 }, index := leAt b 24 1,
    done := leAt b 16 8, state := leAt b 27 1, block := leAt b 32 8, poisoned := leAt b 40 8, hash := (b.drop 48).take 48 }

/-! The slate (R365-R369). -/

/-- The sealing key of a generation (R369). -/
def sealingKey (gen : Nat) : List Byte := Config.hkdf Config.deviceSecret [] (leBytes 8 gen)

/-- FEAT bits that the module offers, with the ISA version (R366). -/
def offered : W64 := (Config.offer &&& 0xFFF) ||| 0x0100000000000000#64

/-- The context table entry of a context; COLL is 0 where it has no group (R368, log 53). -/
def State.contextRow (s : State) (gen a : Nat) (c : Context) : List Byte :=
  let keys := [c.keyv.headD 0, c.keyv.getLastD 0].flatMap fun v =>
    sized 72 (Config.keyWrap (sealingKey gen) (Config.keyPair c.keyGen v))
  leBytes 2 a ++ leBytes 1 (c.pres + 4 * c.dev + if c.det then 32 else 0) ++ [0] ++ leBytes 4 c.saved.length ++
    bytes64 [c.feat, c.prio, c.pwrcap, w64 c.saveRaw, if c.groups.isEmpty then 0 else w64 (groupPlace a), s.mod.stepw] ++ keys ++
    sized 48 c.ticket ++ List.replicate 8 0

/-- The slate's header. -/
def State.slateHeader (s : State) (gen fixLen : Nat) (rows : List RegionRow) (nctx len : Nat) : List Byte :=
  bytes64 [0x53544C31, w64 gen, w64 len, offered] ++ sized 48 Config.identity ++ sized 48 s.mod.bootm ++ leBytes 1 s.mod.level ++
    leBytes 15 0 ++ bytes64 [s.mod.stepw, s.mod.hibbud &&& 0xFFFFFFFF, w64 ((rows.map (·.done)).foldl (· + ·) 0), w64 fixedBlock,
      w64 fixLen] ++ leBytes 2 rows.length ++ leBytes 2 0 ++ leBytes 4 nctx ++
    bytes64 [4096, w64 (4096 + 128 * rows.length)] ++ List.replicate 3888 0

/-- The seal over the slate's bytes: the HMAC, then r and s, then zeros (R369). -/
def sealBlock (gen : Nat) (body : List Byte) : List Byte :=
  sized 48 (Config.hmac (sealingKey gen) body) ++ sized 96 (Config.sign body) ++ List.replicate 3952 0

/-- The whole slate. -/
def State.slateBytes (s : State) (gen fixLen : Nat) (rows : List RegionRow) : List Byte :=
  let cs := s.liveContexts
  let tables := rows.flatMap RegionRow.bytes ++ cs.flatMap fun e => s.contextRow gen e.1 e.2
  let n := (tables.length + 4095) / 4096 * 4096
  let body := s.slateHeader gen fixLen rows cs.length (n + 8192) ++ (tables ++ List.replicate n 0).take n
  body ++ sealBlock gen body

/-- Steps 1 and 2 of the drain: the stopped cores and the owned scratchpad blocks are saved (R362). -/
def State.saveAll (s : State) : State :=
  let s1 := (s.shotCores.filter fun n => (s.coreAt n).shot.isSome && (s.coreAt n).run == .stopped).foldl
    (fun t n => (t.pendTrap n).saveShot n) s
  s1.st.owners.foldl (fun t e => if e.2 = 0 then t else t.saveBlock e.2 (65536 * e.1)) s1

/-- Steps 1 to 5 of the drain under the generation `gen`: the state, what it keeps, and the rows of the regions (R362). -/
def State.drainSteps (s : State) (gen : Nat) : State × Kept × List RegionRow :=
  let s1 := s.saveAll.backUp
  let blocks := s1.fixedBlocks
  let s2 := s1.saveFixed gen blocks
  let (s3, rows) := State.drainRegions gen s2.drainOrder (field s2.mod.hibbud 31 0) (fixedBlock + blocks.length) s2
  (s3, s2.keep blocks, rows)

/-- DRAIN: stopped cores, scratchpads, counters, the fixed image, the regions, the slate, each step complete before the next; the
other slot's header becomes zero (R362, R365). -/
def execDrain (s : State) : Host.Outcome State Fault Refusal :=
  .next (if s.mod.phase ≠ .quiet then s
  else
    let gen := s.mod.genmax + 1
    let (s1, k, rows) := ({ s with mod := { s.mod with genmax := gen, hibheld := true } } : State).drainSteps gen
    let s2 := s1.writeTier gen (slotBlock (gen % 2)) (s1.slateBytes gen (4096 * k.blocks.length) rows)
    let s3 := s2.writeTier gen (slotBlock ((gen + 1) % 2)) (List.replicate 4096 0)
    { s3 with mod := { s3.mod with phase := .drained, kept := some k, rejected := false } })

/-- A slate slot is read: the header's block, then as much as it says. Errors are met as they are anywhere in the tier
(spec/27 R349, R353). -/
def State.readSlot (s : State) (k : Nat) : State :=
  let t := s.settleTier (slotBlock k) 1
  let len := leAt (t.tierBytes 0 (slotBlock k) 4096) 16 8
  if 2 ^ 29 < len then t else t.settleTier (slotBlock k + 1) (len / 4096 - 1)

/-- The slate of a slot that has been read, when it is valid (R365). -/
def State.slateIn (s : State) (k : Nat) : Option (List Byte) :=
  let h := s.tierBytes 0 (slotBlock k) 4096
  let len := leAt h 16 8
  if leAt h 0 8 ≠ 0x53544C31 ∨ leAt h 8 8 ≠ s.mod.genmax ∨ len % 4096 ≠ 0 ∨ len < 8192 ∨ 2 ^ 29 < len ∨
      s.tierBad (slotBlock k) (len / 4096) then none
  else
    let b := s.tierBytes 0 (slotBlock k) len
    if sized 48 (Config.hmac (sealingKey s.mod.genmax) (b.take (len - 4096))) = (b.drop (len - 4096)).take 48 then some b else none

/-- The slate of a slot, when it is valid. -/
def State.slateAt (s : State) (k : Nat) : Option (List Byte) := (s.readSlot k).slateIn k

/-- The valid slate, with its slot. -/
def State.validSlate (s : State) : Option (Nat × List Byte) :=
  match s.slateAt 0, s.slateAt 1 with
  | some b, _ => some (0, b)
  | none, some b => some (1, b)
  | none, none => none

/-! Power-up (spec/31 R377, R383). -/

/-- A core after power-up: nothing of it is left but whether it is fenced; whether a fenced core passes the boot's test is free
(spec/27 R356). -/
def State.coreUp (s : State) (n : Nat) (c : Core) : Core := { Core.reset with fenced := c.fenced && s.free n % 2 == 0 }

/-- The module after power has returned, before anything runs: the tier holds its content, the power controller GENMAX, and
firmware's images stand; a valid slate waits for the restart. -/
def State.powerUp (s : State) : State :=
  let s0 := s.focus 0
  let r := State.reset
  let up := s0.validSlate.isSome
  let lasts := fun (raw : Nat) => levelOf raw == 6
  { s0 with
    core := s.coreUp 0 s0.core
    cores := s0.cores.foldl (fun m e => Store.set Core.reset m e.1 (s.coreUp e.1 (Store.get Core.reset s0.cores e.1))) s0.cores
    st := { r.st with
      mem := s0.st.mem.filter fun e => lasts e.1
      flaws := s0.st.flaws.filter fun e => lasts e.1
      syns := s0.st.syns.filter fun e => lasts e.1
      seals := s0.st.seals.filter fun e => lasts e.1
      lines := s0.st.lines.filter fun e => lasts e.1 }
    sync := r.sync
    eng := { r.eng with next := s0.eng.next }
    sched := { r.sched with next := s0.sched.next }
    peers := { r.peers with outbox := s0.peers.outbox, nextSid := s0.peers.nextSid }
    mod := { r.mod with
      images := s0.mod.images, genmax := s0.mod.genmax, keyGens := s0.mod.keyGens, stepw := s0.mod.stepw, bootm := s0.mod.bootm,
      lives := s0.mod.lives, rejected := s0.mod.rejected && up, kept := if up then s0.mod.kept else none, hibheld := up,
      phase := if up then .restarting else .normal } }

/-! Restart (R373-R376). -/

/-- The slate names another identity or measurement, or a feature that is no longer offered (R373). -/
def State.slateRejected (s : State) (b : List Byte) : Bool :=
  (b.drop 32).take 48 != sized 48 Config.identity || (b.drop 80).take 48 != sized 48 s.mod.bootm ||
    w64 (leAt b 24 8) &&& ~~~offered != 0

/-- Every line of a run of device memory is poisoned. -/
def State.poisonLines (s : State) (raw n : Nat) : State := (List.range n).foldl (fun t k => t.markPoison (raw + 64 * k)) s

/-- A line of device memory is restored from line `k` of a tier block, or poisoned (R374). -/
def State.restoreLine (s : State) (gen block k dst : Nat) (lost : Bool) : State :=
  if lost then s.markPoison dst
  else s.writeLinesAt dst (((s.tierBlock gen block).drop (64 * k)).take 64) false

/-- Step 1: the blocks of the fixed image are restored; units that were saved as poisoned or fail the tier code are poisoned. -/
def State.restoreFixed (s : State) (gen : Nat) (blocks : List Nat) : State :=
  (List.range blocks.length).foldl (fun t b =>
    let u := t.settleTier (fixedBlock + b) 1
    (List.range 64).foldl (fun v k => v.restoreLine gen (fixedBlock + b) k (blocks.getD b 0 + 64 * k) (u.tierLost (fixedBlock + b) k))
      u) s

/-- The saved pages of a region are written back; lines saved as poisoned are poisoned again (R374 step 2). -/
def State.restorePages (s : State) (gen : Nat) (r : RegionRow) : State :=
  (List.range (64 * r.done)).foldl (fun t k =>
    t.restoreLine gen (r.block + k / 64) (k % 64) (r.entry.raw.toNat + 64 * k) (t.line (tierRaw r.block + 64 * k)).poison) s

/-- One region restored, and its state in the report: 4 is CORRUPT (R374 step 2, R375). -/
def State.restoreRegion (s : State) (gen : Nat) (r : RegionRow) : State × Nat :=
  let raw := r.entry.raw.toNat
  if r.state = 0 ∨ r.state = 3 then (s.poisonLines raw (64 * r.entry.pages), r.state)
  else
    let bad := s.tierBad r.block r.done
    let t := s.settleTier r.block r.done
    if r.done ≠ 0 ∧ (bad ∨ sized 48 (Config.sha384 (t.tierBytes gen r.block (4096 * r.done))) ≠ r.hash) then
      (t.poisonLines raw (64 * r.entry.pages), 4)
    else ((t.restorePages gen r).poisonLines (raw + 4096 * r.done) (64 * (r.entry.pages - r.done)), r.state)

/-- The regions restored in drain order, each with its state. -/
def State.restoreRegions (s : State) (gen : Nat) : List RegionRow → State × List (RegionRow × Nat)
  | [] => (s, [])
  | r :: rs =>
    let (t, st) := s.restoreRegion gen r
    let (u, out) := t.restoreRegions gen rs
    (u, (r, st) :: out)

/-- The region holds a byte of device memory. -/
def RegionRow.holds (r : RegionRow) (raw : Nat) : Bool :=
  decide (r.entry.raw.toNat ≤ raw) && decide (raw < r.entry.raw.toNat + 4096 * r.entry.pages)

/-- Every line of device memory is ZEROED but the lines of a list, which stay as they are. -/
def State.blankAll (s : State) (there : List Nat) : State :=
  { s with st := { s.st with
      lines := s.st.lines.filter fun e => (levelOf e.1 != 3 && levelOf e.1 != 4) || there.contains e.1
      blank := some (there.foldl (fun t l => Store.set false t l true) []) } }

/-- Device memory that neither the fixed image nor a region covers: frames that some context maps are poisoned, others are ZEROED,
whether or not anything is listed there (R374 step 3). -/
def State.restoreOther (s : State) (blocks : List Nat) (rows : List RegionRow) : State :=
  let kept := fun (raw : Nat) => rows.any (·.holds raw) || blocks.contains (raw / 4096 * 4096)
  let mapped := dedup (s.liveContexts.flatMap fun e => s.mappedBlocks e.2)
  let stale := dedup (((s.st.mem.map (·.1) ++ s.st.lines.map (·.1) ++ s.st.flaws.map (·.1)).filter fun r =>
    (levelOf r == 3 || levelOf r == 4) && !kept r && !mapped.contains (r / 4096 * 4096)).map lineOf)
  let s1 := stale.foldl State.zeroLine s
  let there := blocks.flatMap (fun b => (List.range 64).map (b + 64 * ·)) ++
    rows.flatMap fun r => (List.range (64 * r.entry.pages)).map (r.entry.raw.toNat + 64 * ·)
  (mapped.filter fun b => !kept b).foldl (fun t b => t.poisonLines b 64) (s1.blankAll there)

/-- The contexts that map a page of a GATE region that was not restored COMPLETE (R360, R374 step 8). -/
def State.gated (s : State) (out : List (RegionRow × Nat)) : List Nat :=
  (s.liveContexts.filter fun e => out.any fun r => r.1.entry.flags / 2 % 2 == 1 && r.2 != 1 &&
    (s.mappedBlocks e.2).any r.1.holds).map (·.1)

/-- Each context's owned scratchpad blocks are reloaded; a poisoned image ends its context (R374 step 4). -/
def State.restorePads (s : State) : State :=
  s.st.owners.foldl (fun t e =>
    if e.2 = 0 ∨ t.ownerOf (65536 * e.1) ≠ e.2 then t
    else (t.loadBlock e.2 (65536 * e.1)).getD (t.endContext e.2 0x1F)) s

/-- A collective that was in flight is issued again with its group and step; where its source had not been read it is read first
(R374 step 7). -/
def State.reissue (s : State) (o : EngineOp) : State :=
  if o.kind ≠ .coll then s
  else if o.reads.isEmpty then s.send (.contribution o.asid (groupOf o.desc) o.step o.row)
  else (s.contribute o).1

/-- The stopped shots of a context go on, on the cores that it held; those that it had elsewhere wait for a switch
(R374 step 8). -/
def State.resumeContext (s : State) (a : Nat) : State :=
  let vs := (s.context a).saved.filter fun v => (s.coreAt v.core).resident == a && !((s.savedWith v.core a).any fun w =>
    (s.coreAt w.core).fenced)
  match s.reloadList a vs with
  | none => s.endContext a 0x1F
  | some t => t.goOn (vs.map (·.core))

/-- A context without HIBERNATE: a restart ends its launches (spec/31 R386). -/
def State.killLaunches (s : State) (a : Nat) : State :=
  if (s.context a).feat.getLsbD 5 then s
  else (s.sched.launches.filter fun l => l.asid == a && !l.retired).foldl (fun t l => t.endLaunch l.id 0x21) s

/-- A context stays stopped: it holds no core. -/
def State.halt (s : State) (a : Nat) : State :=
  let mine := (s.listed.filter fun e => !isControl e.1 && e.2.resident == a).map (·.1)
  (mine.foldl (fun t n => t.onCore n fun c => { c with resident := 0 }) s).onContext a fun c => { c with halted := true }

/-- Nothing of a slate is restored: the module, which has kept nothing of its own across the power-up, goes on cold (R373). -/
def State.coldStart (s : State) : State := { s with mod := { s.mod with phase := .normal, hibheld := false } }

/-- The stop reasons of the restart report are not stated: a free byte. -/
def State.stopReason (s : State) (a : Nat) : Nat := s.free (a + 1) % 2 ^ 16

/-- The sites of the dies of a context's device, where the live dies are at `sites` (spec/01 R9, R16). -/
def Context.sites (c : Context) (sites : List Nat) : List Nat :=
  let (d0, n) := deviceDies sites.length c.pres c.dev
  (sites.drop d0).take n

/-- The contexts whose device has lost a die since the drain, or is not formed by the dies that remain: their shots cannot be placed
(spec/31 R379; log 54). -/
def State.displaced (s : State) (sites : List Nat) : List Nat :=
  (s.liveContexts.filter fun e => !((e.2.sites sites).all s.mod.lives.contains) ||
    decide (s.liveDies < (s.dies e.2).1 + (s.dies e.2).2)).map (·.1)

/-- Firmware's records are those that the drain kept; CLK starts from 0, sessions are gone, and no slice or wait has begun
(R374, spec/13 R180, spec/31 R383). -/
def State.recall (s : State) (x : Kept) : State :=
  let contexts := x.sched.contexts.foldl (fun m e =>
    Store.set Context.none m e.1 { (Store.get Context.none x.sched.contexts e.1).detach 0 with sliceAt := [] }) x.sched.contexts
  let s1 := { s with
    st := { s.st with keys := x.keys, owners := x.owners }
    sync := { s.sync with owner := x.owner, poisoned := x.poisoned }
    eng := { ops := x.ops, next := Nat.max s.eng.next x.nextOp, streams := [], held := [], undos := [] }
    sched := { x.sched with contexts := contexts, next := Nat.max s.sched.next x.sched.next,
                            events := x.sched.events.map fun e => { e with waits := none, given := false } }
    peers := { s.peers with portAt := Vector.replicate 16 0 }
    mod := { s.mod with clk := 0, levelAt := 0, stepAt := 0, hiblist := x.hiblist } }
  let s2 := x.resident.foldl (fun t e => t.onCore e.1 fun c => { c with resident := e.2 }) s1
  x.passed.foldl (fun t n => t.onCore n fun c => { c with passed := true }) s2

/-- ROUND and PASSES are reloaded from their backing; where it reads poison they begin again (R374 step 4; log 53). -/
def State.reloadRounds (s : State) : State :=
  let (s1, bs, bad) := s.readAt backing 16448
  if bad then s1
  else
    let at_ := fun (k : Nat) => leAt bs (8 * k) 8
    let s2 := (List.range 8).foldl (fun t d => t.setDie d { t.die d with round := at_ d }) s1
    ((List.range 2048).filter fun n => at_ (8 + n) != 0).foldl (fun t n => t.onCore n fun c => { c with passes := at_ (8 + n) }) s2

/-- Step 4: scratchpads, counters, ROUND and PASSES; a context whose saved image reads poison ends (R374, R343). -/
def State.restoreCores (s : State) : State :=
  ((s.restorePads.liveContexts.map (·.1)).foldl (fun t a => (t.restoreCounters a).getD (t.endContext a 0x1F)) s.restorePads).reloadRounds

/-- The slate in slot `k` is restored, step by step (R374). -/
def State.restoreFrom (s : State) (k : Nat) (b : List Byte) (x : Kept) : State :=
  let gen := s.mod.genmax
  let rows := (chunks 128 (leAt b 184 2) (b.drop (leAt b 192 8))).map rowOf
  let s1 := (s.recall x).restoreFixed gen x.blocks
  let (s2, out) := s1.restoreRegions gen rows
  let s3 := (s2.restoreOther x.blocks rows).restoreCores
  let s4 := s3.writeTier gen (slotBlock k) (List.replicate 4096 0)
  let s5 := s4.eng.ops.foldl State.reissue s4
  let asids := s5.liveContexts.map (·.1)
  let stay := asids.filter fun a => (s5.gated out).contains a || (s5.displaced x.sites).contains a
  let s6 := asids.foldl State.killLaunches s5
  let s7 := stay.foldl State.halt { s6 with mod := { s6.mod with phase := .normal, hibheld := false, kept := none, rejected := false } }
  let s8 := (asids.filter fun a => !stay.contains a).foldl State.resumeContext s7
  let up := s8.peers.ports.toList.any (· == 1)
  let report : Report := { regions := out.map fun (e : RegionRow × Nat) => (e.1.index, e.2, e.1.done),
                           stopped := stay.map fun a => (a, s.stopReason a), pages := x.pages }
  ({ s8 with mod := { s8.mod with step := if up then s8.mod.step else s.mod.stepw + 1, report := some report } }).send .report

/-- Both slots are read, and a valid slate is restored, or rejected and kept, and reported. -/
def State.takeSlate (s : State) : State :=
  let t := (s.readSlot 0).readSlot 1
  match s.validSlate, s.mod.kept with
  | some (k, b), some x =>
    if s.slateRejected b then
      let u := t.coldStart
      { u with mod := { u.mod with rejected := true } }.send .report
    else t.restoreFrom k b x
  | _, _ => t.coldStart

/-- RESTART, after a boot that has found a valid slate. -/
def execRestart (s : State) : Host.Outcome State Fault Refusal :=
  .next (if s.mod.boot ≠ .up ∨ s.mod.phase ≠ .restarting then s else s.takeSlate)

end Sys2Proof.Machine
end

