-- ==== Sys2Proof/Machine/Power.lean ====
section
/-! DEFINITION. Power levels (spec/29 R370-R372), imbalance caps (spec/33 R394), phase loss (R395), gating and wake (R397), heat
(R398). -/

namespace Sys2Proof.Machine

/-! Levels (spec/29 R370-R372). -/

/-- The number of dies that run cores at a level (R370). -/
def State.running_ (s : State) (level : Nat) : Nat := Nat.min s.liveDies (8 - 2 * level)

/-- A die is shed: its crews are pre-empted, its cores gated; PREEMPT completes what must wait, and gates the cores that had to
wait (R371). -/
def State.shed (s : State) (d : Nat) : State :=
  let s0 := s.setDie d { s.die d with shed := true }
  let here := (s0.liveContexts.map (·.1)).filter fun a => s0.residentOn d a != 0 || !(s0.crewOn d a).isEmpty
  let s1 := here.foldl (fun t a => (t.leave d a).1) s0
  (coresOfDie d).foldl (fun t n => t.onCore n Core.gate) s1

/-- POWER_LEVEL_DROP: the level falls at once, and dies are shed in descending order (R370). -/
def execPowerLevelDrop (level : Nat) (s : State) : Host.Outcome State Fault Refusal :=
  .next (if !s.dispatching ∨ level < s.mod.level ∨ 4 < level then s
  else
    let t := { s with mod := { s.mod with level := level, levelAt := s.mod.clk } }
    let n := t.running_ level
    ((List.range (t.liveDies - n)).map fun k => t.liveDies - 1 - k).foldl State.shed t)

/-- A die is restored: its clusters wake, and the contexts with stopped shots there come in again (R372). -/
def State.unshed (s : State) (d : Nat) : State :=
  if (s.die d).shed then
    let s0 := (coresOfDie d).foldl State.wakeRequest (s.setDie d { s.die d with shed := false })
    (s0.liveContexts.map (·.1)).foldl (fun t a => if (t.savedOn d a).isEmpty then t else t.switch d 0 a) s0
  else s

/-- POWER_LEVEL_RAISE: the level rises after the input has held for 100 ms, and dies are restored in ascending order. -/
def execPowerLevelRaise (level : Nat) (s : State) : Host.Outcome State Fault Refusal :=
  .next (if !s.dispatching ∨ s.mod.level ≤ level ∨ (s.mod.clk - s.mod.levelAt).toNat < 100000000 then s
  else
    let t := { s with mod := { s.mod with level := level } }
    (List.range (t.running_ level)).foldl State.unshed t)

/-! Currents (spec/33 R394, R395). -/

/-- PHASE_LOSS: a regulator phase of a die fails. -/
def execPhaseLoss (die : Nat) (s : State) : Host.Outcome State Fault Refusal :=
  let d := s.die die
  .next (s.setDie die { d with lost := Nat.min 12 (d.lost + 1) })

/-- A cap 100 MHz lower. -/
def lowered (cap : Nat) : Nat := Nat.max 1 (cap - 1)

/-- IMBALANCE_SAMPLE: measured currents that differ by more than 10 % of the larger lower the cap of the heavier layer by 100 MHz,
and a die that draws more than its limit has both layers lowered so; the pair is calm while they differ by no more than 5 %
(R394, R395). -/
def execImbalanceSample (pair up lo : Nat) (s : State) : Host.Outcome State Fault Refusal :=
  let p := s.pair pair
  let diff := (up - lo) + (lo - up)
  let calm := if 20 * diff ≤ Nat.max up lo then some (p.calm.getD s.mod.clk) else none
  .next (s.setPair pair (if Config.overCurrent (pair / 8) s.fresh then
      { p with capUp := lowered (p.cap 0), capLo := lowered (p.cap 1), calm := none }
    else if 10 * diff ≤ Nat.max up lo then { p with calm := calm }
    else if lo < up then { p with capUp := lowered (p.cap 0), calm := none }
    else { p with capLo := lowered (p.cap 1), calm := none }))

/-- A cap 100 MHz higher; 10 is none. -/
def raised (cap : Nat) : Nat := Nat.min 10 (cap + 1)

/-- IMBALANCE_CAP_RAISE: after every 10 µs in which the difference has stayed within 5 % the caps of the pair rise by 100 MHz, until
none remains: what the sensor has come to, and what the dispatcher has set, which is the same cap (R394; log 91). -/
def execImbalanceCapRaise (pair : Nat) (s : State) : Host.Outcome State Fault Refusal :=
  let p := s.pair pair
  .next (if p.calm.any fun t => decide (10000 ≤ (s.mod.clk - t).toNat) then
    s.setPair pair { p with
      capUp := raised p.capUp, capLo := raised p.capLo, needUp := raised p.needUp, needLo := raised p.needLo, calm := some s.mod.clk }
  else s)

/-! Heat (spec/33 R398). -/

/-- HOT_FLAG: set at 95 degrees or more, cleared at 90 or less. -/
def execHotFlag (cluster temp : Nat) (s : State) : Host.Outcome State Fault Refusal :=
  let c := s.cluster cluster
  .next (if 95 ≤ temp then s.setCluster cluster { c with hot := true }
  else if temp ≤ 90 then s.setCluster cluster { c with hot := false } else s)

/-- Every cluster of the die of a cluster is hot. -/
def State.allHot (s : State) (cluster : Nat) : Bool :=
  (List.range 16).all fun k => (s.cluster (cluster / 16 * 16 + k)).hot

/-- THERMAL_STEP: a step of 100 MHz less for heat, down to 300 MHz, or one back. -/
def execThermalStep (cluster temp : Nat) (s : State) : Host.Outcome State Fault Refusal :=
  let c := s.cluster cluster
  .next (if 100 ≤ temp ∨ (95 ≤ temp ∧ s.allHot cluster) then s.setCluster cluster { c with steps := Nat.min 7 (c.steps + 1) }
  else if temp ≤ 90 then s.setCluster cluster { c with steps := c.steps - 1 } else s)

/-! Gating (spec/33 R397). -/

/-- GATING_HOLD_EXPIRY: a core that has been idle for its hold of 20 µs is gated. -/
def execGatingHoldExpiry (core : Nat) (s : State) : Host.Outcome State Fault Refusal :=
  let c := s.coreAt core
  .next (if isControl core ∨ c.run ≠ .idle ∨ c.reserved.isSome ∨ c.ballast.isSome ∨ c.testing ∨
      (s.mod.clk - c.holdAt).toNat < 20000 then s
  else s.onCore core Core.gate)

/-- WAKE_COMPLETE: one of the four wakes that the arbiter of a pair has admitted ends. -/
def execWakeComplete (core : Nat) (s : State) : Host.Outcome State Fault Refusal :=
  let p := s.pair (pairOf core)
  .next (if (p.wakes.take 4).contains core then
    (s.setPair (pairOf core) { p with wakes := p.wakes.erase core }).onCore core fun c =>
      { c with gated := false, holdAt := s.mod.clk }
  else s)

end Sys2Proof.Machine
end

