-- ==== Sys2Proof/Machine/Host.lean ====
section
/-! DEFINITION. Boot (spec/31 R377-R379), sessions and requests of the Verend host transport (R380-R389), contexts (R382, R383),
attestation and features (R384-R386), Oxsin links and STEP (R390, R391), and the registration of queues (spec/23 R310). -/

namespace Sys2Proof.Machine

/-! Boot. -/

/-- The images of a slot that are accepted. -/
def accepted (slot : List (List Byte)) : List (List Byte) := slot.filter Config.genuine

/-- The images that the ROM loads: those of slot A, else of slot B (R377). -/
def State.loads (s : State) : List (List Byte) :=
  let a := accepted (s.mod.images.toList.getD 0 [])
  if a.isEmpty then accepted (s.mod.images.toList.getD 1 []) else a

/-- BOOTM: the chain over the accepted images in load order (R378). -/
def measurement (images : List (List Byte)) : List Byte :=
  images.foldl (fun m i => Config.sha384 (m ++ Config.sha384 i)) (List.replicate 48 0)

/-- The sites whose dies proved their identity, without the harvested one (R379, spec/01 R8, R9). -/
def liveSites (passed : List Nat) : List Nat := (List.range 9).filter fun d => passed.contains d && d != Config.harvested

/-- The MiB of a die's D-pad that become combine buffer (spec/01 R14). -/
def cbTable (n : Nat) : Store Nat :=
  (List.range n).foldl (fun m d => Store.set 0 m d (Nat.min 96 (Config.combineMiB d))) []

/-- HIBBUD as a boot publishes it: HEALTH and LIST as measured, FIXED the firmware-reserved memory and the largest slate, which
takes 17 MiB: a page, 256 regions, 65535 contexts and the seal (spec/29 R359, R366-R369). -/
def hibbudOf (measured : W64) : W64 :=
  (measured &&& 0xFF000000FFFFFFFF#64) ||| w64 ((Config.reservedMiB + 17) % 2 ^ 24 * 2 ^ 32)

/-- BOOT: images are verified and measured, dies prove their identity; without images or with fewer than two dies the module is
in recovery. A valid slate waits for the restart. -/
def execBoot (passed : List Nat) (budget : W64) (s : State) : Host.Outcome State Fault Refusal :=
  let t := s.powerUp
  let images := s.loads
  let lives := (liveSites passed).take 8
  .next (if images.isEmpty ∨ lives.length < 2 then { t with mod := { t.mod with boot := .recovery, lives := [] } }
  else { t with
    st := { t.st with cbMiB := cbTable lives.length }
    mod := { t.mod with boot := .up, lives := lives, bootm := measurement images, hibbud := hibbudOf budget } })

/-- RECOVERY_IMAGE_WRITE: in recovery the service writes the images of a slot (R377). -/
def execRecoveryImageWrite (slot : Nat) (images : List (List Byte)) (s : State) : Host.Outcome State Fault Refusal :=
  .next (if s.mod.boot = .recovery then
    { s with mod := { s.mod with images := s.mod.images.setIfInBounds slot images } } else s)

/-! Oxsin links and STEP (R390, R391): a port is 0 down, 1 trained, 2 retraining. -/

/-- LINK_TRAINING: a port trains: STEP goes to the peer, and becomes the largest value seen; the next boundary falls where the
fabric's do, at a free time within the step (log 105). -/
def execLinkTraining (port : Nat) (peerStep : W64) (s : State) : Host.Outcome State Fault Refusal :=
  .next (if s.mod.boot = .up ∧ port < 16 then
    { s with peers := { s.peers with ports := s.peers.ports.setIfInBounds port 1 }
             mod := { s.mod with step := if s.mod.step.toNat < peerStep.toNat then peerStep else s.mod.step,
                                 stepAt := s.mod.clk - w64 (s.free 0 % 4096) } }.send (.step port s.mod.step)
  else s)

/-- LINK_RETRAIN: a trained port loses its link and retrains. -/
def execLinkRetrain (port : Nat) (s : State) : Host.Outcome State Fault Refusal :=
  .next (if s.peers.ports.toList.getD port 0 = 1 then
    { s with peers := { s.peers with ports := s.peers.ports.setIfInBounds port 2
                                     portAt := s.peers.portAt.setIfInBounds port s.mod.clk } }
  else s)

/-- LINK_RETRAIN_TIMEOUT: a port that has not retrained within 10 ms is taken down; the aborts that the switch makes arrive as
COLL_ABORT. -/
def execLinkRetrainTimeout (port : Nat) (s : State) : Host.Outcome State Fault Refusal :=
  .next (if s.peers.ports.toList.getD port 0 = 2 ∧ 10000000 ≤ (s.mod.clk - s.peers.portAt.toList.getD port 0).toNat then
    { s with peers := { s.peers with ports := s.peers.ports.setIfInBounds port 0 } }
  else s)

/-- STEP at the next boundary: a written value that is not below the present one, else one more. -/
def nextStep (step : W64) (written : Option W64) : W64 :=
  match written with
  | some v => if step.toNat ≤ v.toNat then v else step + 1
  | none => step + 1

/-- STEP_BOUNDARY: STEP advances 4096 clk after the last boundary (R391). -/
def execStepBoundary (s : State) : Host.Outcome State Fault Refusal :=
  .next (if s.mod.boot = .up ∧ 4096 ≤ (s.mod.clk - s.mod.stepAt).toNat then
    { s with mod := { s.mod with step := nextStep s.mod.step s.mod.stepNext, stepNext := none, stepAt := s.mod.stepAt + 4096 } }
  else s)

/-! Sessions (R380, R381). -/

/-- Bytes drawn from the random source. -/
def State.randomBytes (s : State) (k n : Nat) : List Byte := (List.range n).map fun i => BitVec.ofNat 8 (s.free (k + i))

/-- The ASCII bytes of the info strings of R381. -/
def ascii (t : String) : List Byte := t.toList.map fun c => BitVec.ofNat 8 c.toNat

/-- The header of a handshake datagram of the device (R381). -/
def handshakeHead (sid : Nat) : List Byte := leBytes 4 1 ++ leBytes 4 sid ++ leBytes 8 0

/-- HELLO: a handshake datagram with VER 1, KIND 0, SID and SEQ 0 and a whole body; any other is dropped. The device answers
ACCEPT, signed, and the traffic keys are derived. In recovery the answer is NOTREADY. -/
def execHello (datagram : List Byte) (s : State) : Host.Outcome State Fault Refusal :=
  let body := datagram.drop 16
  .next (if s.mod.boot = .recovery then s.send .notReady
  else if s.mod.boot = .off ∨ leAt datagram 0 2 ≠ 1 ∨ leAt datagram 4 12 ≠ 0 ∨ body.length ≠ 129 then s
  else
    let sid := s.peers.nextSid
    let half := sized 97 (Config.ephemeral s.fresh) ++ s.randomBytes 0 32
    let shared := Config.ecdh (body.take 97) s.fresh
    let salt := body.drop 97 ++ half.drop 97
    let x : Session := { sid := sid, alive := true, opened := false, feat := 0,
                         keyIn := Config.hkdf shared salt (ascii "to device"), keyOut := Config.hkdf shared salt (ascii "from device"),
                         next := 0, taken := [], sent := 0, waiting := [], replies := [] }
    let t := s.send (.accept sid (handshakeHead sid ++ half ++ sized 96 (Config.sign (Config.sha384 (body ++ half)))))
    { t with peers := { t.peers with sessions := t.peers.sessions ++ [x], nextSid := sid + 1 } })

/-- What a request is answered: its status, its result and its data (R387, R388). -/
structure Answer where
  status : Nat := 0
  res    : W64 := 0
  data   : List Byte := []
  deriving DecidableEq, Repr

/-- An answer of a status alone. -/
def status (n : Nat) : Answer := { status := n }

/-- OP of a request (R388). -/
def Ask.op : Ask → Nat
  | .open_ _ => 1 | .create _ => 2 | .destroy => 3 | .reclaim _ => 4 | .expose .. => 5 | .append .. => 6 | .read .. => 7
  | .write .. => 8 | .add .. => 9 | .recall _ => 10 | .give .. => 10 | .report _ => 11 | .cert => 11 | .mread .. => 12
  | .scrubRate .. => 13 | .disposal _ => 13 | .close => 14 | .fetched .. => 10

/-- The data that follow the header of a message. -/
def Ask.data : Ask → List Byte
  | .reclaim b | .append _ b | .write _ b | .give _ b | .report b | .scrubRate _ b | .disposal b | .fetched _ _ b => b
  | .open_ _ | .create _ | .destroy | .expose .. | .read .. | .add .. | .recall _ | .cert | .mread .. | .close => []

/-- The largest message body: a datagram of 9216 bytes without its header and tag (R381). -/
def maxBody : Nat := 9184

/-- The datagram is one that the device takes up: VER and KIND of a protected message, authentic, and not too long (R381). -/
def Ask.received (a : Ask) (r : Req) : Bool :=
  r.ver == 1 && r.kind == 1 && r.authentic && decide (32 + a.data.length ≤ maxBody)

/-- The message is formed as R388 lays it out: an operation that R388 and R389 list, every reserved field zero, and LEN the length
of its data. -/
def Ask.wellFormed (a : Ask) (r : Req) : Bool :=
  r.op.isNone && r.sub.isNone && r.spare == 0 && r.len.all (· == a.data.length)

/-- The request is refused while a drain or restart is under way, an APPEND at level 4 too (R387, spec/29 R358, R372). -/
def Ask.hibernates (a : Ask) (normal : Bool) (level : Nat) : Bool :=
  match a with
  | .open_ _ | .report _ | .cert | .mread .. | .scrubRate .. | .disposal _ | .close | .fetched .. => false
  | .append .. => !normal || level == 4
  | _ => !normal

/-- The reply body (R388). -/
def replyBody (a : Ask) (r : Req) (x : Answer) : List Byte :=
  leBytes 1 (r.op.getD a.op % 128 + 128) ++ leBytes 1 x.status ++ leBytes 2 r.asid.toNat ++ leBytes 4 x.data.length ++ leBytes 8 r.seq ++
    leBytes 8 x.res.toNat ++ leBytes 8 0 ++ x.data

/-! Session-level requests. -/

/-- The FEAT value granted for a proposal (R385). -/
def State.grant (s : State) (proposal : W64) : W64 :=
  (proposal &&& Config.offer &&& 0xDFF#64) ||| (if s.liveDies < 8 then 0x200#64 else 0) ||| 0x0100000000000000#64

/-- OPEN: a proposal of another ISA version is refused, and the session ends. -/
def State.askOpen (s : State) (x : Session) (proposal : W64) : State × Answer :=
  if x.opened then (s, status 6)
  else if field proposal 63 56 ≠ 1 then (s.onSession x.sid fun y => { y with alive := false }, status 4)
  else
    let f := s.grant proposal
    (s.onSession x.sid fun y => { y with opened := true, feat := f }, { res := f })

/-- The lowest ASID that is not in use. -/
def State.freeAsid (s : State) : Option Nat :=
  ((List.range s.sched.contexts.length).map (· + 1) ++ [s.sched.contexts.length + 1]).find? fun a =>
    decide (a < 65536) && !(s.context a).live

/-- The counters that a new context owns: those that firmware allocates and nobody owns, each at 0 (spec/07 R95). -/
def State.allot (s : State) (a d0 n : Nat) : State :=
  let keys := (Config.counters a).filterMap fun h =>
    let k := (d0 + h / 2 ^ 29) * 2 ^ 22 + h % 2 ^ 22
    if h / 2 ^ 29 < n ∧ Store.get 0 s.sync.owner k = 0 then some k else none
  keys.foldl (fun t k => { t with sync := { t.sync with
    owner := Store.set 0 t.sync.owner k a, value := Store.set 0 t.sync.value k 0 } }) s

/-- The device-physical address of the 4 MiB of HBM in which firmware puts the root table of a context, behind it the tables of its
frame area, and in the last MiB the frame area, inside the device's range (spec/05 R58, R61, spec/25 R332; log 24). -/
def firstTables (live pres dev a : Nat) : Nat :=
  Config.firmwarePlace a 0 % ((stacksOf live pres dev).2 * 12288) * 2 ^ 22

/-- Bytes from a context's first tables on are clear: nothing is listed of them. -/
def State.clearTables (s : State) (c : Context) : State :=
  let raws := (List.range 1024).filterMap fun k => s.place c (c.root + 4096 * k)
  let mine := fun (r : Nat) => raws.contains (r / 4096 * 4096)
  { s with st := { s.st with
      mem := s.st.mem.filter fun e => !mine e.1
      lines := s.st.lines.filter fun e => !mine e.1
      flaws := s.st.flaws.filter fun e => !mine e.1 } }

/-- The frame area is mapped, read-write and unwatched: an entry in the root and in the next two tables, and 256 leaves of 4 KiB
(spec/25 R332, spec/05 R59). -/
def State.mapFrames (s : State) (a : Nat) : State :=
  let c := s.context a
  let t2 := c.root + 2 ^ 21
  let area := c.root + 3 * 2 ^ 20
  let s1 := s.setEntry a (c.root + 8 * field c.frameVa 56 39) (w64 t2 ||| 1)
  let s2 := s1.setEntry a (t2 + 8 * field c.frameVa 38 30) (w64 (t2 + 4096) ||| 1)
  let s3 := s2.setEntry a (t2 + 4096 + 8 * field c.frameVa 29 21) (w64 (t2 + 8192) ||| 1)
  (List.range 256).foldl (fun t k =>
    t.setEntry a (t2 + 8192 + 8 * (field c.frameVa 20 12 + k)) (w64 (area + 4096 * k) ||| 7)) s3

/-- The context that firmware makes (R382, R383, spec/05 R51, R58, R79, R80); without WATCH no pad range is watched (R386). -/
def newContext (live a pres dev : Nat) (det : Bool) (feat : W64) (sid keyGen : Nat) (ticket : List Byte) : Context :=
  let pads := (Config.padTable a).foldl (fun m e => Store.set 0 m e.1 (if feat.getLsbD 3 then e.2 % 8 else e.2 % 4)) ([] : Store Nat)
  { Context.none with
    live := true, pres := pres, dev := dev, det := det, feat := feat, root := firstTables live pres dev a, pads := pads,
    frameVa := w64 (Config.firmwarePlace a 1 % 2 ^ 36 * 2 ^ 20), saveRaw := Config.firmwarePlace a 2, logRaw := Config.firmwarePlace a 3,
    keyv := [0], keyGen := keyGen, session := some sid, ticket := Config.sha384 ticket,
    groups := (Config.groupTable a).map fun g => { group := g.1, rank := g.2.1, n := g.2.2 } }

/-- CREATE: the context's ASID, keys, storage and ticket; a presentation that cannot be formed, and a module without a free ASID, are
answered BADREQ, for which R18, R387 and R388 name no status (DESIGN CHOICE, log 56); so is a module whose reserved memory the context
would make outgrow FIXED (spec/29 R359; log 56). -/
def State.askCreate (s : State) (x : Session) (arg : W64) : State × Answer :=
  let pres := field arg 1 0
  let dev := field arg 4 2
  let det := arg.getLsbD 5
  if !s.formed pres dev then (s, status 6)
  else if det && !x.feat.getLsbD 4 then (s, status 4)
  else match s.freeAsid with
    | none => (s, status 6)
    | some a =>
      let ticket := s.randomBytes 0 32
      let gen := s.mod.keyGens + 1
      let c := newContext s.liveDies a pres dev det x.feat x.sid gen ticket
      let (d0, n) := s.dies c
      let s1 := ((((s.clearTables c).setContext a c).mapFrames a).allot a d0 n)
      let s2 := (Config.frames a).foldl (fun t f => if t.keyAsid (4096 * f) = 0 then t.setKey (4096 * f) a else t) s1
      if 2 ^ 20 * Config.reservedMiB < s2.reservedBytes then (s, status 6)
      else ({ s2 with mod := { s2.mod with keyGens := gen } }, { res := w64 a, data := ticket })

/-- RECLAIM: a wrong ticket counts against the context, and the sixteenth ends it (R383); FEAT is that of the session from now on
(R385). -/
def State.askReclaim (s : State) (x : Session) (a : Nat) (ticket : List Byte) : State × Answer :=
  let c := s.context a
  if !c.live ∨ ticket.length ≠ 32 then (s, status 6)
  else if c.session.isSome then (s, status 4)
  else if Config.sha384 ticket ≠ c.ticket then
    let s1 := s.setContext a { c with wrong := c.wrong + 1 }
    (if 16 ≤ c.wrong + 1 then s1.endContext a 0x21 else s1, status 4)
  else if c.feat &&& ~~~x.feat ≠ 0 then (s, status 4)
  else (s.setContext a { c with session := some x.sid, detached := Option.none, feat := x.feat }, status 0)

/-- LIVE: a bit for each live logical die (R384). -/
def State.liveBits (s : State) : Nat := 2 ^ s.liveDies - 1

/-- The attestation report (R384). -/
def State.attestation (s : State) (nonce : List Byte) : List Byte :=
  let gen := if s.validSlate.isSome then s.mod.genmax else 0
  let body := nonce ++ sized 48 Config.identity ++ sized 48 s.mod.bootm ++ leBytes 8 offered.toNat ++
    leBytes 1 s.liveBits ++ leBytes 7 0 ++ leBytes 8 s.mod.hibbud.toNat ++ leBytes 8 gen ++ leBytes 16 0
  body ++ sized 96 (Config.sign body)

/-! Objects (R388). -/

/-- The dailies of all live dies (spec/27 R353). -/
def State.dailiesBytes (s : State) : List Byte :=
  (List.range s.liveDies).flatMap fun d => (List.range 7).flatMap fun v =>
    bytes64 ((List.range 6).map fun w => s.daily d v w) ++ leBytes 16 (Store.get 0 s.mod.lastSyn (7 * d + v))

/-- The scrub rate table: 8 bytes a level (spec/27 R352). -/
def State.ratesBytes (s : State) : List Byte := s.mod.scrub.toList.flatMap (leBytes 8 ·)

/-- The restart report: its counts are 4 bytes each; which bytes of an entry hold its items is the model's reading (log 45). -/
def State.reportBytes (s : State) : List Byte :=
  match s.mod.report with
  | none => leBytes 16 0
  | some r =>
    leBytes 4 r.regions.length ++ leBytes 4 r.stopped.length ++ leBytes 4 r.pages.length ++ leBytes 4 0 ++
    r.regions.flatMap (fun e => leBytes 1 e.1 ++ leBytes 1 e.2.1 ++ leBytes 6 0 ++ leBytes 8 e.2.2 ++ leBytes 16 0) ++
    r.stopped.flatMap (fun e => leBytes 4 e.1 ++ leBytes 4 e.2) ++
    r.pages.flatMap fun e => leBytes 8 e.1 ++ leBytes 8 e.2.toNat

/-- Power status: DERATE and CURLIM of each die (spec/33 R395, R396). -/
def State.powerBytes (s : State) : List Byte :=
  (List.range s.liveDies).flatMap fun d =>
    leBytes 8 ((s.die d).lost * 2 ^ 12 + s.mod.level) ++ leBytes 8 (s.die d).amps

/-- The bytes of the event log ring of a context. -/
def State.logBytes (s : State) (c : Context) : List Byte := Store.getList 0 s.st.mem c.logRaw (32 * Config.ringSize 0)

/-- An object that MREAD reads; none where there is none, or the context is not the session's. -/
def State.object (s : State) (x : Session) (a object : Nat) : Option (List Byte) :=
  match object with
  | 1 => if (s.context a).live ∧ (s.context a).session = some x.sid then some (s.logBytes (s.context a)) else none
  | 2 => some s.dailiesBytes
  | 3 => some s.ratesBytes
  | 4 => some s.reportBytes
  | 5 => some s.powerBytes
  | _ => none

/-- MREAD; one that wants more than a datagram holds is malformed (R381; DESIGN CHOICE, log 45). -/
def State.askMread (s : State) (x : Session) (a : Nat) (object offset n : W64) : State × Answer :=
  match s.object x a object.toNat with
  | none => (s, status 6)
  | some b =>
    if b.length < offset.toNat + n.toNat ∨ maxBody < 32 + n.toNat then (s, status 6) else (s, { data := (b.drop offset.toNat).take n.toNat })

/-- MWRITE of the scrub rate table: the PERIOD of every level, also of level 5, which is not patrolled (spec/27 R352). -/
def State.askScrubRate (s : State) (offset : W64) (data : List Byte) : State × Answer :=
  let o := offset.toNat
  let b := s.ratesBytes
  if 56 < o + data.length then (s, status 6)
  else
    let b' := b.take o ++ data ++ b.drop (o + data.length)
    ({ s with mod := { s.mod with scrub := Vector.ofFn fun v => leAt b' (8 * v.val) 4 } }, status 0)

/-- MWRITE of the slate disposal: the header of a rejected slate becomes zero. -/
def State.askDisposal (s : State) (data : List Byte) : State × Answer :=
  if data ≠ [1] then (s, status 6)
  else
    let s1 := match s.mod.rejected, s.validSlate with
      | true, some (k, _) => s.writeTier 0 (slotBlock k) (List.replicate 4096 0)
      | _, _ => s
    ({ s1 with mod := { s1.mod with rejected := false, kept := if s.mod.rejected then none else s1.mod.kept } }, status 0)

/-- CLOSE: the session's contexts end with it (R382). -/
def State.askClose (s : State) (x : Session) : State × Answer :=
  let s1 := (s.contextsOf x.sid).foldl (fun t a => t.endContext a 0x21) s
  (s1.onSession x.sid fun y => { y with alive := false }, status 0)

/-! Context-level requests. -/

/-- EXPOSE: at most 64 ranges; one that starts where another does takes its place. -/
def State.askExpose (s : State) (a : Nat) (va pages : W64) (write : Bool) : State × Answer :=
  let c := s.context a
  let rest := c.exposed.filter fun e => e.1 != va
  if va.toNat % 4096 ≠ 0 then (s, status 6)
  else if pages = 0 then (s.setContext a { c with exposed := rest }, status 0)
  else if 64 ≤ rest.length then (s, status 6)
  else (s.setContext a { c with exposed := rest ++ [(va, pages, write)] }, status 0)

/-- The page of an address is exposed by a context, for writes too. -/
def Context.exposes (c : Context) (va : W64) (write : Bool) : Bool :=
  c.exposed.any fun e => decide (e.1.toNat ≤ va.toNat) && decide (va.toNat < e.1.toNat + 4096 * e.2.1.toNat) && (!write || e.2.2)

/-- A transfer of `n` bytes is malformed: none or more than 4096, or not within one page. -/
def badTransfer (va : W64) (n : Nat) : Bool := n == 0 || decide (4096 < va.toNat % 4096 + n)

/-- APPEND with the header that it has read: the steps of R312 at the header's home, after the ring has been checked as qapp checks it
(spec/21 R293). A write that would meet an open slot of a watched line waits. -/
def State.appendWith (s : State) (a : Nat) (q : Queue) (h packet : List Byte) : Option (State × Answer) :=
  let lg := hdrLg h
  let w := w64 (leAt h 0 8)
  if lg < 4 ∨ 16 < lg ∨ (hdrRing h).toNat % 64 ≠ 0 then some (s, status 4)
  else match s.touchesFor a { write := true } [(hdrRing h, 64 * 2 ^ lg)] with
    | .error _ => some (s, status 4)
    | .ok ts =>
      if 2 ^ lg ≤ (w - hdrRead h).toNat then some (s, status 3)
      else
        let us := (ts.drop (64 * (w.toNat % 2 ^ lg))).take 64
        if s.writeWaits us then none
        else
          let s1 := s.setHeader q 0 (leBytes 8 (w + 1).toNat)
          let s2 := s1.writeOut us ((packet.take 63 ++ leBytes 1 (1 + w.toNat / 2 ^ lg)).map clean)
          some (s2, { res := w })

/-- APPEND: it waits while its header's line holds an open slot, whatever it will answer (spec/07 R91); a header that cannot be
reached is DENIED, a poisoned one POISONED (R387). -/
def State.askAppend (s : State) (a : Nat) (num : W64) (packet : List Byte) : Option (State × Answer) :=
  if packet.length ≠ 64 then some (s, status 6)
  else match s.queue a num.toNat with
    | none => some (s, status 6)
    | some q =>
      if s.headerBusy q then none
      else
        let t := s.meetFor q.asid q.header 64
        match t.touchesFor q.asid {} [(q.header, 64)], t.header q with
        | .error _, _ => some (t, status 4)
        | .ok _, none => some (t, status 5)
        | .ok _, some (_, h) => t.appendWith a q h packet

/-- READ: data of a poisoned line is zero. -/
def State.askRead (s : State) (c : Context) (a : Nat) (va n : W64) : Option (State × Answer) :=
  if badTransfer va n.toNat then some (s, status 6)
  else if !c.feat.getLsbD 11 || !c.exposes va false then some (s, status 4)
  else
    let u := s.meetTables a [(va, n.toNat)]
    match u.touchesFor a {} [(va, n.toNat)] with
    | .error _ => some (u, status 4)
    | .ok ts =>
      if u.readWaits ts then none
      else
        let (t, vs) := u.readOut ts
        some (t, { status := if vs.any (·.2) then 5 else 0, data := vs.map fun v => if v.2 then 0 else v.1 })

/-- WRITE. -/
def State.askWrite (s : State) (c : Context) (a : Nat) (va : W64) (data : List Byte) : Option (State × Answer) :=
  if badTransfer va data.length then some (s, status 6)
  else if !c.feat.getLsbD 11 || !c.exposes va true then some (s, status 4)
  else
    let u := s.meetTables a [(va, data.length)]
    match u.touchesFor a { write := true } [(va, data.length)] with
    | .error _ => some (u, status 4)
    | .ok ts => if u.writeWaits ts then none else some (u.writeOut ts (data.map clean), status 0)

/-- ADD. -/
def State.askAdd (s : State) (a : Nat) (handle v : W64) : State × Answer :=
  match s.counterKey a (handle &&& 0xFFFFFFFF) with
  | none => (s, status 6)
  | some k =>
    if s.logStalls (some k) then (s, status 1)
    else if s.wouldOverflow k v then (s, status 8)
    else (s.applyAdd k v 0 1, status 0)

/-- RECALL: it waits for a move in flight; then OWN clears, the page's translations go, no access to it is on its way, and its
bytes are sent (R389, spec/05 R68; log 92). -/
def State.askRecall (s : State) (a : Nat) (va : W64) : Option (State × Answer) :=
  if va.toNat % 4096 ≠ 0 then some (s, status 6)
  else
    if !(s.shared a va).1 then some (s, status 4)
    else if s.moving a va then none
    else if !s.holdsPart a va then some (s, status 4)
    else match s.pageRaw a va with
      | none => some (s, status 4)
      | some raw =>
        let ts := (List.range 4096).map fun k => ({ va := va, raw := raw + k, watched := true } : Touch)
        if s.accessesOpen a || s.readWaits ts then none
        else
          let (t, vs) := (s.givePage a va).readOut ts
          some (t, { status := if vs.any (·.2) then 5 else 0, data := vs.map fun v => if v.2 then 0 else v.1 })

/-- GIVE: the page is written, OWN is set, and the shots that wait for it resume (R389, spec/05 R68; log 92). -/
def State.askGive (s : State) (a : Nat) (va : W64) (data : List Byte) : Option (State × Answer) :=
  if va.toNat % 4096 ≠ 0 ∨ data.length ≠ 4096 then some (s, status 6)
  else
    if s.moving a va || s.pageWaits a va then none
    else if !(s.shared a va).1 || s.holdsPart a va then some (s, status 4)
    else some ((s.takePage a va data).resolveWaiting a va, status 0)

/-! The order of requests (R380). -/

/-- A request performed: the state and the answer; none where it waits. -/
def State.perform (s : State) (x : Session) (r : Req) (ask : Ask) : Option (State × Answer) :=
  let a := r.asid.toNat
  let c := s.context a
  let mine := c.live && c.session == some x.sid
  let inContext := fun (f : Unit → Option (State × Answer)) => if mine then f () else some (s, status 6)
  if !x.opened && ask.op != 1 || !ask.wellFormed r then some (s, status 6)
  else if ask.hibernates (s.mod.phase == .normal) s.mod.level then some (s, status 2)
  else match ask with
    | .open_ p => some (s.askOpen x p)
    | .create g => some (s.askCreate x g)
    | .destroy => inContext fun _ => some (s.endContext a 0x21, status 0)
    | .reclaim t => some (s.askReclaim x a t)
    | .expose va n w => inContext fun _ => some (s.askExpose a va n w)
    | .append q p => inContext fun _ => s.askAppend a q p
    | .read va n => inContext fun _ => s.askRead c a va n
    | .write va b => inContext fun _ => s.askWrite c a va b
    | .add h v => inContext fun _ => some (s.askAdd a h v)
    | .recall va => inContext fun _ => s.askRecall a va
    | .give va b => inContext fun _ => s.askGive a va b
    | .report n => some (s, if n.length = 48 then { data := s.attestation n } else status 6)
    | .cert => some (s, { data := Config.certificate.take 8192 })
    | .mread o k n => some (s.askMread x a o k n)
    | .scrubRate k b => some (s.askScrubRate k b)
    | .disposal b => some (s.askDisposal b)
    | .close => some (s.askClose x)
    | .fetched .. => none

/-- The number of the next request, from `k` on: replies that have been taken up out of turn are behind. -/
def Session.skip (x : Session) : Nat → Nat → Nat
  | 0, k => k
  | n + 1, k => if x.taken.contains k then x.skip n (k + 1) else k

/-- The message of the session whose turn it was has been performed. -/
def Session.passed (x : Session) (seq : Nat) : Session :=
  let k := x.skip x.taken.length (x.next + 1)
  { x with next := k, taken := x.taken.filter (k < ·), waiting := x.waiting.filter fun w => w.1.seq != seq }

/-- The reply to a FETCH has been taken up while a request before it waits. -/
def Session.tookReply (x : Session) (seq : Nat) : Session :=
  { x with taken := x.taken ++ [seq], waiting := x.waiting.filter fun w => w.1.seq != seq }

/-- Every message before number `seq` has arrived (R380). -/
def Session.allBefore (x : Session) (seq : Nat) : Bool :=
  (List.range (seq - x.next)).all fun k => x.taken.contains (x.next + k) || x.waiting.any (·.1.seq == x.next + k)

/-- Performs the request whose turn it is and stores and sends its reply; none where it waits. -/
def State.respond (s : State) (x : Session) (r : Req) (ask : Ask) : Option State :=
  (s.perform x r ask).map fun e =>
    let body := replyBody ask r e.2
    let y := ((e.1.peers.sessions.find? (·.sid == x.sid)).getD x).sent
    let t := e.1.onSession x.sid fun z =>
      { z.passed r.seq with sent := y + 1, replies := ((r.seq, y, body) :: z.replies).take 257 }
    (t.send (.reply x.sid y body (x.datagram y body))).exhaust x.sid

/-- Takes up the host's reply to a FETCH, which no reply answers; none where it waits: for the write of the page, and
between a power-fail warning and the end of the restart (R380, R389). -/
def State.takeFetched (s : State) (x : Session) (r : Req) (va : W64) (granted : Bool) (data : List Byte) : Option State :=
  let a := r.asid.toNat
  let mine := (s.context a).session == some x.sid && (!granted || data.length == 4096) && Ask.wellFormed (.fetched va granted data) r
  if s.mod.phase ≠ .normal then none
  else (if mine then s.fetched a va granted data else some s).map fun t =>
    (t.onSession x.sid fun z => if r.seq = x.next then z.passed r.seq else z.tookReply r.seq).exhaust x.sid

/-- Performs the message whose turn it is; none where it waits. -/
def State.takeTurn (s : State) (x : Session) (r : Req) (ask : Ask) : Option State :=
  match ask with
  | .fetched va granted data => s.takeFetched x r va granted data
  | _ => s.respond x r ask

/-- Takes up a held reply to a FETCH before which every message has arrived, though a request before it waits: the move that it ends
may be what that request waits for (R380, R389; log 106). -/
def State.takeReply (s : State) (x : Session) : Option State :=
  x.waiting.findSome? fun w => match w.2 with
    | .fetched va granted data => if x.allBefore w.1.seq then s.takeFetched x w.1 va granted data else none
    | _ => none

/-- The held messages whose turn has come are performed in order. -/
def State.respondHeld (sid : Nat) : Nat → State → State
  | 0, s => s
  | n + 1, s =>
    match s.session sid with
    | none => s
    | some x =>
      let inTurn := (x.waiting.find? fun w => w.1.seq == x.next).bind fun w => s.takeTurn x w.1 w.2
      match inTurn.or (s.takeReply x) with
      | none => s
      | some t => respondHeld sid n t

/-- A message is held: it is early, or its turn has come and it waits (R380). -/
def Session.hold (x : Session) (r : Req) (ask : Ask) : Session :=
  if x.taken.contains r.seq || x.waiting.any (·.1.seq == r.seq) then x else { x with waiting := x.waiting ++ [(r, ask)] }

/-- A message arrives: performed in turn, held when it is early, answered again when it is old, dropped otherwise, as is a datagram
that the device does not take up (R380, R381). -/
def State.receive (s : State) (r : Req) (ask : Ask) : State :=
  if s.mod.boot = .recovery then s.send .notReady
  else if s.mod.boot = .off || !ask.received r then s
  else match s.session r.sid with
    | none => s
    | some x =>
      if r.seq = x.next then
        State.respondHeld r.sid 256 (match s.takeTurn x r ask with
          | none => s.onSession x.sid fun y => y.hold r ask
          | some t => t)
      else if x.next < r.seq then
        if r.seq < x.next + 256 then State.respondHeld r.sid 256 (s.onSession x.sid fun y => y.hold r ask) else s
      else match x.replies.find? fun e => e.1 == r.seq with
        | some e => if x.next ≤ r.seq + 257 then s.send (.reply x.sid e.2.1 e.2.2 (x.datagram e.2.1 e.2.2)) else s
        | none => s

/-- FETCH_REPLY: the host's reply to a FETCH (R389, spec/05 R68, R69). -/
def execFetchReply (req : Req) (va : W64) (granted : Bool) (data : List Byte) (s : State) : Host.Outcome State Fault Refusal :=
  .next (s.receive req (.fetched va granted data))
/-- OPEN. -/
def execSessionOpen (req : Req) (proposal : W64) (s : State) : Host.Outcome State Fault Refusal := .next (s.receive req (.open_ proposal))
/-- CREATE. -/
def execCreate (req : Req) (arg : W64) (s : State) : Host.Outcome State Fault Refusal := .next (s.receive req (.create arg))
/-- DESTROY. -/
def execDestroy (req : Req) (s : State) : Host.Outcome State Fault Refusal := .next (s.receive req .destroy)
/-- RECLAIM. -/
def execReclaim (req : Req) (ticket : List Byte) (s : State) : Host.Outcome State Fault Refusal := .next (s.receive req (.reclaim ticket))
/-- EXPOSE. -/
def execExpose (req : Req) (va pages : W64) (write : Bool) (s : State) : Host.Outcome State Fault Refusal :=
  .next (s.receive req (.expose va pages write))
/-- REMOTE_APPEND. -/
def execRemoteAppend (req : Req) (queue : W64) (packet : List Byte) (s : State) : Host.Outcome State Fault Refusal :=
  .next (s.receive req (.append queue packet))
/-- REMOTE_READ. -/
def execRemoteRead (req : Req) (va bytes : W64) (s : State) : Host.Outcome State Fault Refusal := .next (s.receive req (.read va bytes))
/-- REMOTE_WRITE. -/
def execRemoteWrite (req : Req) (va : W64) (data : List Byte) (s : State) : Host.Outcome State Fault Refusal :=
  .next (s.receive req (.write va data))
/-- REMOTE_ADD. -/
def execRemoteAdd (req : Req) (handle value : W64) (s : State) : Host.Outcome State Fault Refusal := .next (s.receive req (.add handle value))
/-- RECALL. -/
def execRecall (req : Req) (va : W64) (s : State) : Host.Outcome State Fault Refusal := .next (s.receive req (.recall va))
/-- GIVE. -/
def execGive (req : Req) (va : W64) (data : List Byte) (s : State) : Host.Outcome State Fault Refusal := .next (s.receive req (.give va data))
/-- ATTEST_REPORT. -/
def execAttestReport (req : Req) (nonce : List Byte) (s : State) : Host.Outcome State Fault Refusal := .next (s.receive req (.report nonce))
/-- ATTEST_CERT. -/
def execAttestCert (req : Req) (s : State) : Host.Outcome State Fault Refusal := .next (s.receive req .cert)
/-- MREAD. -/
def execMread (req : Req) (object offset bytes : W64) (s : State) : Host.Outcome State Fault Refusal :=
  .next (s.receive req (.mread object offset bytes))
/-- MWRITE_SCRUB_RATE. -/
def execMwriteScrubRate (req : Req) (offset : W64) (data : List Byte) (s : State) : Host.Outcome State Fault Refusal :=
  .next (s.receive req (.scrubRate offset data))
/-- SLATE_DISPOSAL. -/
def execSlateDisposal (req : Req) (data : List Byte) (s : State) : Host.Outcome State Fault Refusal := .next (s.receive req (.disposal data))
/-- CLOSE. -/
def execSessionClose (req : Req) (s : State) : Host.Outcome State Fault Refusal := .next (s.receive req .close)

/-- RECLAIM_WINDOW_EXPIRY: a detached context that nobody reclaimed ends (R383). -/
def execReclaimWindowExpiry (asid : BitVec 16) (s : State) : Host.Outcome State Fault Refusal :=
  let a := asid.toNat
  let past := ((s.context a).detached).any fun t => decide (s.mod.window * 1000000000 ≤ (s.mod.clk - t).toNat)
  .next (if (s.context a).live && past && s.mod.boot == .up && s.mod.phase == .normal then s.endContext a 0x21 else s)

/-! Queues (spec/23 R310). -/

/-- Q of a presentation. -/
def queueLimit (pres : Nat) : Nat := if pres = 0 then 4096 else if pres = 1 then 2048 else 512

/-- The header as a registration leaves it: its fields at their reset values, LG and RING as software set them (R311). -/
def State.resetHeader (s : State) (q : Queue) : State :=
  (((s.setHeader q 0 (leBytes 16 0)).setHeader q 25 [0]).setHeader q 26 [1]).setHeader q 32 (leBytes 9 0)

/-- Number `k` names a queue of some context of the device of `c` (spec/01 R16). -/
def State.queueTaken (s : State) (c : Context) (k : Nat) : Bool :=
  s.sched.queues.any fun q => q.num == k && (s.context q.asid).pres == c.pres && (s.context q.asid).dev == c.dev

/-- QUEUE_REGISTRATION: the lowest number that is free on the device; it fails beyond Q, or where the header cannot be reached. -/
def execQueueRegistration (asid : BitVec 16) (header : W64) (s : State) : Host.Outcome State Fault Refusal :=
  let a := asid.toNat
  let c := s.context a
  let n := ((List.range (queueLimit c.pres)).find? fun k => !s.queueTaken c k).getD (queueLimit c.pres)
  let q : Queue := { asid := a, num := n, header := header, age := 0 }
  .next (if c.live && s.dispatching && header.toNat % 64 == 0 && decide (n < queueLimit c.pres) && (s.header q).isSome && !s.headerBusy q then
    let t := s.resetHeader q
    { t with sched := { t.sched with queues := t.sched.queues ++ [q] } }
  else s)

end Sys2Proof.Machine
end

