-- ==== Sys2Proof/Machine/Matrix.lean ====
section
/-! DEFINITION. The matrix engine: spec/17, with the tiles, scales and sums of spec/09 R111-R120. -/

namespace Sys2Proof.Machine

/-! Tiles as values (spec/09 R108, R111, R112, R115, R232). -/

/-- The bytes of an operand tile, by format code (R232). -/
def footprint (fmt planes : Nat) (out : Bool) : Nat :=
  match fmt with
  | 0 => 8192 | 1 => 4096 | 2 => 4096 | 3 => if out then 2192 else 2048 | _ => 512 * planes

/-- A tile's elements in stored row-major order. -/
abbrev Tile := Array Fp

/-- Element (r, c) of a stored tile. -/
def Tile.at (t : Tile) (r c : Nat) : Fp := t.getD (64 * r + c) .nan

/-- Little-endian codes of `n` bytes each. -/
def codesOf (n : Nat) (bs : List Byte) : List Nat := (chunks n (bs.length / n) bs).map leNat

/-- The 4-bit codes of packed bytes (spec/09 R111). -/
def nibbles (bs : List Byte) : List Nat := bs.flatMap fun b => [b.toNat % 16, b.toNat / 16]

/-- The elements of an e2m1 tile, the n-th escape replaced by entry n of the side list (spec/09 R112). -/
def withEscapes (entries : List Nat) : List Nat → List Fp
  | [] => []
  | 8 :: cs => bf16.value (entries.headD 0) :: withEscapes (entries.drop 1) cs
  | c :: cs => e2m1.value c :: withEscapes entries cs

/-- The tile of a floating format; FMT ESCAPE when it holds more escapes than COUNT, or COUNT is above 64
(spec/09 R111, R112). -/
def tileOf (fmt : Nat) (out : Bool) (bs : List Byte) : Res Tile :=
  match fmt with
  | 0 => .ok ((codesOf 2 bs).map bf16.value).toArray
  | 1 => .ok ((codesOf 1 bs).map e4m3.value).toArray
  | 2 => .ok ((codesOf 1 bs).map e5m2.value).toArray
  | _ =>
    let cs := nibbles (bs.take 2048)
    if out then
      let count := leNat ((bs.drop 2048).take 2)
      if 64 < count ∨ count < (cs.filter (· == 8)).length then trap .fmt 1
      else .ok (withEscapes (codesOf 2 (bs.drop 2064)) cs).toArray
    else .ok (cs.map e2m1.value).toArray

/-- The elements of a plane-integer tile: the first `m` of its `n` planes, as multiples of their weight (spec/09 R115). -/
def planesOf (n m : Nat) (bs : List Byte) : Array Int :=
  let words := (codesOf 8 bs).toArray
  let elem := fun (r c : Nat) =>
    let v := (List.range m).foldl (fun a j => 2 * a + words.getD (64 * j + r) 0 / 2 ^ c % 2) 0
    let i : Int := if 2 ^ m ≤ 2 * v then (v : Int) - 2 ^ m else v
    i * 2 ^ (n - m)
  ((List.range 4096).map fun e => elem (e / 64) (e % 64)).toArray

/-! Group sums (spec/09 R114, R119, R120). -/

/-- The exact sum of terms; a zero is -0 only if every term is. -/
def sumOf (ts : List Fp) : Fp :=
  match ts with
  | [] => .fin (Dy.ofNat 0)
  | t :: ts => ts.foldl (fun a p => (a.add p).1) t

/-- The exact sum of products of one group, with INV where a NaN comes from elements that are none (spec/09 R110, R119); a group
with a NaN element raises no INV, whatever its other products are (log 102). -/
def groupSum (ts : List (Fp × Fp)) : Fp × Flags :=
  let s := sumOf (ts.map fun t => (t.1.mul t.2).1)
  (s, if s.isNan && !ts.any (fun t => t.1.isNan || t.2.isNan) then fINV else 0)

/-- The product of three values. -/
def Fp.mul3 (a b c : Fp) : Fp := (((a.mul b).1).mul c).1

/-- The exact variance sum of one group: the means and variances of both sides by term (R244). -/
def varianceSum (ts : List ((Fp × Fp) × (Fp × Fp))) : Fp × Flags :=
  let term := fun (t : (Fp × Fp) × (Fp × Fp)) =>
    let (ma, va) := t.1
    let (mb, vb) := t.2
    sumOf [Fp.mul3 ma ma vb, Fp.mul3 mb mb va, (va.mul vb).1]
  let s := sumOf (ts.map term)
  (s, if s.isNan && !ts.any (fun t => t.1.1.isNan || t.1.2.isNan || t.2.1.isNan || t.2.2.isNan) then fINV else 0)

/-- A group sum under its block's scales, which SCM has replaced (spec/09 R113, R114); `sov` is FMT.SOV. -/
def scaledSum (sov : Bool) (ea eb : Nat) (s : Fp × Flags) : W32 × Flags :=
  if ea = 0xFF ∨ eb = 0xFF then (f32NaN, 0)
  else match s.1 with
    | .fin d =>
      let v := d.scale ((ea : Int) + eb - 254)
      let low : Flags := if v.man ≠ 0 ∧ v.top < -126 then fSCUNF else 0
      let (r, f) := toF32 (.fin v)
      if f &&& fOVF ≠ 0 then
        if sov then (r, f ||| low)
        else (BitVec.ofNat 32 (f32.signed v.neg f32.top), fSCOVF ||| low)
      else (r, f ||| low)
    | _ => finish s

/-- One step of the loop of R119: overwrite applies to the first group alone, negated mode subtracts. -/
def accStep (mode : Nat) (fresh : Bool) (acc : W32) (gs : W32 × Flags) : W32 × Flags :=
  if fresh then gs
  else
    let (r, f) := if mode = 2 then f32Sub acc gs.1 else f32Add acc gs.1
    (r, f ||| gs.2)

/-- The loop of R119 over the four groups of an operation, from an accumulator. -/
def accLoop (mode : Nat) (first : Bool) (sum : Nat → W32 × Flags) (acc : W32) : W32 × Flags :=
  (List.range 4).foldl (fun (a, f) g =>
    let (r, e) := accStep mode (first && mode == 1 && g == 0) a (sum g)
    (r, f ||| e)) (acc, 0)

/-- The loop of R120: exact integer group sums, modulo 2^32; a wrap sets OVF. -/
def accLoopI (mode : Nat) (first : Bool) (sum : Nat → Int) (acc : W32) : W32 × Flags :=
  (List.range 4).foldl (fun (a, f) g =>
    let v : Int := if first && mode == 1 && g == 0 then sum g
      else if mode = 2 then a.toInt - sum g else a.toInt + sum g
    let r := BitVec.ofInt 32 v
    (r, if r.toInt = v then f else f ||| fOVF)) (acc, 0)

/-- Applies a function to the tile rows of a z register, gathering flags (R231). -/
def tileMap (rows : Nat) (z : Vector Lanes 64) (f : Nat → Nat → W32 → W32 × Flags) : Vector Lanes 64 × Flags :=
  let out := (List.range rows).map fun i => (List.range 64).map fun j =>
    f i j ((z.getD i Lanes.zero)[j]?.getD 0)
  (Vector.ofFn fun i => if i.val < rows then lanesOf ((out.getD i.val []).map (·.1)) else z[i],
    (out.flatten.map (·.2)).foldl (· ||| ·) 0)

/-! Sources (R232, R233). -/

/-- ADDR of an offset register, as a U-pad offset. -/
def State.oAddr (s : State) (j : Nat) : Nat := (s.o j).addr.toNat

/-- The U-pad footprints of source codes: those of 8 to 15, with their sizes. -/
def State.upads (s : State) (srcs : List (BitVec 4 × Nat)) : List (Nat × Nat) :=
  (srcs.filter fun c => 8 ≤ c.1.toNat).map fun c => (s.oAddr (c.1.toNat - 8), c.2)

/-- The checks of R233, in the order of R239: ALIGN, then SPANS, for each footprint, then SAMEGROUP. -/
def checkUpads (us : List (Nat × Nat)) : Res Unit :=
  match us.find? fun u => u.1 % 16 != 0 with
  | some u => trap .align 1 (BitVec.ofNat 64 (uBase + u.1))
  | none =>
    if us.any fun u => u.1 / 0x80000 != (u.1 + u.2 - 1) / 0x80000 then trap .bank 2
    else match us with
      | [u, v] => need (u.1 / 0x80000 != v.1 / 0x80000) .bank 1
      | _ => .ok ()

/-- The bytes of a U-pad footprint as accesses of the core. -/
def State.upadTouches (s : State) (off n : Nat) : List Touch :=
  (List.range n).map fun k =>
    { va := BitVec.ofNat 64 (uBase + off + k), raw := uPad s.cur (off + k), watched := false }

/-- Reads a U-pad footprint on the M port: POISON is raised, neither GRANT nor presence is consulted (R233,
spec/27 R351). A control core has no U-pad. -/
def State.readUpad (s : State) (off n : Nat) : Res (State × List Byte) := do
  need (!isControl s.cur) .page 6 (BitVec.ofNat 64 (uBase + off))
  let ts := s.upadTouches off n
  s.afterParts false ts
  let s1 := s.flushStreams
  s1.poisonCheck ts
  let s2 := s1.settle (ts.map (·.raw))
  pure (s2, ts.map fun t => s2.byte t.raw)

/-- `n` bytes of operand buffer `b`: 0-3 are ta, 4-7 are tb (R232). -/
def State.bufBytes (s : State) (b n : Nat) : List Byte := Store.getList 0 s.core.bufs (8192 * b) n

/-- The bytes that an M.A source names; `side` is 0 for A and 4 for B (spec/11 R153). -/
def State.maBytes (s : State) (side : Nat) (c : BitVec 4) (n : Nat) : Res (State × List Byte) :=
  if 8 ≤ c.toNat then s.readUpad (s.oAddr (c.toNat - 8)) n else .ok (s, s.bufBytes (c.toNat + side) n)

/-- A moment source: the means and the variances (R244). -/
def State.maPair (s : State) (side : Nat) (c : BitVec 4) : Res (State × List Byte × List Byte) :=
  if 8 ≤ c.toNat then do
    let (s1, bs) ← s.readUpad (s.oAddr (c.toNat - 8)) 16384
    pure (s1, bs.take 8192, bs.drop 8192)
  else .ok (s, s.bufBytes (c.toNat + side) 8192, s.bufBytes (c.toNat + 1 + side) 8192)

/-- The formats in force are accepted, else FMT COMBO (R240, spec/09 R120). -/
def State.combo (s : State) (fmts : List Nat) (i32 : Bool) : Res Unit :=
  need (fmts.contains s.af && fmts.contains s.bf && (i32 || !s.acc)) .fmt 2

/-- ROWS of a configured z register, else PARK NOTILE (R231). -/
def State.needRows (s : State) (z : Nat) : Res Nat := do
  need (s.rows z != 0) .park 5
  pure (s.rows z)

/-- Writes the tile rows of a z register and raises flags. -/
def State.putTile (s : State) (z : Nat) (t : Vector Lanes 64 × Flags) : State := (s.flag t.2).setZ z t.1

/-! Multiplies (R239-R244). `n` is the number of earlier repetitions of the REP bundle. -/

/-- The terms of group `g` of output (i, j): columns k of the A tile against rows k of the B tile. -/
def termsOf {α β : Type} (a : Nat → Nat → α) (b : Nat → Nat → β) (i j g : Nat) : List (α × β) :=
  (List.range 16).map fun t => (a i (16 * g + t), b (16 * g + t) j)

/-- Reads both floating tiles after the checks of R239; the A tile of mmt is stored transposed (R232). -/
def State.maTiles (s : State) (a b : BitVec 4) : Res (State × Tile × Tile) := do
  let na := footprint s.af s.pna s.out
  let nb := footprint s.bf s.pnb s.out
  checkUpads (s.upads [(a, na), (b, nb)])
  let (s1, xa) ← s.maBytes 0 a na
  let (s2, xb) ← s1.maBytes 4 b nb
  let ta ← tileOf s.af s.out xa
  let tb ← tileOf s.bf s.out xb
  pure (s2, ta, tb)

/-- mma and mmt (R241). -/
def State.mmaAt (s : State) (n : Nat) (trans : Bool) (z : BitVec 3) (a b : BitVec 4) (m : BitVec 2) : Res State := do
  s.combo [0, 1, 2, 3] false
  let rows ← s.needRows z.toNat
  let (s1, ta, tb) ← s.maTiles a b
  let ea := fun (i k : Nat) => if trans then ta.at k i else ta.at i k
  let sum := fun (i j g : Nat) => finish (groupSum (termsOf ea tb.at i j g))
  pure (s1.putTile z.toNat (tileMap rows (s1.zreg z.toNat) fun i j => accLoop m.toNat (n == 0) (sum i j)))

/-- A scale memory: 0 for SMA, 1 for SMB (R242). -/
def State.scaleMem (s : State) (m : Nat) : Array Byte := (Store.getList 0 s.core.scales (4096 * m) 4096).toArray

/-- mmas: block `g / 2` takes the scales of column col + 2n + block, and SCM replaces one side's (R242, spec/09 R113). -/
def State.mmasAt (s : State) (n : Nat) (z : BitVec 3) (a b : BitVec 4) (m : BitVec 2) (col : BitVec 6) (si : BitVec 1) :
    Res State := do
  s.combo [1, 2, 3] false
  let rows ← s.needRows z.toNat
  let (s1, ta, tb) ← s.maTiles a b
  let base := col.toNat + if si = 1 then 2 * n else 0
  let sma := s1.scaleMem 0
  let smb := s1.scaleMem 1
  let scale := fun (w : Array Byte) (g i : Nat) => (w.getD (64 * ((base + g / 2) % 64) + i) 0).toNat
  let sum := fun (i j g : Nat) =>
    scaledSum s.sov (if s.scm = 2 then 0x7F else scale sma g i) (if s.scm = 1 then 0x7F else scale smb g j)
      (groupSum (termsOf ta.at tb.at i j g))
  pure (s1.putTile z.toNat (tileMap rows (s1.zreg z.toNat) fun i j => accLoop m.toNat (n == 0) (sum i j)))

/-- mmap: only the planes that are read are touched (R232, R243). -/
def State.mmapAt (s : State) (n : Nat) (z : BitVec 3) (a b : BitVec 4) (m : BitVec 2) : Res State := do
  s.combo [4] true
  let rows ← s.needRows z.toNat
  let na := footprint 4 s.pna false
  let nb := footprint 4 s.pnb false
  checkUpads (s.upads [(a, na), (b, nb)])
  let (s1, xa) ← s.maBytes 0 a (512 * s.pma)
  let (s2, xb) ← s1.maBytes 4 b (512 * s.pmb)
  let ta := planesOf s.pna s.pma xa
  let tb := planesOf s.pnb s.pmb xb
  let sum := fun (i j g : Nat) => ((termsOf (fun r c => ta.getD (64 * r + c) 0) (fun r c => tb.getD (64 * r + c) 0) i j g).map
    fun t => t.1 * t.2).foldl (· + ·) 0
  let out := tileMap rows (s2.zreg z.toNat) fun i j =>
    if s.acc then accLoopI m.toNat (n == 0) (sum i j)
    else accLoop m.toNat (n == 0) fun g => toF32 (.fin (Dy.ofInt (sum i j g)))
  pure (s2.putTile z.toNat out)

/-- A variance element is negative: sign bit 1, neither -0 nor a NaN (R244). -/
def Fp.negative : Fp → Bool
  | .nan => false
  | .inf n => n
  | .fin d => d.neg && d.man != 0

/-- A variance element as it is used: a negative one and -0 as +0 (R244). -/
def Fp.asVar : Fp → Fp
  | .nan => .nan
  | .inf n => if n then .fin (Dy.ofNat 0) else .inf false
  | .fin d => if d.neg then .fin (Dy.ofNat 0) else .fin d

/-- The variance test over the first rows of a tile: the first negative element raises NEGVAR, or under CLAMP sets NVCLAMP
(R244, spec/19 R262). -/
def State.testTile (s : State) (opnd rows : Nat) (t : Tile) : Res State :=
  match (List.range (64 * rows)).find? fun e => (t.getD e .nan).negative with
  | some e => if s.clamps then .ok (s.flagClamp true) else trap .negvar 0 (BitVec.ofNat 64 (opnd * 2 ^ 14 + e % 64 * 2 ^ 8 + 1))
  | none => .ok s

/-- mmm: means into zd, variances into zd + 1; a deterministic B has variance 0 (R244). -/
def State.mmmAt (s : State) (n : Nat) (z : BitVec 3) (a b : BitVec 4) (m : BitVec 2) (mm : BitVec 1) : Res State := do
  s.combo [0] false
  let rows ← s.needRows z.toNat
  let _ ← s.needRows (z.toNat + 1)
  need (s.rows (z.toNat + 1) == rows) .park 5
  checkUpads (s.upads [(a, 16384), (b, if mm = 1 then 16384 else 8192)])
  let (s1, xma, xva) ← s.maPair 0 a
  let (s2, xmb, xvb) ← if mm = 1 then s1.maPair 4 b else (s1.maBytes 4 b 8192).map fun r => (r.1, r.2, [])
  let ma ← tileOf 0 false xma
  let va ← tileOf 0 false xva
  let mb ← tileOf 0 false xmb
  let vb ← tileOf 0 false xvb
  let s3 ← s2.testTile 0 rows va
  let s4 ← if mm = 1 then s3.testTile 1 64 vb else pure s3
  let ea := fun (i k : Nat) => (ma.at i k, (va.at i k).asVar)
  let eb := fun (k j : Nat) => (mb.at k j, if mm = 1 then (vb.at k j).asVar else .fin (Dy.ofNat 0))
  let means := tileMap rows (s4.zreg z.toNat) fun i j =>
    accLoop m.toNat (n == 0) fun g => finish (groupSum (termsOf ma.at mb.at i j g))
  let vars := tileMap rows (s4.zreg (z.toNat + 1)) fun i j =>
    accLoop (if m.toNat = 2 then 0 else m.toNat) (n == 0) fun g => finish (varianceSum (termsOf ea eb i j g))
  pure ((s4.putTile z.toNat means).putTile (z.toNat + 1) vars)

/-- What follows repetition `n`: the offset registers that MASK and pi select advance once each, and the repetitions that are
left are noted (spec/11 R140, R241). -/
def State.repeated (s : State) (n : Nat) (p : BitVec 1) (a b : BitVec 4) : State :=
  let (count, mask) := s.repHeader.getD (1, 0)
  let s1 := (advancing mask p a b).foldl State.advance s
  { s1 with core := { s1.core with rep := if n + 1 < count then some { left := count - (n + 1), done := n + 1 } else none } }

/-- Repetition `n` of an M.A operation. -/
def State.runMA (s : State) (n : Nat) (i : Instr) : Res State :=
  match i with
  | .mma z a b m p => do pure ((← s.mmaAt n false z a b m).repeated n p a b)
  | .mmt z a b m p => do pure ((← s.mmaAt n true z a b m).repeated n p a b)
  | .mmas z a b m p c si => do pure ((← s.mmasAt n z a b m c si).repeated n p a b)
  | .mmap z a b m p => do pure ((← s.mmapAt n z a b m).repeated n p a b)
  | .mmm z a b m p f => do pure ((← s.mmmAt n z a b m f).repeated n p a b)
  | _ => .ok s

/-- MMA (R241). -/
def execMma (z : BitVec 3) (a b : BitVec 4) (m : BitVec 2) (p : BitVec 1) (s : State) :
    Host.Outcome State Fault Refusal :=
  slot (.mma z a b m p) (fun t => t.runMA 0 (.mma z a b m p)) s

/-- MMAS (R242). -/
def execMmas (z : BitVec 3) (a b : BitVec 4) (m : BitVec 2) (p : BitVec 1) (c : BitVec 6) (f : BitVec 1) (s : State) :
    Host.Outcome State Fault Refusal :=
  slot (.mmas z a b m p c f) (fun t => t.runMA 0 (.mmas z a b m p c f)) s

/-- MMAP (R243). -/
def execMmap (z : BitVec 3) (a b : BitVec 4) (m : BitVec 2) (p : BitVec 1) (s : State) :
    Host.Outcome State Fault Refusal :=
  slot (.mmap z a b m p) (fun t => t.runMA 0 (.mmap z a b m p)) s

/-- MMT (R241). -/
def execMmt (z : BitVec 3) (a b : BitVec 4) (m : BitVec 2) (p : BitVec 1) (s : State) :
    Host.Outcome State Fault Refusal :=
  slot (.mmt z a b m p) (fun t => t.runMA 0 (.mmt z a b m p)) s

/-- MMM (R244). -/
def execMmm (z : BitVec 3) (a b : BitVec 4) (m : BitVec 2) (p f : BitVec 1) (s : State) :
    Host.Outcome State Fault Refusal :=
  slot (.mmm z a b m p f) (fun t => t.runMA 0 (.mmm z a b m p f)) s

/-- The instruction of the slot that the latched bundle repeats. -/
def State.repeating (s : State) : Instr :=
  match s.core.bundle with | some b => slotOf b.word b.slotNo | none => .nop

/-- REPETITION: the next repetition of the bundle's M.A slot; with none left it has no effect (spec/11 R140). -/
def execRepetition (s : State) : Host.Outcome State Fault Refusal :=
  slot s.repeating (fun t =>
    match t.core.rep with
    | some r => t.runMA r.done t.repeating
    | none => .ok t) s

/-! Configuring and whole tiles (R245-R250). -/

/-- The z registers that a MASK selects. -/
def selected (m : BitVec 8) : List Nat := (List.range 8).filter m.getLsbD

/-- Parked rows among the first `n` rows of the selected registers. -/
def State.parkedIn (s : State) (zs : List Nat) (n : Nat) : List Nat :=
  s.core.parked.filter fun r => zs.contains (r / 64) && decide (r % 64 < n)

/-- Those parked values are lost, and their pending frees cancelled. -/
def State.unpark (s : State) (rows : List Nat) : State :=
  { s with core := { s.core with
      parked := s.core.parked.filter fun r => !rows.contains r
      take := { s.core.take with frees := s.core.take.frees.filter fun r => !rows.contains r } } }

/-- The first `n` rows of z register `z` read +0. -/
def State.zeroRows (s : State) (n z : Nat) : State :=
  s.setZ z (Vector.ofFn fun i => if i.val < n then Lanes.zero else (s.zreg z)[i])

/-- Sets ROWS of a z register. -/
def State.setRows (s : State) (n z : Nat) : State :=
  { s with core := { s.core with rows := s.core.rows.setIfInBounds z n } }

/-- TCFG (R245). -/
def execTcfg (m : BitVec 8) (r : BitVec 7) (f : BitVec 1) (s : State) : Host.Outcome State Fault Refusal :=
  slot (.tcfg m r f) (fun t =>
    let zs := selected m
    let hit := t.parkedIn zs r.toNat
    if f = 0 ∧ !hit.isEmpty then trap .park 4
    else .ok (zs.foldl (fun u z => (u.zeroRows r.toNat z).setRows r.toNat z) (t.unpark hit))) s

/-- TFREE (R246). -/
def execTfree (m : BitVec 8) (f : BitVec 1) (s : State) : Host.Outcome State Fault Refusal :=
  slot (.tfree m f) (fun t =>
    let hit := t.parkedIn (selected m) 64
    if f = 0 ∧ !hit.isEmpty then trap .park 4
    else
      let zs := (selected m).filter fun z => t.rows z != 0 || hit.any fun r => r / 64 == z
      .ok (zs.foldl (fun u z => (u.zeroRows 64 z).setRows 0 z) (t.unpark hit))) s

/-- TZERO (R247). -/
def execTzero (m : BitVec 8) (s : State) : Host.Outcome State Fault Refusal :=
  slot (.tzero m) (fun t =>
    if (selected m).any fun z => t.rows z == 0 then trap .park 5
    else .ok ((selected m).foldl (fun u z => u.zeroRows (t.rows z) z) t)) s

/-- Element (i, j) of a pattern is 1 (R248). -/
def patternAt (p i j : Nat) : Bool :=
  match p with | 0 => j == i | 1 => j ≤ i | 2 => i ≤ j | _ => j == 63 - i

/-- The bytes of a pattern tile in a format (R248). -/
def patternBytes (fmt planes p : Nat) : List Byte :=
  let e := fun (i j one : Nat) => if patternAt p i j then one else 0
  let grid := fun (n one : Nat) => (List.range 4096).flatMap fun k => leBytes n (e (k / 64) (k % 64) one)
  match fmt with
  | 0 => grid 2 0x3F80
  | 1 => grid 1 0x38
  | 2 => grid 1 0x3C
  | 3 => ((List.range 2048).map fun k =>
      BitVec.ofNat 8 (e (k / 32) (2 * k % 64) 2 + 16 * e (k / 32) (2 * k % 64 + 1) 2)) ++ List.replicate 144 0
  | _ => List.replicate (512 * (planes - 1)) 0 ++ (List.range 512).map fun k =>
      BitVec.ofNat 8 ((List.range 8).foldl (fun a c => a + e (k / 8) (8 * (k % 8) + c) (2 ^ c)) 0)

/-- TGEN (R248). -/
def execTgen (t : BitVec 4) (p : BitVec 2) (s : State) : Host.Outcome State Fault Refusal :=
  slot (.tgen t p) (fun u =>
    if 8 ≤ t.toNat then do
      let rows ← u.needRows (t.toNat - 8)
      let one := fun (i j : Nat) (_ : W32) => ((if patternAt p.toNat i j then 0x3F800000#32 else 0#32), (0 : Flags))
      pure (u.setZ (t.toNat - 8) (tileMap rows (u.zreg (t.toNat - 8)) one).1)
    else
      let bs := if t.toNat < 4 then patternBytes u.af u.pna p.toNat else patternBytes u.bf u.pnb p.toNat
      .ok { u with core := { u.core with bufs := Store.setList 0 u.core.bufs (8192 * t.toNat) bs } }) s

/-- TADD: the sum, or with N the difference, of two tiles (R249). -/
def execTadd (d z : BitVec 3) (n : BitVec 1) (s : State) : Host.Outcome State Fault Refusal :=
  slot (.tadd d z n) (fun t => do
    t.combo [0, 1, 2, 3, 4] false
    let rows ← t.needRows d.toNat
    need (rows ≤ t.rows z.toNat) .park 5
    let src := t.zreg z.toNat
    pure (t.putTile d.toNat (tileMap rows (t.zreg d.toNat) fun i j v =>
      let w := (src.getD i Lanes.zero)[j]?.getD 0
      if n = 1 then f32Sub v w else f32Add v w))) s

/-- TSCL (R249). -/
def execTscl (z : BitVec 3) (x : BitVec 5) (s : State) : Host.Outcome State Fault Refusal :=
  slot (.tscl z x) (fun t => do
    t.combo [0, 1, 2, 3, 4] false
    let rows ← t.needRows z.toNat
    pure (t.putTile z.toNat (tileMap rows (t.zreg z.toNat) fun _ _ v => f32Mul v ((t.x x).setWidth 32)))) s

/-- The bytes of a row of a target format, and the format; f32 is copied (R250). -/
def tcvtTarget (t : BitVec 3) : Nat × Option Format :=
  match t.toNat with
  | 0 => (128, some bf16) | 1 => (64, some e4m3) | 2 => (64, some e5m2) | 3 => (32, some e2m1) | _ => (256, none)

/-- The bytes of a row of codes. -/
def rowBytes (t : BitVec 3) (cs : List Nat) : List Byte :=
  match t.toNat with
  | 0 => cs.flatMap (leBytes 2)
  | 3 => (chunks 2 32 cs).map fun p => BitVec.ofNat 8 (p.headD 0 + 16 * p.getD 1 0)
  | 4 => cs.flatMap (leBytes 4)
  | _ => cs.flatMap (leBytes 1)

/-- TCVT: tile rows converted into the U-pad (R250). -/
def execTcvt (z o t : BitVec 3) (p : BitVec 1) (r : BitVec 3) (s : State) : Host.Outcome State Fault Refusal :=
  slot (.tcvt z o t p r) (fun u => do
    u.combo [0, 1, 2, 3, 4] false
    let rows ← u.needRows z.toNat
    need (u.rm != 4 || rows ≤ u.rows r.toNat) .park 5
    let (n, fm) := tcvtTarget t
    let off := u.oAddr o.toNat
    checkUpads [(off, rows * n)]
    need (!isControl u.cur) .page 6 (BitVec.ofNat 64 (uBase + off))
    u.afterParts true (u.upadTouches off (rows * n))
    let one := fun (i j : Nat) (v : W32) => match fm with
      | none => (v.toNat, (0 : Flags))
      | some f =>
        let rnd := if u.rm = 4 then ((u.zrow r.toNat i)[j]?.getD 0).toNat % 65536 else 0
        f.convert u.saturates (Rm.ofCode u.rm) rnd (ofF32 v)
    let out := (List.range rows).map fun i => (List.range 64).map fun j => one i j ((u.zrow z.toNat i)[j]?.getD 0)
    let bs := out.flatMap fun row => rowBytes t (row.map (·.1))
    let u1 := u.flag ((out.flatten.map (·.2)).foldl (· ||| ·) 0)
    let u2 := u1.flushStreams.writeCore (runOf (uPad u.cur off) bs)
    pure (if p = 1 then u2.advance o.toNat else u2)) s

/-! Rows and offset registers (R237, R238, R251). -/

/-- TRD (R251). -/
def execTrd (z : BitVec 3) (d r : BitVec 6) (s : State) : Host.Outcome State Fault Refusal :=
  slot (.trd z d r) (fun t => do
    need (r.toNat < t.rows z.toNat) .park 5
    t.dst d allLanes (t.zrow z.toNat r.toNat)) s

/-- TWR (R251). -/
def execTwr (z : BitVec 3) (a r : BitVec 6) (s : State) : Host.Outcome State Fault Refusal :=
  slot (.twr z a r) (fun t => do
    need (r.toNat < t.rows z.toNat) .park 5
    let (u, e) ← t.src a
    pure (u.setZrow z.toNat r.toNat e)) s

/-- OFS (R237). -/
def execOfs (o : BitVec 3) (a b : BitVec 5) (s : State) : Host.Outcome State Fault Refusal :=
  slot (.ofs o a b) (fun t => .ok (t.setO o.toNat { addr := (t.x a).setWidth 21, stride := t.x b })) s

/-- OFSR (R238). -/
def execOfsr (o : BitVec 3) (d : BitVec 5) (q : BitVec 1) (s : State) : Host.Outcome State Fault Refusal :=
  slot (.ofsr o d q) (fun t =>
    let r := t.o o.toNat
    .ok (t.setX d (if q = 1 then r.stride else BitVec.ofNat 64 (uBase + r.addr.toNat)))) s

end Sys2Proof.Machine
end

