-- ==== Sys2Proof/Machine/Moment.lean ====
section
/-! DEFINITION. The moment instructions: spec/19. Each lane carries a mean and a variance. -/

namespace Sys2Proof.Machine

/-! Operands and tests. -/

/-- An X operand: means, variances, and whether it is an m register; a v register is deterministic (R254). -/
structure XOp where
  mean : Lanes
  var  : Lanes
  mom  : Bool

/-- The operand of a code (R254). -/
def State.xop (s : State) (c : BitVec 6) : XOp :=
  if c.toNat < 32 then { mean := s.v c.toNat, var := Lanes.zero, mom := false }
  else let m := s.m (c.toNat - 32); { mean := m.mean, var := m.var, mom := true }

/-- Detail word 0 of NEGVAR (R262). -/
def negWord (opnd lane kind : Nat) : W64 := BitVec.ofNat 64 (opnd * 2 ^ 14 + lane * 2 ^ 8 + kind)

/-- A negative variance: sign bit 1, neither -0 nor a NaN (R260). -/
def isNegative (v : W32) : Bool := v.msb && v != 0x80000000#32 && !isNaN v

/-- What a tested variance becomes: with sign bit 1, -0 and a negative value read as +0 and a NaN as the canonical NaN; with
sign bit 0 it stays as it is (R260, R261). -/
def testedVar (v : W32) : W32 := if v.msb then (if isNaN v then f32NaN else 0) else v

/-- A variance test over the active lanes: the lowest negative lane raises NEGVAR, or under CLAMP sets NVCLAMP
(R260, R261). -/
def State.testVar (s : State) (opnd kind : Nat) (mask : W64) (v : Lanes) : Res (State × Lanes) :=
  match (lanesIn mask).find? fun i => isNegative (v[i]?.getD 0) with
  | some i =>
    if s.clamps then .ok (s.flagClamp true, Vector.ofFn fun k => testedVar v[k])
    else trap .negvar 0 (negWord opnd i kind)
  | none => .ok (s, Vector.ofFn fun k => testedVar v[k])

/-- The input test of an operand; a deterministic one has no variance to test (R260). -/
def State.testIn (s : State) (opnd : Nat) (mask : W64) (o : XOp) : Res (State × XOp) :=
  if o.mom then do
    let (t, v) ← s.testVar opnd 1 mask o.var
    pure (t, { o with var := v })
  else .ok (s, o)

/-- A correlation outside -1 to +1, or a NaN (R258). -/
def badRho (r : W32) : Bool := 0x3F800000 < r.toNat % 2 ^ 31

/-- The correlation test over the active lanes (R258, R259). -/
def rhoTest (opnd : Nat) (mask : W64) (r : Lanes) : Res Unit :=
  match (lanesIn mask).find? fun i => badRho (r[i]?.getD 0) with
  | some i => trap .negvar 0 (negWord opnd i 3)
  | none => .ok ()

/-- The correlation of each lane; a zero lane forms no term (R258). -/
def State.rho (s : State) (co : BitVec 1) (mask : W64) (a b : XOp) : Res Lanes :=
  if co = 1 || !(a.mom && b.mom) then .ok Lanes.zero
  else if s.ca = 0 then .ok Lanes.zero
  else if s.ca = 1 then .ok (Vector.replicate 64 0x3F800000#32)
  else if s.ca = 2 then .ok (Vector.replicate 64 0xBF800000#32)
  else do
    rhoTest 3 mask (s.v 31)
    pure (s.v 31)

/-- Writes the active lanes of an m register (R255). -/
def State.dstM (s : State) (d : BitVec 6) (mask : W64) (mean var : Lanes) : State :=
  let n := d.toNat - 32
  s.setM n { mean := merge mask mean (s.m n).mean, var := merge mask var (s.m n).var }

/-! One lane. Each rounding sets the flags of R110 (R255). -/

/-- A computation over f32 that gathers flags. -/
abbrev Calc := StateM Flags

/-- A step of one operand. -/
def step1 (f : LaneOp1) (a : W32) : Calc W32 := fun e => let r := f a; (r.1, e ||| r.2)
/-- A step of two operands. -/
def step2 (f : LaneOp2) (a b : W32) : Calc W32 := fun e => let r := f a b; (r.1, e ||| r.2)
/-- A step of three operands. -/
def step3 (f : LaneOp3) (a b c : W32) : Calc W32 := fun e => let r := f a b c; (r.1, e ||| r.2)

/-- round(a + b). -/
def cAdd : W32 → W32 → Calc W32 := step2 f32Add
/-- round(a - b). -/
def cSub : W32 → W32 → Calc W32 := step2 f32Sub
/-- round(a * b). -/
def cMul : W32 → W32 → Calc W32 := step2 f32Mul
/-- round(a * b + c), one rounding. -/
def cFma : W32 → W32 → W32 → Calc W32 := step3 f32Fma
/-- sqrt of R270. -/
def cSqrt : W32 → Calc W32 := step1 f32Sqrt

/-- 1.0. -/
def one32 : W32 := 0x3F800000
/-- 2.0. -/
def two32 : W32 := 0x40000000
/-- 4.0. -/
def four32 : W32 := 0x40800000
/-- 0.5. -/
def half32 : W32 := 0x3F000000
/-- C8 = f32(8 / pi) (R270). -/
def c8 : W32 := 0x4022F983
/-- G8 = f32(sqrt(8 / pi)) (R270). -/
def g8 : W32 := 0x3FCC422A
/-- LE = f32(log2 e) (R270). -/
def le32 : W32 := 0x3FB8AA3B

/-- A zero of either sign: no correlation term (R258). -/
def noTerm (r : W32) : Bool := r.toNat % 2 ^ 31 == 0

/-- A lane: its mean and its variance. -/
abbrev Pair32 := W32 × W32

/-- madd and msub; `neg` is msub (R265). -/
def addLane (neg am bm : Bool) (a b : Pair32) (rho : W32) : Calc Pair32 := do
  let mu ← (if neg then cSub else cAdd) a.1 b.1
  if !bm then pure (mu, a.2)
  else if !am then pure (mu, b.2)
  else
    let u ← cAdd a.2 b.2
    if noTerm rho then pure (mu, u)
    else
      let sa ← cSqrt a.2
      let sb ← cSqrt b.2
      let w ← cMul two32 sa
      let p ← cMul (if neg then f32Neg rho else rho) w
      let v ← cFma p sb u
      pure (mu, v)

/-- mscl (R268). -/
def sclLane (a : Pair32) (b : W32) : Calc Pair32 := do
  let mu ← cMul a.1 b
  let q ← cMul b b
  let v ← cMul q a.2
  pure (mu, v)

/-- mmul before its result test (R266). With two v operands, as mfma allows, `b` scales `a` (R267 names no case; log 100). -/
def mulLane (am bm : Bool) (a b : Pair32) (rho : W32) : Calc Pair32 := do
  if !bm then sclLane a b.1
  else if !am then sclLane b a.1
  else
    let cv ← if noTerm rho then pure (0 : W32)
      else do
        let sa ← cSqrt a.2
        let r ← cMul rho sa
        let sb ← cSqrt b.2
        cMul r sb
    let mu ← cFma a.1 b.1 cv
    let q1 ← cMul a.1 a.1
    let q2 ← cMul b.1 b.1
    let v1 ← cMul q1 b.2
    let v2 ← cFma q2 a.2 v1
    let v3 ← cFma a.2 b.2 v2
    if noTerm rho then pure (mu, v3)
    else
      let v4 ← cFma cv cv v3
      let m ← cMul a.1 b.1
      let m2 ← cMul two32 m
      let v5 ← cFma m2 cv v4
      pure (mu, v5)

/-- mfma: mmul's pair, and d added without correlation (R267). -/
def fmaLane (am bm : Bool) (a b d : Pair32) (rho : W32) : Calc Pair32 := do
  let t ← mulLane am bm a b rho
  let mu ← cAdd t.1 d.1
  let v ← cAdd t.2 d.2
  pure (mu, v)

/-- msq (R269). -/
def sqLane (a : Pair32) : Calc Pair32 := do
  let mu ← cFma a.1 a.1 a.2
  let q ← cMul a.1 a.1
  let q4 ← cMul four32 q
  let v ← cMul q4 a.2
  let w ← cMul two32 a.2
  let r ← cFma w a.2 v
  pure (mu, r)

/-- mrelu (R271). -/
def reluLane (a : Pair32) : Calc Pair32 := do
  if a.2 = 0 then pure (f32Max a.1 0, 0)
  else
    let s ← cSqrt a.2
    let r ← step1 f32Rcp s
    let alpha ← cMul a.1 r
    let p ← step1 f32Ncdf alpha
    let d ← step1 f32Npdf alpha
    let mp ← cMul a.1 p
    let mu ← cFma s d mp
    let e0 ← cFma a.1 a.1 a.2
    let e1 ← cMul e0 p
    let ms ← cMul a.1 s
    let e2 ← cFma ms d e1
    let v ← cFma (f32Neg mu) mu e2
    pure (mu, f32Max v 0)

/-- msig (R272). -/
def sigLane (a : Pair32) : Calc Pair32 := do
  let w ← if a.2 = 0 then pure c8 else cAdd c8 a.2
  let q ← cSqrt w
  let r ← step1 f32Rcp q
  let z ← cMul a.1 r
  let mu ← step1 f32Ncdf z
  if a.2 = 0 then pure (mu, 0)
  else
    let f ← cFma (f32Neg g8) r one32
    let n ← cSub one32 mu
    let m ← cMul mu n
    let v ← cMul m f
    pure (mu, f32Max v 0)

/-- mtanh: the steps of msig on (2 mean, 4 variance) (R273). -/
def tanhLane (a : Pair32) : Calc Pair32 := do
  let m2 ← cMul two32 a.1
  let v4 ← cMul four32 a.2
  let t ← sigLane (m2, v4)
  let mu ← cFma two32 t.1 (f32Neg one32)
  let v ← cMul four32 t.2
  pure (mu, v)

/-- mexp (R274). -/
def expLane (a : Pair32) : Calc Pair32 := do
  let h ← cMul half32 a.2
  let t ← cAdd a.1 h
  let u ← cMul t le32
  let mu ← step1 f32Exp2 u
  if a.2 = 0 then pure (mu, 0)
  else
    let y ← cMul a.2 le32
    let e ← step1 f32Exp2 y
    let e1 ← cSub e one32
    let m2 ← cMul mu mu
    let v ← cMul e1 m2
    pure (mu, f32Max v 0)

/-! Whole slots. -/

/-- The pair of lane `i` of an operand. -/
def XOp.lane (o : XOp) (i : Nat) : Pair32 := (o.mean[i]?.getD 0, o.var[i]?.getD 0)

/-- Computes the active lanes into an m register: flags, then the result test, then the write (R255, R261, R262). -/
def State.finishM (s : State) (d : BitVec 6) (mask : W64) (f : Nat → Calc Pair32) : Res State := do
  let out := fun (i : Nat) => (f i).run 0
  let s1 := s.flag (flagsOf mask fun i => (out i).2)
  let act := fun (i : Nat) => if mask.getLsbD i then (out i).1 else (0, 0)
  let (s2, v) ← s1.testVar 2 2 mask (Vector.ofFn fun i => (act i.val).2)
  pure (s2.dstM d mask (Vector.ofFn fun i => (act i.val).1) v)

/-- A moment slot of one m operand. -/
def mom1 (f : Pair32 → Calc Pair32) (d a : BitVec 6) (g : BitVec 3) (s : State) : Res State := do
  let (s1, x) ← s.testIn 0 (s.p g) (s.xop a)
  s1.finishM d (s.p g) fun i => f (x.lane i)

/-- A moment slot of two operands, with a correlation (R258, R262). -/
def mom2 (f : Bool → Bool → Pair32 → Pair32 → W32 → Calc Pair32) (d a b : BitVec 6) (g : BitVec 3) (co : BitVec 1)
    (s : State) : Res State := do
  let (s1, x) ← s.testIn 0 (s.p g) (s.xop a)
  let (s2, y) ← s1.testIn 1 (s.p g) (s.xop b)
  let r ← s2.rho co (s.p g) x y
  s2.finishM d (s.p g) fun i => f x.mom y.mom (x.lane i) (y.lane i) (r[i]?.getD 0)

/-- A collapse into a v register: the multiplier of the deviation by lane (R276). Its m operand takes the input test of R260, for
mcol.smp too, so that what it does depends on MOM.NV, which spec/09 R399 does not list (log 99). -/
def collapse (k : State → Nat → W32) (d a : BitVec 6) (g : BitVec 3) (s : State) : Res State := do
  let (s1, x) ← s.testIn 0 (s.p g) (s.xop a)
  let out := fun (i : Nat) => (do
    let q ← cSqrt (x.lane i).2
    cFma (k s i) q (x.lane i).1 : Calc W32).run 0
  let mask := s.p g
  (s1.flag (flagsOf mask fun i => (out i).2)).dst d mask
    (Vector.ofFn fun i => if mask.getLsbD i.val then (out i.val).1 else 0)

/-- The effective address of mld and mst (R263). -/
def State.eaM (s : State) (a : BitVec 5) (i : BitVec 7) : W64 := s.x a + (i.signExtend 64 <<< 8)

/-- A load of moments: `n` bytes a lane, each half widened by `f` (R263). -/
def loadMoments (n : Nat) (f : Nat → W32) (d : BitVec 6) (a : BitVec 5) (i : BitVec 7) (g : BitVec 3) (s : State) :
    Res State := do
  let ea := s.eaM a i
  let m := s.p g
  let (s1, bs) ← s.load (vecRanges n ea m) (vecMisaligned n ea m)
  let vs := (lanesIn m).zip (chunks n (lanesIn m).length bs)
  let half := fun (k : Nat) (hi : Bool) => match vs.find? (·.1 == k) with
    | some p => f (leNat (if hi then p.2.drop (n / 2) else p.2.take (n / 2)))
    | none => 0
  let (s2, v) ← s1.testVar 3 1 m (Vector.ofFn fun k => half k.val true)
  pure (s2.dstM d m (Vector.ofFn fun k => half k.val false) v)

/-- A store of moments: each half narrowed by `f`, `n` bytes a lane; the input test of the stored register comes before the checks
of the addresses (R263; log 101). -/
def storeMoments (n : Nat) (f : W32 → Nat × Flags) (x : BitVec 6) (a : BitVec 5) (i : BitVec 7) (g : BitVec 3)
    (s : State) : Res State := do
  let ea := s.eaM a i
  let m := s.p g
  let (s1, o) ← s.testIn 2 m (s.xop x)
  let half := fun (k : Nat) => (f (o.lane k).1, f (o.lane k).2)
  let bs := (lanesIn m).flatMap fun k => leBytes (n / 2) (half k).1.1 ++ leBytes (n / 2) (half k).2.1
  (s1.flag (flagsOf m fun k => (half k).1.2 ||| (half k).2.2)).store (vecRanges n ea m) (vecMisaligned n ea m) bs

/-! Meanings. -/

/-- MLD_M32 (R263). -/
def execMldM32 (d : BitVec 6) (a : BitVec 5) (i : BitVec 7) (g : BitVec 3) (s : State) :
    Host.Outcome State Fault Refusal :=
  slot (.mldM32 d a i g) (loadMoments 8 (BitVec.ofNat 32) d a i g) s

/-- MLD_MB16: both halves widened exactly (R263). -/
def execMldMb16 (d : BitVec 6) (a : BitVec 5) (i : BitVec 7) (g : BitVec 3) (s : State) :
    Host.Outcome State Fault Refusal :=
  slot (.mldMb16 d a i g) (loadMoments 4 (widen bf16) d a i g) s

/-- MST_M32 (R263). -/
def execMstM32 (x : BitVec 6) (a : BitVec 5) (i : BitVec 7) (g : BitVec 3) (s : State) :
    Host.Outcome State Fault Refusal :=
  slot (.mstM32 x a i g) (storeMoments 8 (fun v => (v.toNat, 0)) x a i g) s

/-- MST_MB16: both halves narrowed by RNE under FMT.SAT (R263). -/
def execMstMb16 (x : BitVec 6) (a : BitVec 5) (i : BitVec 7) (g : BitVec 3) (s : State) :
    Host.Outcome State Fault Refusal :=
  slot (.mstMb16 x a i g) (fun t => storeMoments 4 (fun v => bf16.convert t.saturates .rne 0 (ofF32 v)) x a i g t) s

/-- MSET (R264). -/
def execMset (d a b : BitVec 6) (g : BitVec 3) (s : State) : Host.Outcome State Fault Refusal :=
  slot (.mset d a b g) (fun t => do
    let (u, v) ← t.testVar 1 1 (t.p g) (t.v b.toNat)
    pure (u.dstM d (t.p g) (t.v a.toNat) v)) s

/-- MGET: both halves, bits unchanged (R264). -/
def execMget (d a b : BitVec 6) (g : BitVec 3) (s : State) : Host.Outcome State Fault Refusal :=
  slot (.mget d a b g) (fun t => do
    let o := t.xop a
    let u ← t.dst d (t.p g) o.mean
    u.dst b (t.p g) o.var) s

/-- MCORR (R259). -/
def execMcorr (a : BitVec 6) (g : BitVec 3) (s : State) : Host.Outcome State Fault Refusal :=
  slot (.mcorr a g) (fun t => do
    rhoTest 0 (t.p g) (t.v a.toNat)
    t.dst 31 (t.p g) (t.v a.toNat)) s

/-- MCLIP: the floor test first, then the input test, then the maximum (R275). -/
def execMclip (d a : BitVec 6) (x : BitVec 5) (g : BitVec 3) (s : State) : Host.Outcome State Fault Refusal :=
  slot (.mclip d a x g) (fun t => do
    let f : W32 := (t.x x).setWidth 32
    need (f.toNat % 2 ^ 31 < 0x7F800000 && !isNegative f) .negvar 0 (negWord 3 0 4)
    let floor : W32 := if f.msb then 0 else f
    mom1 (fun p => pure (p.1, f32Max p.2 floor)) d a g t) s

/-- MADD (R265). -/
def execMadd (d a b : BitVec 6) (g : BitVec 3) (c : BitVec 1) (s : State) : Host.Outcome State Fault Refusal :=
  slot (.madd d a b g c) (mom2 (addLane false) d a b g c) s

/-- MSUB (R265). -/
def execMsub (d a b : BitVec 6) (g : BitVec 3) (c : BitVec 1) (s : State) : Host.Outcome State Fault Refusal :=
  slot (.msub d a b g c) (mom2 (addLane true) d a b g c) s

/-- MMUL (R266). -/
def execMmul (d a b : BitVec 6) (g : BitVec 3) (c : BitVec 1) (s : State) : Host.Outcome State Fault Refusal :=
  slot (.mmul d a b g c) (mom2 mulLane d a b g c) s

/-- MFMA: d is a source, tested after a and b (R267). -/
def execMfma (d a b : BitVec 6) (g : BitVec 3) (c : BitVec 1) (s : State) : Host.Outcome State Fault Refusal :=
  slot (.mfma d a b g c) (fun t => do
    let m := t.p g
    let (t1, x) ← t.testIn 0 m (t.xop a)
    let (t2, y) ← t1.testIn 1 m (t.xop b)
    let (t3, z) ← t2.testIn 2 m (t.xop d)
    let r ← t3.rho c m x y
    t3.finishM d m fun i => fmaLane x.mom y.mom (x.lane i) (y.lane i) (z.lane i) (r[i]?.getD 0)) s

/-- MSCL (R268). -/
def execMscl (d a b : BitVec 6) (g : BitVec 3) (s : State) : Host.Outcome State Fault Refusal :=
  slot (.mscl d a b g) (fun t => do
    let (t1, x) ← t.testIn 0 (t.p g) (t.xop a)
    t1.finishM d (t.p g) fun i => sclLane (x.lane i) ((t.v b.toNat)[i]?.getD 0)) s

/-- MSQ (R269). -/
def execMsq (d a : BitVec 6) (g : BitVec 3) (s : State) : Host.Outcome State Fault Refusal :=
  slot (.msq d a g) (mom1 sqLane d a g) s

/-- MRELU (R271). -/
def execMrelu (d a : BitVec 6) (g : BitVec 3) (s : State) : Host.Outcome State Fault Refusal :=
  slot (.mrelu d a g) (mom1 reluLane d a g) s

/-- MSIG (R272). -/
def execMsig (d a : BitVec 6) (g : BitVec 3) (s : State) : Host.Outcome State Fault Refusal :=
  slot (.msig d a g) (mom1 sigLane d a g) s

/-- MEXP (R274). -/
def execMexp (d a : BitVec 6) (g : BitVec 3) (s : State) : Host.Outcome State Fault Refusal :=
  slot (.mexp d a g) (mom1 expLane d a g) s

/-- MTANH (R273). -/
def execMtanh (d a : BitVec 6) (g : BitVec 3) (s : State) : Host.Outcome State Fault Refusal :=
  slot (.mtanh d a g) (mom1 tanhLane d a g) s

/-- MCOL_MEAN: bits unchanged (R276). -/
def execMcolMean (d a : BitVec 6) (g : BitVec 3) (s : State) : Host.Outcome State Fault Refusal :=
  slot (.mcolMean d a g) (fun t => t.dst d (t.p g) (t.xop a).mean) s

/-- MCOL_HI (R276). -/
def execMcolHi (d a : BitVec 6) (g : BitVec 3) (s : State) : Host.Outcome State Fault Refusal :=
  slot (.mcolHi d a g) (collapse (fun t _ => t.k) d a g) s

/-- MCOL_LO (R276). -/
def execMcolLo (d a : BitVec 6) (g : BitVec 3) (s : State) : Host.Outcome State Fault Refusal :=
  slot (.mcolLo d a g) (collapse (fun t _ => f32Neg t.k) d a g) s

/-- MCOL_SMP: b holds standard-normal draws (R276). -/
def execMcolSmp (d a b : BitVec 6) (g : BitVec 3) (s : State) : Host.Outcome State Fault Refusal :=
  slot (.mcolSmp d a b g) (collapse (fun t i => (t.v b.toNat)[i]?.getD 0) d a g) s

end Sys2Proof.Machine
end

