-- ==== Sys2Proof/Machine/Vector.lean ====
section
/-! DEFINITION. Vector arithmetic, comparison, scans and reductions, moving lanes and conversions: spec/15 R197-R211. -/

namespace Sys2Proof.Machine

/-! Lane operations. -/

/-- The condition `c` of vcmp over f32 (R202). -/
def holdsF (c : Nat) (a b : W32) : Bool :=
  match c with
  | 0 => f32Eq a b
  | 1 => !f32Eq a b
  | 2 => f32Lt a b
  | 3 => f32Lt a b || f32Eq a b
  | 4 => f32Lt b a
  | 5 => f32Lt b a || f32Eq a b
  | 6 => !(isNaN a || isNaN b)
  | _ => isNaN a || isNaN b

/-- The condition `c` of vcmp over integers, given the strict order (R202). -/
def holdsI (lt : W32 → W32 → Bool) (c : Nat) (a b : W32) : Bool :=
  match c with
  | 0 => a == b
  | 1 => a != b
  | 2 => lt a b
  | 3 => !lt b a
  | 4 => lt b a
  | _ => !lt a b

/-- vcmp: the active lanes of p register `n` receive the result (R202). -/
def vcmpBy (f : W32 → W32 → Bool) (n : BitVec 3) (a b : BitVec 6) (g : BitVec 3) (h : BitVec 1) (s : State) :
    Res State := do
  let (s1, x) ← s.srcA a h
  let (s2, y) ← s1.src b
  pure (s2.dstP n (s.p g) (maskOf fun i => f (x[i]?.getD 0) (y[i]?.getD 0)))

/-- The lanes with an identity in the inactive ones. -/
def masked (mask : W64) (id : W32) (x : Lanes) : List W32 :=
  (List.range 64).map fun i => if mask.getLsbD i then x[i]?.getD 0 else id

/-- One level of the tree of R121: neighbours combined, flags gathered. -/
def pairUp (f : LaneOp2) : List W32 → List W32 × Flags
  | a :: b :: l =>
    let r := f a b
    let t := pairUp f l
    (r.1 :: t.1, r.2 ||| t.2)
  | l => (l, 0)

/-- The tree of R121 over 2^k lanes. -/
def treeOf (f : LaneOp2) : Nat → List W32 → W32 × Flags
  | 0, l => (l.headD 0, 0)
  | k + 1, l =>
    let (m, e) := pairUp f l
    let (r, e') := treeOf f k m
    (r, e ||| e')

/-- One doubling step of R122, at distance `d`. -/
def doubled (d : Nat) (f : LaneOp2) (l : List W32) : List W32 × Flags :=
  let rs := (List.range l.length).map fun i => if d ≤ i then f (l.getD (i - d) 0) (l.getD i 0) else (l.getD i 0, 0)
  (rs.map (·.1), (rs.map (·.2)).foldl (· ||| ·) 0)

/-- The prefix by doubling (R122). -/
def prefixOf (f : LaneOp2) (l : List W32) : List W32 × Flags :=
  [1, 2, 4, 8, 16, 32].foldl (fun (a, e) d => let (b, e') := doubled d f a; (b, e ||| e')) (l, 0)

/-- vpfx (R204). -/
def vpfxBy (f : LaneOp2) (id : W32) (d a : BitVec 6) (g : BitVec 3) (h : BitVec 1) (s : State) : Res State := do
  let (s1, x) ← s.srcA a h
  let (r, e) := prefixOf f (masked (s.p g) id x)
  (s1.flag e).dst d (s.p g) (lanesOf r)

/-- vred: the tree over the active lanes; the result goes to an x register and to lane 0 of d (R205). -/
def vredBy (f : LaneOp2) (id : W32) (ext : W32 → W64) (d a : BitVec 6) (x : BitVec 5) (g : BitVec 3) (s : State) :
    Res State := do
  let (s1, v) ← s.src a
  let (r, e) := treeOf f 6 (masked (s.p g) id v)
  let s2 ← (s1.flag e).dst d allLanes (lanesOf [r])
  pure (s2.setX x (ext r))

/-- The choice of vred's fn: sum, min, max (R205). -/
def pick {α : Type} (f : BitVec 2) (sum min max : α) : α := if f = 0 then sum else if f = 1 then min else max

/-- Signed minimum. -/
def minS (a b : W32) : W32 := if b.slt a then b else a
/-- Signed maximum. -/
def maxS (a b : W32) : W32 := if a.slt b then b else a
/-- Unsigned minimum. -/
def minU (a b : W32) : W32 := if b.ult a then b else a
/-- Unsigned maximum. -/
def maxU (a b : W32) : W32 := if a.ult b then b else a
/-- Absolute value, modulo 2^32. -/
def absI (a : W32) : W32 := if a.msb then -a else a
/-- A shift count: bits 4:0 (R199). -/
def count32 (a : W32) : Nat := a.toNat % 32

/-! Conversions (R210, R211). -/

/-- A conversion that rounds: the target code and flags of a lane's source under a mode and the lane's random bits. -/
abbrev Conv := Bool → Rm → Nat → W32 → W32 × Flags

/-- To a signed integer. -/
def convI : Conv := fun _ m r a => let (i, e) := toInt (-(2 ^ 31)) (2 ^ 31 - 1) m r (ofF32 a); (BitVec.ofInt 32 i, e)
/-- To an unsigned integer. -/
def convN : Conv := fun _ m r a => let (i, e) := toInt 0 (2 ^ 32 - 1) m r (ofF32 a); (BitVec.ofInt 32 i, e)
/-- From a signed integer; it never overflows. -/
def convOfI : Conv := fun sat m r a =>
  let (c, e) := f32.convert sat m r (.fin (Dy.ofInt a.toInt)); (BitVec.ofNat 32 c, e)
/-- From an unsigned integer; it never overflows. -/
def convOfN : Conv := fun sat m r a =>
  let (c, e) := f32.convert sat m r (.fin (Dy.ofNat a.toNat)); (BitVec.ofNat 32 c, e)
/-- To a narrower floating format. -/
def convTo (f : Format) : Conv := fun sat m r a => let (c, e) := f.convert sat m r (ofF32 a); (BitVec.ofNat 32 c, e)

/-- A rounding conversion: operand b is read only under the random mode (R210, R211). -/
def vcvtBy (f : Conv) (d a b : BitVec 6) (g : BitVec 3) (h : BitVec 1) (s : State) : Res State := do
  let (s1, x) ← s.srcA a h
  let (s2, y) ← if s.rm = 4 then s1.src b else pure (s1, Lanes.zero)
  let one := fun (u v : W32) => f s.saturates (Rm.ofCode s.rm) (v.toNat % 65536) u
  let mask := s.p g
  (s2.flag (flagsOf mask fun i => (one (x[i]?.getD 0) (y[i]?.getD 0)).2)).dst d mask
    (Vector.ofFn fun i => (one x[i] y[i]).1)

/-- An exact conversion of the low bits of each lane (R210). -/
def vcvtExact (bits : Nat) (f : Format) (d a : BitVec 6) (g : BitVec 3) (h : BitVec 1) (s : State) : Res State :=
  vec1 (quiet1 fun u => widen f (u.toNat % 2 ^ bits)) d a g h s

/-! Meanings. -/

/-- VADD_F32 (R197). -/
def execVaddF32 (d a b : BitVec 6) (g : BitVec 3) (h : BitVec 1) (s : State) : Host.Outcome State Fault Refusal :=
  slot (.vaddF32 d a b g h) (vec2 f32Add d a b g h) s

/-- VSUB_F32 (R197). -/
def execVsubF32 (d a b : BitVec 6) (g : BitVec 3) (h : BitVec 1) (s : State) : Host.Outcome State Fault Refusal :=
  slot (.vsubF32 d a b g h) (vec2 f32Sub d a b g h) s

/-- VMUL_F32 (R197). -/
def execVmulF32 (d a b : BitVec 6) (g : BitVec 3) (h : BitVec 1) (s : State) : Host.Outcome State Fault Refusal :=
  slot (.vmulF32 d a b g h) (vec2 f32Mul d a b g h) s

/-- VFMA_F32 (R197). -/
def execVfmaF32 (d a b : BitVec 6) (g : BitVec 3) (h : BitVec 1) (s : State) : Host.Outcome State Fault Refusal :=
  slot (.vfmaF32 d a b g h) (vec3 f32Fma d a b g h) s

/-- VFMS_F32 (R197). -/
def execVfmsF32 (d a b : BitVec 6) (g : BitVec 3) (h : BitVec 1) (s : State) : Host.Outcome State Fault Refusal :=
  slot (.vfmsF32 d a b g h) (vec3 f32Fms d a b g h) s

/-- VMIN_F32 (R197). -/
def execVminF32 (d a b : BitVec 6) (g : BitVec 3) (h : BitVec 1) (s : State) : Host.Outcome State Fault Refusal :=
  slot (.vminF32 d a b g h) (vec2 (quiet2 f32Min) d a b g h) s

/-- VMAX_F32 (R197). -/
def execVmaxF32 (d a b : BitVec 6) (g : BitVec 3) (h : BitVec 1) (s : State) : Host.Outcome State Fault Refusal :=
  slot (.vmaxF32 d a b g h) (vec2 (quiet2 f32Max) d a b g h) s

/-- VABS_F32 (R197). -/
def execVabsF32 (d a : BitVec 6) (g : BitVec 3) (h : BitVec 1) (s : State) : Host.Outcome State Fault Refusal :=
  slot (.vabsF32 d a g h) (vec1 (quiet1 f32Abs) d a g h) s

/-- VNEG_F32 (R197). -/
def execVnegF32 (d a : BitVec 6) (g : BitVec 3) (h : BitVec 1) (s : State) : Host.Outcome State Fault Refusal :=
  slot (.vnegF32 d a g h) (vec1 (quiet1 f32Neg) d a g h) s

/-- VCLASS (R198). -/
def execVclass (d a : BitVec 6) (g : BitVec 3) (h : BitVec 1) (s : State) : Host.Outcome State Fault Refusal :=
  slot (.vclass d a g h) (vec1 (quiet1 f32Class) d a g h) s

/-- VADD_I32 (R199). -/
def execVaddI32 (d a b : BitVec 6) (g : BitVec 3) (h : BitVec 1) (s : State) : Host.Outcome State Fault Refusal :=
  slot (.vaddI32 d a b g h) (vec2 (quiet2 (fun x y => x + y)) d a b g h) s

/-- VSUB_I32 (R199). -/
def execVsubI32 (d a b : BitVec 6) (g : BitVec 3) (h : BitVec 1) (s : State) : Host.Outcome State Fault Refusal :=
  slot (.vsubI32 d a b g h) (vec2 (quiet2 (fun x y => x - y)) d a b g h) s

/-- VMUL_I32 (R199). -/
def execVmulI32 (d a b : BitVec 6) (g : BitVec 3) (h : BitVec 1) (s : State) : Host.Outcome State Fault Refusal :=
  slot (.vmulI32 d a b g h) (vec2 (quiet2 (fun x y => x * y)) d a b g h) s

/-- VMIN_I32 (R199). -/
def execVminI32 (d a b : BitVec 6) (g : BitVec 3) (h : BitVec 1) (s : State) : Host.Outcome State Fault Refusal :=
  slot (.vminI32 d a b g h) (vec2 (quiet2 minS) d a b g h) s

/-- VMAX_I32 (R199). -/
def execVmaxI32 (d a b : BitVec 6) (g : BitVec 3) (h : BitVec 1) (s : State) : Host.Outcome State Fault Refusal :=
  slot (.vmaxI32 d a b g h) (vec2 (quiet2 maxS) d a b g h) s

/-- VMIN_N32 (R199). -/
def execVminN32 (d a b : BitVec 6) (g : BitVec 3) (h : BitVec 1) (s : State) : Host.Outcome State Fault Refusal :=
  slot (.vminN32 d a b g h) (vec2 (quiet2 minU) d a b g h) s

/-- VMAX_N32 (R199). -/
def execVmaxN32 (d a b : BitVec 6) (g : BitVec 3) (h : BitVec 1) (s : State) : Host.Outcome State Fault Refusal :=
  slot (.vmaxN32 d a b g h) (vec2 (quiet2 maxU) d a b g h) s

/-- VABS_I32 (R199). -/
def execVabsI32 (d a : BitVec 6) (g : BitVec 3) (h : BitVec 1) (s : State) : Host.Outcome State Fault Refusal :=
  slot (.vabsI32 d a g h) (vec1 (quiet1 absI) d a g h) s

/-- VNEG_I32 (R199). -/
def execVnegI32 (d a : BitVec 6) (g : BitVec 3) (h : BitVec 1) (s : State) : Host.Outcome State Fault Refusal :=
  slot (.vnegI32 d a g h) (vec1 (quiet1 (fun x => -x)) d a g h) s

/-- VAND (R199). -/
def execVand (d a b : BitVec 6) (g : BitVec 3) (h : BitVec 1) (s : State) : Host.Outcome State Fault Refusal :=
  slot (.vand d a b g h) (vec2 (quiet2 (fun x y => x &&& y)) d a b g h) s

/-- VOR (R199). -/
def execVor (d a b : BitVec 6) (g : BitVec 3) (h : BitVec 1) (s : State) : Host.Outcome State Fault Refusal :=
  slot (.vor d a b g h) (vec2 (quiet2 (fun x y => x ||| y)) d a b g h) s

/-- VXOR (R199). -/
def execVxor (d a b : BitVec 6) (g : BitVec 3) (h : BitVec 1) (s : State) : Host.Outcome State Fault Refusal :=
  slot (.vxor d a b g h) (vec2 (quiet2 (fun x y => x ^^^ y)) d a b g h) s

/-- VNOT (R199). -/
def execVnot (d a : BitVec 6) (g : BitVec 3) (h : BitVec 1) (s : State) : Host.Outcome State Fault Refusal :=
  slot (.vnot d a g h) (vec1 (quiet1 (fun x => ~~~x)) d a g h) s

/-- VSHL (R199). -/
def execVshl (d a b : BitVec 6) (g : BitVec 3) (h : BitVec 1) (s : State) : Host.Outcome State Fault Refusal :=
  slot (.vshl d a b g h) (vec2 (quiet2 (fun x y => x <<< count32 y)) d a b g h) s

/-- VSHR (R199). -/
def execVshr (d a b : BitVec 6) (g : BitVec 3) (h : BitVec 1) (s : State) : Host.Outcome State Fault Refusal :=
  slot (.vshr d a b g h) (vec2 (quiet2 (fun x y => x >>> count32 y)) d a b g h) s

/-- VSRA (R199). -/
def execVsra (d a b : BitVec 6) (g : BitVec 3) (h : BitVec 1) (s : State) : Host.Outcome State Fault Refusal :=
  slot (.vsra d a b g h) (vec2 (quiet2 (fun x y => x.sshiftRight (count32 y))) d a b g h) s

/-- VSHL_IMM (R200). -/
def execVshlImm (d a : BitVec 6) (n : BitVec 5) (s : State) : Host.Outcome State Fault Refusal :=
  slot (.vshlImm d a n) (vec1 (quiet1 (fun x => x <<< n.toNat)) d a 0 0) s

/-- VSHR_IMM (R200). -/
def execVshrImm (d a : BitVec 6) (n : BitVec 5) (s : State) : Host.Outcome State Fault Refusal :=
  slot (.vshrImm d a n) (vec1 (quiet1 (fun x => x >>> n.toNat)) d a 0 0) s

/-- VSRA_IMM (R200). -/
def execVsraImm (d a : BitVec 6) (n : BitVec 5) (s : State) : Host.Outcome State Fault Refusal :=
  slot (.vsraImm d a n) (vec1 (quiet1 (fun x => x.sshiftRight n.toNat)) d a 0 0) s

/-- VBCAST_IMM (R200). -/
def execVbcastImm (d : BitVec 6) (i : Imm 10) (s : State) : Host.Outcome State Fault Refusal :=
  slot (.vbcastImm d i) (fun t => t.dst d allLanes (Vector.replicate 64 (i.sext.setWidth 32))) s

/-- VRCP (R201). -/
def execVrcp (d a : BitVec 6) (g : BitVec 3) (h : BitVec 1) (s : State) : Host.Outcome State Fault Refusal :=
  slot (.vrcp d a g h) (vec1 f32Rcp d a g h) s

/-- VRSQRT (R201). -/
def execVrsqrt (d a : BitVec 6) (g : BitVec 3) (h : BitVec 1) (s : State) : Host.Outcome State Fault Refusal :=
  slot (.vrsqrt d a g h) (vec1 f32Rsqrt d a g h) s

/-- VSQRT (R201). -/
def execVsqrt (d a : BitVec 6) (g : BitVec 3) (h : BitVec 1) (s : State) : Host.Outcome State Fault Refusal :=
  slot (.vsqrt d a g h) (vec1 f32Sqrt d a g h) s

/-- VEXP2 (R201). -/
def execVexp2 (d a : BitVec 6) (g : BitVec 3) (h : BitVec 1) (s : State) : Host.Outcome State Fault Refusal :=
  slot (.vexp2 d a g h) (vec1 f32Exp2 d a g h) s

/-- VLOG2 (R201). -/
def execVlog2 (d a : BitVec 6) (g : BitVec 3) (h : BitVec 1) (s : State) : Host.Outcome State Fault Refusal :=
  slot (.vlog2 d a g h) (vec1 f32Log2 d a g h) s

/-- VNCDF (R201). -/
def execVncdf (d a : BitVec 6) (g : BitVec 3) (h : BitVec 1) (s : State) : Host.Outcome State Fault Refusal :=
  slot (.vncdf d a g h) (vec1 f32Ncdf d a g h) s

/-- VNPDF (R201). -/
def execVnpdf (d a : BitVec 6) (g : BitVec 3) (h : BitVec 1) (s : State) : Host.Outcome State Fault Refusal :=
  slot (.vnpdf d a g h) (vec1 f32Npdf d a g h) s

/-- VTANH (R201). -/
def execVtanh (d a : BitVec 6) (g : BitVec 3) (h : BitVec 1) (s : State) : Host.Outcome State Fault Refusal :=
  slot (.vtanh d a g h) (vec1 f32Tanh d a g h) s

/-- VCMP_F32 (R202). -/
def execVcmpF32 (c n : BitVec 3) (a b : BitVec 6) (g : BitVec 3) (h : BitVec 1) (s : State) :
    Host.Outcome State Fault Refusal :=
  slot (.vcmpF32 c n a b g h) (vcmpBy (holdsF c.toNat) n a b g h) s

/-- VCMP_I32 (R202). -/
def execVcmpI32 (c n : BitVec 3) (a b : BitVec 6) (g : BitVec 3) (h : BitVec 1) (s : State) :
    Host.Outcome State Fault Refusal :=
  slot (.vcmpI32 c n a b g h) (vcmpBy (holdsI BitVec.slt c.toNat) n a b g h) s

/-- VCMP_N32 (R202). -/
def execVcmpN32 (c n : BitVec 3) (a b : BitVec 6) (g : BitVec 3) (h : BitVec 1) (s : State) :
    Host.Outcome State Fault Refusal :=
  slot (.vcmpN32 c n a b g h) (vcmpBy (holdsI BitVec.ult c.toNat) n a b g h) s

/-- VSEL: the guard field is the selector, and every lane is written (R203). -/
def execVsel (d a b : BitVec 6) (g : BitVec 3) (h : BitVec 1) (s : State) : Host.Outcome State Fault Refusal :=
  slot (.vsel d a b g h) (fun t => do
    let (u, x) ← t.srcA a h
    let (v, y) ← u.src b
    v.dst d allLanes (merge (t.p g) x y)) s

/-- VPFX_F32 (R204). -/
def execVpfxF32 (d a : BitVec 6) (g : BitVec 3) (h : BitVec 1) (s : State) : Host.Outcome State Fault Refusal :=
  slot (.vpfxF32 d a g h) (vpfxBy f32Add 0x80000000#32 d a g h) s

/-- VPFX_I32 (R204). -/
def execVpfxI32 (d a : BitVec 6) (g : BitVec 3) (h : BitVec 1) (s : State) : Host.Outcome State Fault Refusal :=
  slot (.vpfxI32 d a g h) (vpfxBy (quiet2 fun x y => x + y) 0 d a g h) s

/-- VRED_F32 (R205). -/
def execVredF32 (d a : BitVec 6) (x : BitVec 5) (g : BitVec 3) (f : BitVec 2) (s : State) :
    Host.Outcome State Fault Refusal :=
  slot (.vredF32 d a x g f) (vredBy (pick f f32Add (quiet2 f32Min) (quiet2 f32Max))
    (pick f 0x80000000#32 0x7F800000#32 0xFF800000#32) (fun r => r.setWidth 64) d a x g) s

/-- VRED_I32 (R205). -/
def execVredI32 (d a : BitVec 6) (x : BitVec 5) (g : BitVec 3) (f : BitVec 2) (s : State) :
    Host.Outcome State Fault Refusal :=
  slot (.vredI32 d a x g f) (vredBy (pick f (quiet2 fun u v => u + v) (quiet2 minS) (quiet2 maxS))
    (pick f 0#32 0x7FFFFFFF#32 0x80000000#32) (fun r => r.signExtend 64) d a x g) s

/-- VRED_N32 (R205). -/
def execVredN32 (d a : BitVec 6) (x : BitVec 5) (g : BitVec 3) (f : BitVec 2) (s : State) :
    Host.Outcome State Fault Refusal :=
  slot (.vredN32 d a x g f) (vredBy (pick f (quiet2 fun u v => u + v) (quiet2 minU) (quiet2 maxU))
    (pick f 0#32 0xFFFFFFFF#32 0#32) (fun r => r.setWidth 64) d a x g) s

/-- VPERM (R206). -/
def execVperm (d a b : BitVec 6) (g : BitVec 3) (h : BitVec 1) (s : State) : Host.Outcome State Fault Refusal :=
  slot (.vperm d a b g h) (fun t => do
    let (u, x) ← t.srcA a h
    let (v, y) ← u.src b
    v.dst d (t.p g) (Vector.ofFn fun i => x[y[i].toNat % 64]?.getD 0)) s

/-- VBCAST (R207). -/
def execVbcast (d : BitVec 6) (x : BitVec 5) (g : BitVec 3) (s : State) : Host.Outcome State Fault Refusal :=
  slot (.vbcast d x g) (fun t => t.dst d (t.p g) (Vector.replicate 64 ((t.x x).setWidth 32))) s

/-- VBCAST_LANE (R207). -/
def execVbcastLane (d a : BitVec 6) (x : BitVec 5) (g : BitVec 3) (s : State) : Host.Outcome State Fault Refusal :=
  slot (.vbcastLane d a x g) (fun t => do
    let (u, v) ← t.src a
    u.dst d (t.p g) (Vector.replicate 64 (v[field (t.x x) 5 0]?.getD 0))) s

/-- VMOVX (R208). -/
def execVmovx (l a : BitVec 6) (x : BitVec 5) (s : State) : Host.Outcome State Fault Refusal :=
  slot (.vmovx l a x) (fun t => do
    let (u, v) ← t.src a
    pure (u.setX x ((v[l.toNat]?.getD 0).setWidth 64))) s

/-- VMOVX_S (R208). -/
def execVmovxS (l a : BitVec 6) (x : BitVec 5) (s : State) : Host.Outcome State Fault Refusal :=
  slot (.vmovxS l a x) (fun t => do
    let (u, v) ← t.src a
    pure (u.setX x ((v[l.toNat]?.getD 0).signExtend 64))) s

/-- VMOVX_TO_LANE (R208). -/
def execVmovxToLane (d l : BitVec 6) (x : BitVec 5) (s : State) : Host.Outcome State Fault Refusal :=
  slot (.vmovxToLane d l x)
    (fun t => .ok (t.setV d.toNat ((t.v d.toNat).setIfInBounds l.toNat ((t.x x).setWidth 32)))) s

/-- VIDX (R209). -/
def execVidx (d : BitVec 6) (g : BitVec 3) (s : State) : Host.Outcome State Fault Refusal :=
  slot (.vidx d g) (fun t => t.dst d (t.p g) (Vector.ofFn fun i => BitVec.ofNat 32 i.val)) s

/-- VCVT_I32_F32 (R211). -/
def execVcvtI32F32 (d a b : BitVec 6) (g : BitVec 3) (h : BitVec 1) (s : State) : Host.Outcome State Fault Refusal :=
  slot (.vcvtI32F32 d a b g h) (vcvtBy convI d a b g h) s

/-- VCVT_N32_F32 (R211). -/
def execVcvtN32F32 (d a b : BitVec 6) (g : BitVec 3) (h : BitVec 1) (s : State) : Host.Outcome State Fault Refusal :=
  slot (.vcvtN32F32 d a b g h) (vcvtBy convN d a b g h) s

/-- VCVT_F32_I32 (R211). -/
def execVcvtF32I32 (d a b : BitVec 6) (g : BitVec 3) (h : BitVec 1) (s : State) : Host.Outcome State Fault Refusal :=
  slot (.vcvtF32I32 d a b g h) (vcvtBy convOfI d a b g h) s

/-- VCVT_F32_N32 (R211). -/
def execVcvtF32N32 (d a b : BitVec 6) (g : BitVec 3) (h : BitVec 1) (s : State) : Host.Outcome State Fault Refusal :=
  slot (.vcvtF32N32 d a b g h) (vcvtBy convOfN d a b g h) s

/-- VCVT_BF16_F32 (R211). -/
def execVcvtBf16F32 (d a b : BitVec 6) (g : BitVec 3) (h : BitVec 1) (s : State) : Host.Outcome State Fault Refusal :=
  slot (.vcvtBf16F32 d a b g h) (vcvtBy (convTo bf16) d a b g h) s

/-- VCVT_E4M3_F32 (R211). -/
def execVcvtE4m3F32 (d a b : BitVec 6) (g : BitVec 3) (h : BitVec 1) (s : State) : Host.Outcome State Fault Refusal :=
  slot (.vcvtE4m3F32 d a b g h) (vcvtBy (convTo e4m3) d a b g h) s

/-- VCVT_E5M2_F32 (R211). -/
def execVcvtE5m2F32 (d a b : BitVec 6) (g : BitVec 3) (h : BitVec 1) (s : State) : Host.Outcome State Fault Refusal :=
  slot (.vcvtE5m2F32 d a b g h) (vcvtBy (convTo e5m2) d a b g h) s

/-- VCVT_E2M1_F32 (R211). -/
def execVcvtE2m1F32 (d a b : BitVec 6) (g : BitVec 3) (h : BitVec 1) (s : State) : Host.Outcome State Fault Refusal :=
  slot (.vcvtE2m1F32 d a b g h) (vcvtBy (convTo e2m1) d a b g h) s

/-- VCVT_F32_BF16: exact; FMT is not used, so the random operand is not read (R210, spec/09 R399). -/
def execVcvtF32Bf16 (d a b : BitVec 6) (g : BitVec 3) (h : BitVec 1) (s : State) : Host.Outcome State Fault Refusal :=
  slot (.vcvtF32Bf16 d a b g h) (vcvtExact 16 bf16 d a g h) s

/-- VCVT_F32_E4M3: exact; FMT is not used, so the random operand is not read (R210, spec/09 R399). -/
def execVcvtF32E4m3 (d a b : BitVec 6) (g : BitVec 3) (h : BitVec 1) (s : State) : Host.Outcome State Fault Refusal :=
  slot (.vcvtF32E4m3 d a b g h) (vcvtExact 8 e4m3 d a g h) s

/-- VCVT_F32_E5M2: exact; FMT is not used, so the random operand is not read (R210, spec/09 R399). -/
def execVcvtF32E5m2 (d a b : BitVec 6) (g : BitVec 3) (h : BitVec 1) (s : State) : Host.Outcome State Fault Refusal :=
  slot (.vcvtF32E5m2 d a b g h) (vcvtExact 8 e5m2 d a g h) s

/-- VCVT_F32_E2M1: exact; FMT is not used, so the random operand is not read (R210, spec/09 R399). -/
def execVcvtF32E2m1 (d a b : BitVec 6) (g : BitVec 3) (h : BitVec 1) (s : State) : Host.Outcome State Fault Refusal :=
  slot (.vcvtF32E2m1 d a b g h) (vcvtExact 4 e2m1 d a g h) s

end Sys2Proof.Machine
end

