-- ==== Sys2Proof/Machine/Dispatch.lean ====
section
/-! DEFINITION. The dispatcher: one arm per constructor of Instr. -/

namespace Sys2Proof.Machine

/-- The meaning of each instruction. -/
def exec (i : Instr) (s : State) : Host.Outcome State Fault Refusal :=
  match i with
  | .ext x_s x_c x_b x_a => Sys2Proof.Machine.execExt x_s x_c x_b x_a s
  | .rep x_s x_n x_m => Sys2Proof.Machine.execRep x_s x_n x_m s
  | .loop x_s x_l x_t => Sys2Proof.Machine.execLoop x_s x_l x_t s
  | .nop => Sys2Proof.Machine.execNop s
  | .add x_d x_a x_b x_g => Sys2Proof.Machine.execAdd x_d x_a x_b x_g s
  | .sub x_d x_a x_b x_g => Sys2Proof.Machine.execSub x_d x_a x_b x_g s
  | .mul x_d x_a x_b x_g => Sys2Proof.Machine.execMul x_d x_a x_b x_g s
  | .mulh x_d x_a x_b x_g x_f => Sys2Proof.Machine.execMulh x_d x_a x_b x_g x_f s
  | .div x_d x_a x_b x_g x_f => Sys2Proof.Machine.execDiv x_d x_a x_b x_g x_f s
  | .rem x_d x_a x_b x_g x_f => Sys2Proof.Machine.execRem x_d x_a x_b x_g x_f s
  | .andR x_d x_a x_b x_g => Sys2Proof.Machine.execAndR x_d x_a x_b x_g s
  | .orR x_d x_a x_b x_g => Sys2Proof.Machine.execOrR x_d x_a x_b x_g s
  | .xorR x_d x_a x_b x_g => Sys2Proof.Machine.execXorR x_d x_a x_b x_g s
  | .andn x_d x_a x_b x_g => Sys2Proof.Machine.execAndn x_d x_a x_b x_g s
  | .shl x_d x_a x_b x_g => Sys2Proof.Machine.execShl x_d x_a x_b x_g s
  | .shr x_d x_a x_b x_g => Sys2Proof.Machine.execShr x_d x_a x_b x_g s
  | .sra x_d x_a x_b x_g => Sys2Proof.Machine.execSra x_d x_a x_b x_g s
  | .rotl x_d x_a x_b x_g => Sys2Proof.Machine.execRotl x_d x_a x_b x_g s
  | .min x_d x_a x_b x_g x_f => Sys2Proof.Machine.execMin x_d x_a x_b x_g x_f s
  | .max x_d x_a x_b x_g x_f => Sys2Proof.Machine.execMax x_d x_a x_b x_g x_f s
  | .clz x_d x_a x_g x_f => Sys2Proof.Machine.execClz x_d x_a x_g x_f s
  | .ctz x_d x_a x_g x_f => Sys2Proof.Machine.execCtz x_d x_a x_g x_f s
  | .popc x_d x_a x_g x_f => Sys2Proof.Machine.execPopc x_d x_a x_g x_f s
  | .sext x_d x_a x_g x_f => Sys2Proof.Machine.execSext x_d x_a x_g x_f s
  | .zext x_d x_a x_g x_f => Sys2Proof.Machine.execZext x_d x_a x_g x_f s
  | .lea x_d x_a x_b x_g x_s => Sys2Proof.Machine.execLea x_d x_a x_b x_g x_s s
  | .cmp x_n x_a x_b x_g x_c => Sys2Proof.Machine.execCmp x_n x_a x_b x_g x_c s
  | .sel x_d x_a x_b x_g x_n => Sys2Proof.Machine.execSel x_d x_a x_b x_g x_n s
  | .addi x_d x_a x_i => Sys2Proof.Machine.execAddi x_d x_a x_i s
  | .andi x_d x_a x_i => Sys2Proof.Machine.execAndi x_d x_a x_i s
  | .ori x_d x_a x_i => Sys2Proof.Machine.execOri x_d x_a x_i s
  | .xori x_d x_a x_i => Sys2Proof.Machine.execXori x_d x_a x_i s
  | .shli x_d x_a x_n => Sys2Proof.Machine.execShli x_d x_a x_n s
  | .shri x_d x_a x_n => Sys2Proof.Machine.execShri x_d x_a x_n s
  | .srai x_d x_a x_n => Sys2Proof.Machine.execSrai x_d x_a x_n s
  | .lih x_d x_i => Sys2Proof.Machine.execLih x_d x_i s
  | .jmp x_o => Sys2Proof.Machine.execJmp x_o s
  | .jal x_d x_o => Sys2Proof.Machine.execJal x_d x_o s
  | .jr x_d x_a x_g => Sys2Proof.Machine.execJr x_d x_a x_g s
  | .br x_p x_n x_o => Sys2Proof.Machine.execBr x_p x_n x_o s
  | .brcEq x_b x_a x_o => Sys2Proof.Machine.execBrcEq x_b x_a x_o s
  | .brcNe x_b x_a x_o => Sys2Proof.Machine.execBrcNe x_b x_a x_o s
  | .brcLt x_b x_a x_o => Sys2Proof.Machine.execBrcLt x_b x_a x_o s
  | .brcGe x_b x_a x_o => Sys2Proof.Machine.execBrcGe x_b x_a x_o s
  | .brcLtu x_b x_a x_o => Sys2Proof.Machine.execBrcLtu x_b x_a x_o s
  | .brcGeu x_b x_a x_o => Sys2Proof.Machine.execBrcGeu x_b x_a x_o s
  | .takeMark => Sys2Proof.Machine.execTakeMark s
  | .spawn x_a x_b => Sys2Proof.Machine.execSpawn x_a x_b s
  | .doneShot => Sys2Proof.Machine.execDoneShot s
  | .trapUser x_a x_i => Sys2Proof.Machine.execTrapUser x_a x_i s
  | .ld x_d x_a x_i x_f => Sys2Proof.Machine.execLd x_d x_a x_i x_f s
  | .st x_s x_a x_i x_z => Sys2Proof.Machine.execSt x_s x_a x_i x_z s
  | .ldw x_d x_a x_i x_f => Sys2Proof.Machine.execLdw x_d x_a x_i x_f s
  | .stf x_s x_a x_i x_z => Sys2Proof.Machine.execStf x_s x_a x_i x_z s
  | .pclr x_n x_a x_i => Sys2Proof.Machine.execPclr x_n x_a x_i s
  | .ctlr x_d x_c => Sys2Proof.Machine.execCtlr x_d x_c s
  | .ctlw x_a x_c => Sys2Proof.Machine.execCtlw x_a x_c s
  | .setfmt x_a => Sys2Proof.Machine.execSetfmt x_a s
  | .setmom x_a => Sys2Proof.Machine.execSetmom x_a s
  | .fence x_c x_s => Sys2Proof.Machine.execFence x_c x_s s
  | .wait x_l x_s x_c x_t => Sys2Proof.Machine.execWait x_l x_s x_c x_t s
  | .rdclk x_d => Sys2Proof.Machine.execRdclk x_d s
  | .rdid x_d => Sys2Proof.Machine.execRdid x_d s
  | .rdstep x_d => Sys2Proof.Machine.execRdstep x_d s
  | .rdstepNext x_d => Sys2Proof.Machine.execRdstepNext x_d s
  | .tinv x_a x_b => Sys2Proof.Machine.execTinv x_a x_b s
  | .retake x_d x_a => Sys2Proof.Machine.execRetake x_d x_a s
  | .ctxsv x_d x_a x_b x_p => Sys2Proof.Machine.execCtxsv x_d x_a x_b x_p s
  | .ctxld x_d x_a x_b x_p => Sys2Proof.Machine.execCtxld x_d x_a x_b x_p s
  | .dstw x_d x_a x_b => Sys2Proof.Machine.execDstw x_d x_a x_b s
  | .scrb x_d x_a x_b => Sys2Proof.Machine.execScrb x_d x_a x_b s
  | .pwrwPwrcap x_a x_b => Sys2Proof.Machine.execPwrwPwrcap x_a x_b s
  | .pwrwCurlim x_a x_b => Sys2Proof.Machine.execPwrwCurlim x_a x_b s
  | .hibwSetEntry x_d x_a x_b => Sys2Proof.Machine.execHibwSetEntry x_d x_a x_b s
  | .hibwClearEntry x_d x_a x_b => Sys2Proof.Machine.execHibwClearEntry x_d x_a x_b s
  | .hibwClearAll x_d x_a x_b => Sys2Proof.Machine.execHibwClearAll x_d x_a x_b s
  | .vaddF32 x_d x_a x_b x_g x_h => Sys2Proof.Machine.execVaddF32 x_d x_a x_b x_g x_h s
  | .vsubF32 x_d x_a x_b x_g x_h => Sys2Proof.Machine.execVsubF32 x_d x_a x_b x_g x_h s
  | .vmulF32 x_d x_a x_b x_g x_h => Sys2Proof.Machine.execVmulF32 x_d x_a x_b x_g x_h s
  | .vfmaF32 x_d x_a x_b x_g x_h => Sys2Proof.Machine.execVfmaF32 x_d x_a x_b x_g x_h s
  | .vfmsF32 x_d x_a x_b x_g x_h => Sys2Proof.Machine.execVfmsF32 x_d x_a x_b x_g x_h s
  | .vminF32 x_d x_a x_b x_g x_h => Sys2Proof.Machine.execVminF32 x_d x_a x_b x_g x_h s
  | .vmaxF32 x_d x_a x_b x_g x_h => Sys2Proof.Machine.execVmaxF32 x_d x_a x_b x_g x_h s
  | .vabsF32 x_d x_a x_g x_h => Sys2Proof.Machine.execVabsF32 x_d x_a x_g x_h s
  | .vnegF32 x_d x_a x_g x_h => Sys2Proof.Machine.execVnegF32 x_d x_a x_g x_h s
  | .vclass x_d x_a x_g x_h => Sys2Proof.Machine.execVclass x_d x_a x_g x_h s
  | .vaddI32 x_d x_a x_b x_g x_h => Sys2Proof.Machine.execVaddI32 x_d x_a x_b x_g x_h s
  | .vsubI32 x_d x_a x_b x_g x_h => Sys2Proof.Machine.execVsubI32 x_d x_a x_b x_g x_h s
  | .vmulI32 x_d x_a x_b x_g x_h => Sys2Proof.Machine.execVmulI32 x_d x_a x_b x_g x_h s
  | .vminI32 x_d x_a x_b x_g x_h => Sys2Proof.Machine.execVminI32 x_d x_a x_b x_g x_h s
  | .vmaxI32 x_d x_a x_b x_g x_h => Sys2Proof.Machine.execVmaxI32 x_d x_a x_b x_g x_h s
  | .vminN32 x_d x_a x_b x_g x_h => Sys2Proof.Machine.execVminN32 x_d x_a x_b x_g x_h s
  | .vmaxN32 x_d x_a x_b x_g x_h => Sys2Proof.Machine.execVmaxN32 x_d x_a x_b x_g x_h s
  | .vabsI32 x_d x_a x_g x_h => Sys2Proof.Machine.execVabsI32 x_d x_a x_g x_h s
  | .vnegI32 x_d x_a x_g x_h => Sys2Proof.Machine.execVnegI32 x_d x_a x_g x_h s
  | .vrcp x_d x_a x_g x_h => Sys2Proof.Machine.execVrcp x_d x_a x_g x_h s
  | .vrsqrt x_d x_a x_g x_h => Sys2Proof.Machine.execVrsqrt x_d x_a x_g x_h s
  | .vsqrt x_d x_a x_g x_h => Sys2Proof.Machine.execVsqrt x_d x_a x_g x_h s
  | .vexp2 x_d x_a x_g x_h => Sys2Proof.Machine.execVexp2 x_d x_a x_g x_h s
  | .vlog2 x_d x_a x_g x_h => Sys2Proof.Machine.execVlog2 x_d x_a x_g x_h s
  | .vncdf x_d x_a x_g x_h => Sys2Proof.Machine.execVncdf x_d x_a x_g x_h s
  | .vnpdf x_d x_a x_g x_h => Sys2Proof.Machine.execVnpdf x_d x_a x_g x_h s
  | .vtanh x_d x_a x_g x_h => Sys2Proof.Machine.execVtanh x_d x_a x_g x_h s
  | .vand x_d x_a x_b x_g x_h => Sys2Proof.Machine.execVand x_d x_a x_b x_g x_h s
  | .vor x_d x_a x_b x_g x_h => Sys2Proof.Machine.execVor x_d x_a x_b x_g x_h s
  | .vxor x_d x_a x_b x_g x_h => Sys2Proof.Machine.execVxor x_d x_a x_b x_g x_h s
  | .vnot x_d x_a x_g x_h => Sys2Proof.Machine.execVnot x_d x_a x_g x_h s
  | .vshl x_d x_a x_b x_g x_h => Sys2Proof.Machine.execVshl x_d x_a x_b x_g x_h s
  | .vshr x_d x_a x_b x_g x_h => Sys2Proof.Machine.execVshr x_d x_a x_b x_g x_h s
  | .vsra x_d x_a x_b x_g x_h => Sys2Proof.Machine.execVsra x_d x_a x_b x_g x_h s
  | .vcmpF32 x_c x_n x_a x_b x_g x_h => Sys2Proof.Machine.execVcmpF32 x_c x_n x_a x_b x_g x_h s
  | .vcmpI32 x_c x_n x_a x_b x_g x_h => Sys2Proof.Machine.execVcmpI32 x_c x_n x_a x_b x_g x_h s
  | .vcmpN32 x_c x_n x_a x_b x_g x_h => Sys2Proof.Machine.execVcmpN32 x_c x_n x_a x_b x_g x_h s
  | .vsel x_d x_a x_b x_g x_h => Sys2Proof.Machine.execVsel x_d x_a x_b x_g x_h s
  | .vpfxF32 x_d x_a x_g x_h => Sys2Proof.Machine.execVpfxF32 x_d x_a x_g x_h s
  | .vpfxI32 x_d x_a x_g x_h => Sys2Proof.Machine.execVpfxI32 x_d x_a x_g x_h s
  | .vredF32 x_d x_a x_x x_g x_f => Sys2Proof.Machine.execVredF32 x_d x_a x_x x_g x_f s
  | .vredI32 x_d x_a x_x x_g x_f => Sys2Proof.Machine.execVredI32 x_d x_a x_x x_g x_f s
  | .vredN32 x_d x_a x_x x_g x_f => Sys2Proof.Machine.execVredN32 x_d x_a x_x x_g x_f s
  | .vperm x_d x_a x_b x_g x_h => Sys2Proof.Machine.execVperm x_d x_a x_b x_g x_h s
  | .vbcast x_d x_x x_g => Sys2Proof.Machine.execVbcast x_d x_x x_g s
  | .vbcastLane x_d x_a x_x x_g => Sys2Proof.Machine.execVbcastLane x_d x_a x_x x_g s
  | .vmovx x_l x_a x_x => Sys2Proof.Machine.execVmovx x_l x_a x_x s
  | .vmovxS x_l x_a x_x => Sys2Proof.Machine.execVmovxS x_l x_a x_x s
  | .vmovxToLane x_d x_l x_x => Sys2Proof.Machine.execVmovxToLane x_d x_l x_x s
  | .vidx x_d x_g => Sys2Proof.Machine.execVidx x_d x_g s
  | .vcvtI32F32 x_d x_a x_b x_g x_h => Sys2Proof.Machine.execVcvtI32F32 x_d x_a x_b x_g x_h s
  | .vcvtN32F32 x_d x_a x_b x_g x_h => Sys2Proof.Machine.execVcvtN32F32 x_d x_a x_b x_g x_h s
  | .vcvtF32I32 x_d x_a x_b x_g x_h => Sys2Proof.Machine.execVcvtF32I32 x_d x_a x_b x_g x_h s
  | .vcvtF32N32 x_d x_a x_b x_g x_h => Sys2Proof.Machine.execVcvtF32N32 x_d x_a x_b x_g x_h s
  | .vcvtBf16F32 x_d x_a x_b x_g x_h => Sys2Proof.Machine.execVcvtBf16F32 x_d x_a x_b x_g x_h s
  | .vcvtF32Bf16 x_d x_a x_b x_g x_h => Sys2Proof.Machine.execVcvtF32Bf16 x_d x_a x_b x_g x_h s
  | .vcvtE4m3F32 x_d x_a x_b x_g x_h => Sys2Proof.Machine.execVcvtE4m3F32 x_d x_a x_b x_g x_h s
  | .vcvtF32E4m3 x_d x_a x_b x_g x_h => Sys2Proof.Machine.execVcvtF32E4m3 x_d x_a x_b x_g x_h s
  | .vcvtE5m2F32 x_d x_a x_b x_g x_h => Sys2Proof.Machine.execVcvtE5m2F32 x_d x_a x_b x_g x_h s
  | .vcvtF32E5m2 x_d x_a x_b x_g x_h => Sys2Proof.Machine.execVcvtF32E5m2 x_d x_a x_b x_g x_h s
  | .vcvtE2m1F32 x_d x_a x_b x_g x_h => Sys2Proof.Machine.execVcvtE2m1F32 x_d x_a x_b x_g x_h s
  | .vcvtF32E2m1 x_d x_a x_b x_g x_h => Sys2Proof.Machine.execVcvtF32E2m1 x_d x_a x_b x_g x_h s
  | .vld x_d x_a x_i x_g => Sys2Proof.Machine.execVld x_d x_a x_i x_g s
  | .vst x_s x_a x_i x_g => Sys2Proof.Machine.execVst x_s x_a x_i x_g s
  | .vldw x_d x_a x_i x_q => Sys2Proof.Machine.execVldw x_d x_a x_i x_q s
  | .vstf x_s x_a x_i => Sys2Proof.Machine.execVstf x_s x_a x_i s
  | .vlds x_d x_r x_b x_g x_f => Sys2Proof.Machine.execVlds x_d x_r x_b x_g x_f s
  | .vldg x_d x_a x_b x_g x_f => Sys2Proof.Machine.execVldg x_d x_a x_b x_g x_f s
  | .vsts x_s x_a x_b x_g x_f => Sys2Proof.Machine.execVsts x_s x_a x_b x_g x_f s
  | .pand x_d x_a x_b x_g => Sys2Proof.Machine.execPand x_d x_a x_b x_g s
  | .por x_d x_a x_b x_g => Sys2Proof.Machine.execPor x_d x_a x_b x_g s
  | .pxor x_d x_a x_b x_g => Sys2Proof.Machine.execPxor x_d x_a x_b x_g s
  | .pnot x_d x_a x_g => Sys2Proof.Machine.execPnot x_d x_a x_g s
  | .pcnt x_a x_x x_g x_f => Sys2Proof.Machine.execPcnt x_a x_x x_g x_f s
  | .pfirst x_a x_x x_g x_f => Sys2Proof.Machine.execPfirst x_a x_x x_g x_f s
  | .qcnt x_q x_x => Sys2Proof.Machine.execQcnt x_q x_x s
  | .qclr x_q => Sys2Proof.Machine.execQclr x_q s
  | .qbind x_q x_s => Sys2Proof.Machine.execQbind x_q x_s s
  | .qunbind x_q => Sys2Proof.Machine.execQunbind x_q s
  | .sbind x_s x_x => Sys2Proof.Machine.execSbind x_s x_x s
  | .spos x_s x_x => Sys2Proof.Machine.execSpos x_s x_x s
  | .vpark x_a x_x => Sys2Proof.Machine.execVpark x_a x_x s
  | .vunpark x_d x_x => Sys2Proof.Machine.execVunpark x_d x_x s
  | .vunparkFree x_d x_x => Sys2Proof.Machine.execVunparkFree x_d x_x s
  | .vshlImm x_d x_a x_n => Sys2Proof.Machine.execVshlImm x_d x_a x_n s
  | .vshrImm x_d x_a x_n => Sys2Proof.Machine.execVshrImm x_d x_a x_n s
  | .vsraImm x_d x_a x_n => Sys2Proof.Machine.execVsraImm x_d x_a x_n s
  | .vbcastImm x_d x_i => Sys2Proof.Machine.execVbcastImm x_d x_i s
  | .mldM32 x_d x_a x_i x_g => Sys2Proof.Machine.execMldM32 x_d x_a x_i x_g s
  | .mldMb16 x_d x_a x_i x_g => Sys2Proof.Machine.execMldMb16 x_d x_a x_i x_g s
  | .mstM32 x_s x_a x_i x_g => Sys2Proof.Machine.execMstM32 x_s x_a x_i x_g s
  | .mstMb16 x_s x_a x_i x_g => Sys2Proof.Machine.execMstMb16 x_s x_a x_i x_g s
  | .mset x_d x_a x_b x_g => Sys2Proof.Machine.execMset x_d x_a x_b x_g s
  | .mget x_d x_a x_b x_g => Sys2Proof.Machine.execMget x_d x_a x_b x_g s
  | .mcorr x_a x_g => Sys2Proof.Machine.execMcorr x_a x_g s
  | .mclip x_d x_a x_x x_g => Sys2Proof.Machine.execMclip x_d x_a x_x x_g s
  | .madd x_d x_a x_b x_g x_c => Sys2Proof.Machine.execMadd x_d x_a x_b x_g x_c s
  | .msub x_d x_a x_b x_g x_c => Sys2Proof.Machine.execMsub x_d x_a x_b x_g x_c s
  | .mmul x_d x_a x_b x_g x_c => Sys2Proof.Machine.execMmul x_d x_a x_b x_g x_c s
  | .mfma x_d x_a x_b x_g x_c => Sys2Proof.Machine.execMfma x_d x_a x_b x_g x_c s
  | .mscl x_d x_a x_b x_g => Sys2Proof.Machine.execMscl x_d x_a x_b x_g s
  | .msq x_d x_a x_g => Sys2Proof.Machine.execMsq x_d x_a x_g s
  | .mrelu x_d x_a x_g => Sys2Proof.Machine.execMrelu x_d x_a x_g s
  | .msig x_d x_a x_g => Sys2Proof.Machine.execMsig x_d x_a x_g s
  | .mexp x_d x_a x_g => Sys2Proof.Machine.execMexp x_d x_a x_g s
  | .mtanh x_d x_a x_g => Sys2Proof.Machine.execMtanh x_d x_a x_g s
  | .mcolMean x_d x_a x_g => Sys2Proof.Machine.execMcolMean x_d x_a x_g s
  | .mcolHi x_d x_a x_g => Sys2Proof.Machine.execMcolHi x_d x_a x_g s
  | .mcolLo x_d x_a x_g => Sys2Proof.Machine.execMcolLo x_d x_a x_g s
  | .mcolSmp x_d x_a x_b x_g => Sys2Proof.Machine.execMcolSmp x_d x_a x_b x_g s
  | .mma x_z x_a x_b x_m x_p => Sys2Proof.Machine.execMma x_z x_a x_b x_m x_p s
  | .mmas x_z x_a x_b x_m x_p x_c x_s => Sys2Proof.Machine.execMmas x_z x_a x_b x_m x_p x_c x_s s
  | .mmap x_z x_a x_b x_m x_p => Sys2Proof.Machine.execMmap x_z x_a x_b x_m x_p s
  | .mmt x_z x_a x_b x_m x_p => Sys2Proof.Machine.execMmt x_z x_a x_b x_m x_p s
  | .mmm x_z x_a x_b x_m x_p x_f => Sys2Proof.Machine.execMmm x_z x_a x_b x_m x_p x_f s
  | .repetition => Sys2Proof.Machine.execRepetition s
  | .trd x_z x_d x_r => Sys2Proof.Machine.execTrd x_z x_d x_r s
  | .twr x_z x_a x_r => Sys2Proof.Machine.execTwr x_z x_a x_r s
  | .tcfg x_m x_r x_f => Sys2Proof.Machine.execTcfg x_m x_r x_f s
  | .tfree x_m x_f => Sys2Proof.Machine.execTfree x_m x_f s
  | .tzero x_m => Sys2Proof.Machine.execTzero x_m s
  | .tgen x_t x_p => Sys2Proof.Machine.execTgen x_t x_p s
  | .tadd x_d x_s x_n => Sys2Proof.Machine.execTadd x_d x_s x_n s
  | .tscl x_z x_x => Sys2Proof.Machine.execTscl x_z x_x s
  | .tcvt x_z x_o x_t x_p x_r => Sys2Proof.Machine.execTcvt x_z x_o x_t x_p x_r s
  | .ofs x_o x_a x_b => Sys2Proof.Machine.execOfs x_o x_a x_b s
  | .ofsr x_o x_d x_s => Sys2Proof.Machine.execOfsr x_o x_d x_s s
  | .cdesc x_c x_s => Sys2Proof.Machine.execCdesc x_c x_s s
  | .cpy x_c x_h x_s x_d => Sys2Proof.Machine.execCpy x_c x_h x_s x_d s
  | .cpyg x_c x_h x_s x_d => Sys2Proof.Machine.execCpyg x_c x_h x_s x_d s
  | .cpygOb x_c x_h x_s x_d => Sys2Proof.Machine.execCpygOb x_c x_h x_s x_d s
  | .cpyx x_c x_h x_s x_d => Sys2Proof.Machine.execCpyx x_c x_h x_s x_d s
  | .cpyb x_c x_h x_s x_d => Sys2Proof.Machine.execCpyb x_c x_h x_s x_d s
  | .cpys x_c x_h x_s x_d => Sys2Proof.Machine.execCpys x_c x_h x_s x_d s
  | .cpyo x_c x_h x_s x_d => Sys2Proof.Machine.execCpyo x_c x_h x_s x_d s
  | .pfill x_c x_h x_s x_d => Sys2Proof.Machine.execPfill x_c x_h x_s x_d s
  | .cadd x_h x_v x_s => Sys2Proof.Machine.execCadd x_h x_v x_s s
  | .caddImm x_h x_i x_s x_j => Sys2Proof.Machine.execCaddImm x_h x_i x_s x_j s
  | .cwait x_h x_v x_s => Sys2Proof.Machine.execCwait x_h x_v x_s s
  | .ctest x_h x_v x_s x_n => Sys2Proof.Machine.execCtest x_h x_v x_s x_n s
  | .cread x_h x_v x_s => Sys2Proof.Machine.execCread x_h x_v x_s s
  | .amoAdd x_d x_a x_b x_w x_s => Sys2Proof.Machine.execAmoAdd x_d x_a x_b x_w x_s s
  | .amoMin x_d x_a x_b x_w x_s => Sys2Proof.Machine.execAmoMin x_d x_a x_b x_w x_s s
  | .amoMax x_d x_a x_b x_w x_s => Sys2Proof.Machine.execAmoMax x_d x_a x_b x_w x_s s
  | .amoAnd x_d x_a x_b x_w x_s => Sys2Proof.Machine.execAmoAnd x_d x_a x_b x_w x_s s
  | .amoOr x_d x_a x_b x_w x_s => Sys2Proof.Machine.execAmoOr x_d x_a x_b x_w x_s s
  | .amoXor x_d x_a x_b x_w x_s => Sys2Proof.Machine.execAmoXor x_d x_a x_b x_w x_s s
  | .amoXchg x_d x_a x_b x_w x_s => Sys2Proof.Machine.execAmoXchg x_d x_a x_b x_w x_s s
  | .amocas x_d x_a x_b x_w x_s => Sys2Proof.Machine.execAmocas x_d x_a x_b x_w x_s s
  | .coll x_c x_h x_s x_d => Sys2Proof.Machine.execColl x_c x_h x_s x_d s
  | .qapp x_h x_v x_s x_n => Sys2Proof.Machine.execQapp x_h x_v x_s x_n s
  | .cbcfg x_h x_s x_d => Sys2Proof.Machine.execCbcfg x_h x_s x_d s
  | .cbal x_h x_v x_n => Sys2Proof.Machine.execCbal x_h x_v x_n s
  | .cbalNb x_h x_v x_p x_n => Sys2Proof.Machine.execCbalNb x_h x_v x_p x_n s
  | .cbput x_c x_h x_s x_d => Sys2Proof.Machine.execCbput x_c x_h x_s x_d s
  | .cbst x_h x_v x_f => Sys2Proof.Machine.execCbst x_h x_v x_f s
  | .cbdrop x_h x_v => Sys2Proof.Machine.execCbdrop x_h x_v s
  | .bundleDispatch => Sys2Proof.Machine.execBundleDispatch s
  | .bundleFetch => Sys2Proof.Machine.execBundleFetch s
  | .takeCommit => Sys2Proof.Machine.execTakeCommit s
  | .translationWalk x_va => Sys2Proof.Machine.execTranslationWalk x_va s
  | .tinvAck x_core => Sys2Proof.Machine.execTinvAck x_core s
  | .consumingLoadWake x_core => Sys2Proof.Machine.execConsumingLoadWake x_core s
  | .cwaitWake x_core => Sys2Proof.Machine.execCwaitWake x_core s
  | .cbalWake x_core => Sys2Proof.Machine.execCbalWake x_core s
  | .spawnShotStart x_core => Sys2Proof.Machine.execSpawnShotStart x_core s
  | .copyComplete x_op => Sys2Proof.Machine.execCopyComplete x_op s
  | .streamFetch x_core x_sd => Sys2Proof.Machine.execStreamFetch x_core x_sd s
  | .streamEntryWrite x_core x_q x_entry => Sys2Proof.Machine.execStreamEntryWrite x_core x_q x_entry s
  | .wound x_core => Sys2Proof.Machine.execWound x_core s
  | .rdLines x_place x_hdr => Sys2Proof.Machine.execRdLines x_place x_hdr s
  | .wrLines x_place x_hdr x_data => Sys2Proof.Machine.execWrLines x_place x_hdr x_data s
  | .wrmLine x_place x_hdr x_data => Sys2Proof.Machine.execWrmLine x_place x_hdr x_data s
  | .scrubLines x_place x_hdr => Sys2Proof.Machine.execScrubLines x_place x_hdr s
  | .rawWr x_place x_hdr x_data => Sys2Proof.Machine.execRawWr x_place x_hdr x_data s
  | .zeroLines x_place x_hdr => Sys2Proof.Machine.execZeroLines x_place x_hdr s
  | .replyLines x_k => Sys2Proof.Machine.execReplyLines x_k s
  | .selection x_die => Sys2Proof.Machine.execSelection x_die s
  | .launchPacket x_die => Sys2Proof.Machine.execLaunchPacket x_die s
  | .copyPacket x_die => Sys2Proof.Machine.execCopyPacket x_die s
  | .addPacket x_die => Sys2Proof.Machine.execAddPacket x_die s
  | .waitPacket x_die => Sys2Proof.Machine.execWaitPacket x_die s
  | .barrierPacket x_die => Sys2Proof.Machine.execBarrierPacket x_die s
  | .controlYield x_die => Sys2Proof.Machine.execControlYield x_die s
  | .controlDisable x_die => Sys2Proof.Machine.execControlDisable x_die s
  | .shotPlacement x_die => Sys2Proof.Machine.execShotPlacement x_die s
  | .launchCompletion x_launch => Sys2Proof.Machine.execLaunchCompletion x_launch s
  | .completionAdd x_k => Sys2Proof.Machine.execCompletionAdd x_k s
  | .trapRecord x_core => Sys2Proof.Machine.execTrapRecord x_core s
  | .trapDelivery x_core => Sys2Proof.Machine.execTrapDelivery x_core s
  | .actionResume x_core => Sys2Proof.Machine.execActionResume x_core s
  | .actionSupply x_core => Sys2Proof.Machine.execActionSupply x_core s
  | .actionTerminate x_core => Sys2Proof.Machine.execActionTerminate x_core s
  | .eventDelivery x_k => Sys2Proof.Machine.execEventDelivery x_k s
  | .eventWaitExpiry x_k => Sys2Proof.Machine.execEventWaitExpiry x_k s
  | .timeSliceEnd x_die => Sys2Proof.Machine.execTimeSliceEnd x_die s
  | .preempt x_die x_out x_into => Sys2Proof.Machine.execPreempt x_die x_out x_into s
  | .graceExpiry x_core => Sys2Proof.Machine.execGraceExpiry x_core s
  | .faultResolution x_core => Sys2Proof.Machine.execFaultResolution x_core s
  | .fetchReply x_req x_va x_granted x_data => Sys2Proof.Machine.execFetchReply x_req x_va x_granted x_data s
  | .fetchResend x_asid x_va => Sys2Proof.Machine.execFetchResend x_asid x_va s
  | .pageMove x_asid x_va x_frame => Sys2Proof.Machine.execPageMove x_asid x_va x_frame s
  | .patrolScrub x_die x_raw => Sys2Proof.Machine.execPatrolScrub x_die x_raw s
  | .screenTestStart x_cluster => Sys2Proof.Machine.execScreenTestStart x_cluster s
  | .screenPreempt x_core => Sys2Proof.Machine.execScreenPreempt x_core s
  | .screenTest x_core x_pass => Sys2Proof.Machine.execScreenTest x_core x_pass s
  | .powerFailWarning => Sys2Proof.Machine.execPowerFailWarning s
  | .quiescence => Sys2Proof.Machine.execQuiescence s
  | .drain => Sys2Proof.Machine.execDrain s
  | .restart => Sys2Proof.Machine.execRestart s
  | .powerLevelDrop x_level => Sys2Proof.Machine.execPowerLevelDrop x_level s
  | .powerLevelRaise x_level => Sys2Proof.Machine.execPowerLevelRaise x_level s
  | .boot x_passed x_budget => Sys2Proof.Machine.execBoot x_passed x_budget s
  | .phaseLoss x_die => Sys2Proof.Machine.execPhaseLoss x_die s
  | .imbalanceSample x_pair x_up x_lo => Sys2Proof.Machine.execImbalanceSample x_pair x_up x_lo s
  | .imbalanceCapRaise x_pair => Sys2Proof.Machine.execImbalanceCapRaise x_pair s
  | .hotFlag x_cluster x_temp => Sys2Proof.Machine.execHotFlag x_cluster x_temp s
  | .thermalStep x_cluster x_temp => Sys2Proof.Machine.execThermalStep x_cluster x_temp s
  | .gatingHoldExpiry x_core => Sys2Proof.Machine.execGatingHoldExpiry x_core s
  | .wakeComplete x_core => Sys2Proof.Machine.execWakeComplete x_core s
  | .cbputDeposit x_op => Sys2Proof.Machine.execCbputDeposit x_op s
  | .cbDeadline x_die x_stream x_slot => Sys2Proof.Machine.execCbDeadline x_die x_stream x_slot s
  | .collComplete x_op x_contributions => Sys2Proof.Machine.execCollComplete x_op x_contributions s
  | .collAbort x_op => Sys2Proof.Machine.execCollAbort x_op s
  | .linkTraining x_port x_peerStep => Sys2Proof.Machine.execLinkTraining x_port x_peerStep s
  | .linkRetrainTimeout x_port => Sys2Proof.Machine.execLinkRetrainTimeout x_port s
  | .stepBoundary => Sys2Proof.Machine.execStepBoundary s
  | .hello x_datagram => Sys2Proof.Machine.execHello x_datagram s
  | .sessionOpen x_req x_proposal => Sys2Proof.Machine.execSessionOpen x_req x_proposal s
  | .create x_req x_arg => Sys2Proof.Machine.execCreate x_req x_arg s
  | .destroy x_req => Sys2Proof.Machine.execDestroy x_req s
  | .reclaim x_req x_ticket => Sys2Proof.Machine.execReclaim x_req x_ticket s
  | .expose x_req x_va x_pages x_write => Sys2Proof.Machine.execExpose x_req x_va x_pages x_write s
  | .remoteAppend x_req x_queue x_packet => Sys2Proof.Machine.execRemoteAppend x_req x_queue x_packet s
  | .remoteRead x_req x_va x_bytes => Sys2Proof.Machine.execRemoteRead x_req x_va x_bytes s
  | .remoteWrite x_req x_va x_data => Sys2Proof.Machine.execRemoteWrite x_req x_va x_data s
  | .remoteAdd x_req x_handle x_value => Sys2Proof.Machine.execRemoteAdd x_req x_handle x_value s
  | .recall x_req x_va => Sys2Proof.Machine.execRecall x_req x_va s
  | .give x_req x_va x_data => Sys2Proof.Machine.execGive x_req x_va x_data s
  | .attestReport x_req x_nonce => Sys2Proof.Machine.execAttestReport x_req x_nonce s
  | .attestCert x_req => Sys2Proof.Machine.execAttestCert x_req s
  | .mread x_req x_object x_offset x_bytes => Sys2Proof.Machine.execMread x_req x_object x_offset x_bytes s
  | .mwriteScrubRate x_req x_offset x_data => Sys2Proof.Machine.execMwriteScrubRate x_req x_offset x_data s
  | .slateDisposal x_req x_data => Sys2Proof.Machine.execSlateDisposal x_req x_data s
  | .sessionClose x_req => Sys2Proof.Machine.execSessionClose x_req s
  | .reclaimWindowExpiry x_asid => Sys2Proof.Machine.execReclaimWindowExpiry x_asid s
  | .upset x_raw x_bits => Sys2Proof.Machine.execUpset x_raw x_bits s
  | .recoveryImageWrite x_slot x_images => Sys2Proof.Machine.execRecoveryImageWrite x_slot x_images s
  | .linkRetrain x_port => Sys2Proof.Machine.execLinkRetrain x_port s
  | .queueRegistration x_asid x_header => Sys2Proof.Machine.execQueueRegistration x_asid x_header s

end Sys2Proof.Machine
end

