-- ==== Sys2Proof/Machine/Step.lean ====
section
/-! DEFINITION. One step of the module: one slot of one core, or one event (log 3). -/

namespace Sys2Proof.Machine

/-- A step: time passes, what moves next is chosen, and it runs. -/
def step (s : State) : Host.Outcome State Fault Refusal :=
  match s.tick.move with
  | (t, none) => .next t
  | (t, some (i, false)) => exec i t
  | (t, some (i, true)) =>
    match exec i t with
    | .next u => .next (u.afterSlot t)
    | .fault f => .fault f
    | .refused r => .refused r

/-- The state with the instruction whose bits are `w` stored as slot 0 of the bundle that is fetched next (log 1): a core
that runs a shot of context 1, or a control core for a firmware-only instruction, at the place of `fetchAt`. -/
def State.withFetchWord (s : State) (nbits w : Nat) : State := s.placeWord (BitVec.ofNat 32 (w % 2 ^ nbits))

end Sys2Proof.Machine
end

