-- ==== Sys2Proof/Safety.lean ====
section
/-! DEFINITION. What counts as a safe run: no step ends in a fault or a refusal; and the canonical form of the sparse parts
of the state, which every step keeps. -/

namespace Sys2Proof.Machine

/-- A run of `n` steps from a state ends in a state. -/
def SafeRun (n : Nat) (s : State) : Prop := ∃ t, Sys2Proof.core.run n s = .next t

/-- Memory is in its canonical form: addresses strictly rising, no byte listed that is 0. -/
abbrev Memory.wf (m : List Host.Cell) : Prop := Store.wf (0 : Byte) m = true

/-- The state's memory is in its canonical form. -/
abbrev State.MemWf (s : State) : Prop := Memory.wf s.st.mem

/-- Every sparse table of storage is in its canonical form. -/
def Storage.canonical (t : Storage) : Prop :=
  Memory.wf t.mem ∧ Store.wf false t.empty = true ∧ Store.wf 0 t.claims = true ∧ Store.wf false t.poison = true ∧
  Store.wf LineMeta.reset t.lines = true ∧ Store.wf 0 t.flaws = true ∧ Store.wf Watch.none t.watch = true

/-- The counters' tables are in their canonical form. -/
def Sync.canonical (y : Sync) : Prop :=
  Store.wf 0 y.value = true ∧ Store.wf 0 y.owner = true ∧ Store.wf false y.poisoned = true

/-- The counters' tables that a drain has kept are in their canonical form. -/
def Kept.canonical (x : Kept) : Prop := Store.wf 0 x.owner = true ∧ Store.wf false x.poisoned = true

/-- The sparse data of the state is in its canonical form: storage, counters, the cores that are listed, and the counters that a
drain has kept for the restart. -/
def State.Canonical (s : State) : Prop :=
  s.st.canonical ∧ s.sync.canonical ∧ Store.wf Core.reset s.cores = true ∧ ∀ x, s.mod.kept = some x → x.canonical

end Sys2Proof.Machine
end

