-- ==== Sys2Proof/Certificates/Slice0/Obligations.lean ====
section
/-! DEFINITION. The statements for the provers: what reset leaves, what decoding and encoding agree on, what a step runs, what
every instruction does where it completes and what it leaves, where it traps, and what every step keeps. -/

namespace Sys2Proof.Claims

open Sys2Proof.Machine

/-- No protected word of the core that moves holds an error (spec/27 R350). -/
def Clean (s : State) : Prop := s.core.upsets = []

/-- The instruction answers `t`; a core that had waited at the slot runs on. -/
def Answers (i : Instr) (s t : State) : Prop := exec i s = .next t.running

/-- The instruction raises a trap at its own slot and port (spec/25 R325). -/
def Traps (i : Instr) (s : State) (c : Cause) (detail : Nat) (w0 w1 : W64) : Prop :=
  exec i s = .next (s.raise { cause := c, detail := detail, w0 := w0, w1 := w1 })

/-- The instruction waits at its slot, and has no effect (spec/03 R44). -/
def Waits (i : Instr) (s : State) : Prop := exec i s = .next s.block

/-- The instruction writes `v` to x register `d` where lane 0 of the guard is 1, and has no effect where it is 0. -/
def WritesX (i : Instr) (s : State) (d : BitVec 5) (g : BitVec 3) (v : W64) : Prop :=
  Answers i s (if s.guard g then s.setX d v else s)

/-- What a register-only scalar instruction leaves: everything but x register `d`, and the wait it may have stood in. -/
def OnlyX (d : BitVec 5) (s t : State) : Prop :=
  (∀ k, k ≠ d → t.x k = s.x k) ∧
  (∃ x, t = ({ s with core := { s.core with x := x } } : State).running)

/-- The slot reads operand `a`, held when `h` is 1, then operand `b` (spec/15 R193, spec/11 R145). -/
def Reads2 (s : State) (a b : BitVec 6) (h : BitVec 1) (u : State) (x y : Lanes) : Prop :=
  ∃ s1, s.srcA a h = .ok (s1, x) ∧ s1.src b = .ok (u, y)

/-- A lane-wise slot of one source: where `a` reads as `x`, the active lanes of `d` receive `f` of the lane. -/
def Lanes1 (i : Instr) (s : State) (d a : BitVec 6) (g : BitVec 3) (h : BitVec 1) (f : W32 → W32) : Prop :=
  ∀ u t x, s.srcA a h = .ok (u, x) → u.dst d (s.p g) (Vector.ofFn fun k => f x[k]) = .ok t → Answers i s t

/-- A lane-wise slot of two sources. -/
def Lanes2 (i : Instr) (s : State) (d a b : BitVec 6) (g : BitVec 3) (h : BitVec 1) (f : W32 → W32 → W32) : Prop :=
  ∀ u t x y, Reads2 s a b h u x y → u.dst d (s.p g) (Vector.ofFn fun k => f x[k] y[k]) = .ok t → Answers i s t

/-- A lane-wise slot of one source that raises the flags of its active lanes (spec/15 R194). -/
def FlagLanes1 (i : Instr) (s : State) (d a : BitVec 6) (g : BitVec 3) (h : BitVec 1) (f : W32 → W32 × Flags) : Prop :=
  ∀ u t x, s.srcA a h = .ok (u, x) →
    (u.flag (flagsOf (s.p g) fun k => (f (x[k]?.getD 0)).2)).dst d (s.p g) (Vector.ofFn fun k => (f x[k]).1) = .ok t →
    Answers i s t

/-- A lane-wise slot of two sources that raises the flags of its active lanes. -/
def FlagLanes2 (i : Instr) (s : State) (d a b : BitVec 6) (g : BitVec 3) (h : BitVec 1)
    (f : W32 → W32 → W32 × Flags) : Prop :=
  ∀ u t x y, Reads2 s a b h u x y →
    (u.flag (flagsOf (s.p g) fun k => (f (x[k]?.getD 0) (y[k]?.getD 0)).2)).dst d (s.p g)
      (Vector.ofFn fun k => (f x[k] y[k]).1) = .ok t →
    Answers i s t

/-- An accumulating lane-wise slot: `d` is read after `a` and `b`, then written (spec/11 R148, spec/15 R197). -/
def FlagLanes3 (i : Instr) (s : State) (d a b : BitVec 6) (g : BitVec 3) (h : BitVec 1)
    (f : W32 → W32 → W32 → W32 × Flags) : Prop :=
  ∀ u v t x y z, Reads2 s a b h u x y → u.src d = .ok (v, z) →
    (v.flag (flagsOf (s.p g) fun k => (f (x[k]?.getD 0) (y[k]?.getD 0) (z[k]?.getD 0)).2)).dst d (s.p g)
      (Vector.ofFn fun k => (f x[k] y[k] z[k]).1) = .ok t →
    Answers i s t

/-- A comparison of lanes: the active lanes of p register `n` receive the result. -/
def Compares (i : Instr) (s : State) (n : BitVec 3) (a b : BitVec 6) (g : BitVec 3) (h : BitVec 1)
    (f : W32 → W32 → Bool) : Prop :=
  ∀ u x y, Reads2 s a b h u x y → ∃ r : W64, (∀ k : Fin 64, r.getLsbD k = f x[k] y[k]) ∧
    Answers i s (u.setP n ((r &&& s.p g) ||| (u.p n &&& ~~~ s.p g)))

end Sys2Proof.Claims

section

open Sys2Proof Sys2Proof.Machine Sys2Proof.Claims

/-! Reset, decoding, the step, and what every step keeps. -/

/-- R125, R127, R323, R380, R395, R352: what reset leaves, with no step between: FMT, MOM, PRIO and PWRCAP of a context at their
reset values, the sticky flags clear, CURLIM 375, the scrub rates, the clock and the step at 0, and storage with nothing listed:
every presence bit FULL, nothing poisoned, no counter owned. The model's choices: storage that is not listed reads 0 (log 2),
every core is idle with no shot and its o registers 0 (log 6), and the module is not booted yet (log 7). -/
def Obligations.ResetState : Prop :=
  State.reset.core.fmt = 0x0000000088880000#64 ∧ State.reset.core.flags = 0 ∧
  State.reset.core.mom = 0x000000003F800000#64 ∧ State.reset.core.nvclamp = false ∧
  (∀ a, (State.reset.context a).prio = 0x000007D000010003#64 ∧ (State.reset.context a).pwrcap = 0x0000000000640A00#64 ∧
    (State.reset.context a).live = false) ∧
  (∀ d, (State.reset.die d).curlim = 375) ∧ State.reset.mod.clk = 0 ∧ State.reset.mod.step = 0 ∧
  State.reset.mod.udp = 47103 ∧ State.reset.mod.boot = .off ∧
  ([0, 1, 2, 3, 4, 6].map fun l => State.reset.mod.scrub.toList.getD l 0) = [10, 10, 10, 600, 3600, 86400] ∧
  (∀ n, (State.reset.coreAt n).run = .idle ∧ (State.reset.coreAt n).shot = none ∧
    ∀ k, (State.reset.coreAt n).o.getD k ⟨0, 0⟩ = ⟨0, 0⟩) ∧
  (∀ g, State.reset.isEmpty g = false ∧ State.reset.claimer g = none ∧ State.reset.poisoned g = false) ∧
  (∀ r, State.reset.memByte r = 0) ∧ (∀ k, Store.get 0 State.reset.sync.owner k = 0)

/-- The sparse data of the reset state is in its canonical form. -/
def Obligations.ResetCanonical : Prop := State.reset.Canonical

/-- Every step that answers a next state keeps the canonical form of storage, of the counters and of the list of cores. -/
def Obligations.StepKeepsCanonical : Prop :=
  ∀ s t : State, s.Canonical → step s = .next t → t.Canonical

/-- The stores of the model behave as tables: reading after setting, and every operation keeps the canonical form. -/
def Obligations.StoreLaws : Prop :=
  ∀ (m : Store Byte) (i j n : Nat) (v : Byte) (vs : List Byte), Store.wf 0 m = true →
    Store.get 0 (Store.set 0 m i v) j = (if j = i then v else Store.get 0 m j) ∧
    Store.wf 0 (Store.set 0 m i v) = true ∧
    Store.get 0 (Store.setList 0 m i vs) j = (if i ≤ j ∧ j < i + vs.length then vs.getD (j - i) 0 else Store.get 0 m j) ∧
    Store.wf 0 (Store.setList 0 m i vs) = true ∧
    Store.get 0 (Store.fill 0 m i n v) j = (if i ≤ j ∧ j < i + n then v else Store.get 0 m j) ∧
    Store.getList 0 m i n = (List.range n).map (fun k => Store.get 0 m (i + k)) ∧
    (∀ m', Store.wf 0 m' = true → (∀ k, Store.get 0 m k = Store.get 0 m' k) → m = m')

/-- A step in which a core moves: time passes; a core whose gang has an earlier slot to issue does nothing else (R34); the slots
that its ports hold are tried first (none where none is held), and a core that this stops or restarts does nothing else; a slot
at which the core is blocked may be held by its port instead of being tried (which, is a free choice: log 98), and a slot that
waits for a held one is not tried; else the step runs the instruction that the latched bundle issues next, and goes on to the
next slot. That one slot moves at a step, and that a blocking slot is held by its port, are the model's choices (logs 3 and 98).
-/
def Sys2Proof.Claims.StepRunsTheSlot : Prop :=
  ∀ (s : State) (b : Bundle) (i : Instr), s.agenda = [] → s.core.gated = false → s.core.pending = none →
    s.core.evicting = false → s.core.bundle = some b → (s.core.run = .running ∨ s.core.run = .blocked) →
    let u := s.tick.trySlippedAll
    (s.lags = true → step s = .next s.tick) ∧
    (s.core.slipped = [] → u = s.tick) ∧
    (s.lags = false → u.core.run ≠ s.core.run ∨ u.core.bundle ≠ some b → step s = .next u) ∧
    (s.lags = false → u.core.run = s.core.run → u.core.bundle = some b →
      (u.canSlip = true → u.free 1 % 2 = 1 → step s = .next u.slip) ∧
      (u.canSlip = false ∨ u.free 1 % 2 = 0 → u.core.rep = none → slotInstr b.word b.slotNo = .ok i →
        (u.waitsForHeld i = true → step s = .next u.block) ∧
        (u.waitsForHeld i = false → step s = (match exec i u with
          | .next v => .next (v.afterSlot u)
          | .fault f => .fault f
          | .refused r => .refused r)) ∧
      ∀ v : State, u.core.slipped = [] → v.core.slipped = [] → v.afterSlot u = v.advanceSlot u.cur u.core.issued))

/-- R132, R142, R400, R37, R94: a core that runs, with no bundle latched and in no gang or loop, whose bundle at the pc can be
fetched, breaks no check of dispatch and is not held back: what stands pushed is written first where the bundle asks for it, the
take boundary stands before it where it begins a take, and the step latches the bundle and runs its first slot, decoded from the
16 bytes at the pc. That one slot moves at a step is the model's choice (log 3). -/
def Sys2Proof.Claims.StepFetchesAndRuns : Prop :=
  ∀ (s u v : State) (w : BitVec 128), s.agenda = [] → s.core.gated = false → s.core.pending = none →
    s.core.evicting = false → s.core.bundle = none → s.core.run = .running → s.core.gang = none → s.core.loop = none →
    s.core.slipped = [] →
    s.tick.fetch = .ok (u, w) → u.core = { s.core with tlb := u.core.tlb } → u.cur = s.cur → u.refuses w = none →
    u.heldBack w = false →
    (let f := if flushesBefore w then u.flushStreams else u
     (if beginsTakeAt w && f.core.take.started && !f.skipsLoop w false then f.boundaryAll else .ok f) = .ok v) →
    v.core.run = .running → v.core.rep = none → v.core.gang = none → v.core.slipped = [] → v.heldBack w = false →
    v.cur = s.cur → v.core.issued = s.core.issued →
    step s = (match exec (slotOf w ((slotOrder w).getD 0 0)) (v.latch w false) with
      | .next t => .next (t.advanceSlot s.cur (s.core.issued + 1))
      | .fault f => .fault f
      | .refused r => .refused r)

/-- A step at an event that the agenda holds next runs that event; that one moves at a step is the model's choice (log 3). -/
def Sys2Proof.Claims.StepRunsTheEvent : Prop :=
  ∀ (s : State) (i : Instr) (rest : List Move), s.agenda = .event i :: rest →
    step s = exec i { s.tick with agenda := rest }

/-- R137: the failures at dispatch in their order: ILLEGAL of the lowest slot, then PRIV of a firmware-only slot of a context,
then the BUNDLE conditions; each is raised with PORT 6 and the slot. -/
def Sys2Proof.Claims.DispatchChecks : Prop :=
  ∀ (s : State) (w : BitVec 128),
    (∀ t k, s.refuses w = some (t, k) → s.dispatchWord w = s.raiseAt t 6 k) ∧
    (∀ k d, k < 4 → illegalSlot s.feat w k = some d → (∀ j, j < k → illegalSlot s.feat w j = none) →
      s.refuses w = some ({ cause := .illegal, detail := d }, k)) ∧
    ((∀ k, k < 4 → illegalSlot s.feat w k = none) → s.cur < 2048 → ∀ k, k < 4 → firmwareOnly (slotOf w k) = true →
      (∀ j, j < k → firmwareOnly (slotOf w j) = false) → s.refuses w = some ({ cause := .priv, detail := 1 }, k)) ∧
    ((∀ k, k < 4 → illegalSlot s.feat w k = none) → (∀ k, k < 4 → firmwareOnly (slotOf w k) = false) →
      s.refuses w = (badBundle w (s.core.loop.any fun l => l.head != s.core.pc)).map
        fun e => ({ cause := .bundle, detail := e.1 }, e.2))

/-- Decoding reads the words that the encoding tables give (R138-R141, R150-R154): one of each class, with and without an EXT
byte, and the reserved ones are refused by name. -/
def Obligations.DecodeWords : Prop :=
  decodeSlot 0x000A61C1#32 none = .error .resField ∧
  decodeSlot 0x000A61C0#32 none = .ok (.add 5 6 3 4) ∧
  decodeSlot 0x08026FFF#32 none = .ok (.addi 1 6 ⟨0xFFF, none⟩) ∧
  decodeSlot 0x08026FFF#32 (some 0x80) = .ok (.addi 1 6 ⟨0xFFF, some 0x80⟩) ∧
  decodeSlot 0x09CA0000#32 (some 0xF8) = .ok (.lih 5 ⟨0, some 0xF8⟩) ∧
  decodeSlot 0xFFFFFFFF#32 none = .ok .nop ∧
  decodeSlot 0x10800000#32 none = .ok .doneShot ∧
  decodeSlot 0x20C61C80#32 none = .ok (.vfmaF32 6 7 8 0 0) ∧
  decodeSlot 0x40146900#32 none = .ok (.mma 2 8 13 0 1) ∧
  decodeSlot 0x800000F8#32 none = .ok (.ext 0 0 0 0xF8) ∧
  (decodeSlot 0x1E000000#32 none).isOk = false ∧ (decodeSlot 0xE0000000#32 none).isOk = false

/-- Decode and encode agree: for every well-formed instruction that has a slot word, decoding the word with the byte of its
extension gives the instruction, with every operand at every value that the encoding admits. The three forms of hibw share their
words, since x[xa] holds the OP (R192): those words decode to the first, whose meaning reads the OP. -/
def Obligations.DecodeEncode : Prop :=
  (∀ (i : Instr) (w : W32), i.wf = true → encode i = some w →
    (∀ d a b, i ≠ .hibwClearEntry d a b ∧ i ≠ .hibwClearAll d a b) → decodeSlot w (extByte i) = .ok i) ∧
  (∀ d a b, encode (.hibwClearEntry d a b) = encode (.hibwSetEntry d a b) ∧
    encode (.hibwClearAll d a b) = encode (.hibwSetEntry d a b)) ∧
  (∀ (s : State) (d a b : BitVec 5), s.core.upsets = [] →
    exec (.hibwClearEntry d a b) s = exec (.hibwSetEntry d a b) s ∧
    exec (.hibwClearAll d a b) s = exec (.hibwSetEntry d a b) s)

/-! Scalar arithmetic. -/

/-- R164: the two-operand results of opcodes 0x00 to 0x15, taken modulo 2^64, with the count in bits 5:0 of x[xb]; the guard of
R161; a write to x0 is ignored (`setX`). -/
def Sys2Proof.Claims.ScalarTwoOperandResults : Prop :=
  ∀ (s : State) (d a b : BitVec 5) (g : BitVec 3), Clean s →
    WritesX (.add d a b g) s d g (BitVec.ofNat 64 ((s.x a).toNat + (s.x b).toNat)) ∧
    WritesX (.sub d a b g) s d g (BitVec.ofInt 64 ((s.x a).toInt - (s.x b).toInt)) ∧
    WritesX (.mul d a b g) s d g (BitVec.ofNat 64 ((s.x a).toNat * (s.x b).toNat)) ∧
    WritesX (.andR d a b g) s d g (s.x a &&& s.x b) ∧
    WritesX (.orR d a b g) s d g (s.x a ||| s.x b) ∧
    WritesX (.xorR d a b g) s d g (s.x a ^^^ s.x b) ∧
    WritesX (.andn d a b g) s d g (s.x a &&& ~~~ s.x b) ∧
    WritesX (.shl d a b g) s d g (s.x a <<< (s.x b &&& 63#64)) ∧
    WritesX (.shr d a b g) s d g (s.x a >>> (s.x b &&& 63#64)) ∧
    WritesX (.sra d a b g) s d g ((s.x a).sshiftRight (s.x b &&& 63#64).toNat) ∧
    WritesX (.rotl d a b g) s d g ((s.x a).rotateLeft (s.x b &&& 63#64).toNat) ∧
    (∀ n : BitVec 4, n.toNat ≤ 8 → WritesX (.lea d a b g n) s d g (s.x a + s.x b * BitVec.ofNat 64 (2 ^ n.toNat)))

/-- R164: mulh gives bits 127:64 of the exact product under the three choices of signedness; min and max compare signed or
unsigned. -/
def Sys2Proof.Claims.ScalarHighProductAndExtremes : Prop :=
  ∀ (s : State) (d a b : BitVec 5) (g : BitVec 3), Clean s →
    WritesX (.mulh d a b g 0) s d g (((s.x a).signExtend 128 * (s.x b).signExtend 128).extractLsb' 64 64) ∧
    WritesX (.mulh d a b g 1) s d g (((s.x a).setWidth 128 * (s.x b).setWidth 128).extractLsb' 64 64) ∧
    WritesX (.mulh d a b g 2) s d g (((s.x a).signExtend 128 * (s.x b).setWidth 128).extractLsb' 64 64) ∧
    WritesX (.min d a b g 0) s d g (BitVec.ofInt 64 (Min.min (s.x a).toInt (s.x b).toInt)) ∧
    WritesX (.min d a b g 1) s d g (BitVec.ofNat 64 (Min.min (s.x a).toNat (s.x b).toNat)) ∧
    WritesX (.max d a b g 0) s d g (BitVec.ofInt 64 (Max.max (s.x a).toInt (s.x b).toInt)) ∧
    WritesX (.max d a b g 1) s d g (BitVec.ofNat 64 (Max.max (s.x a).toNat (s.x b).toNat))

/-- R165: div and rem never trap; a zero divisor gives all ones and the dividend; the signed overflow gives −2^63 and 0; else
the quotient is truncated toward zero and the remainder is a − q × b. -/
def Obligations.ScalarDivisionResults : Prop :=
  ∀ (s : State) (d a b : BitVec 5) (g : BitVec 3), Clean s →
    let x := s.x a
    let y := s.x b
    (y = 0 → ∀ f : BitVec 4, f.toNat ≤ 1 →
      WritesX (.div d a b g f) s d g 0xFFFFFFFFFFFFFFFF#64 ∧ WritesX (.rem d a b g f) s d g x) ∧
    (x.toInt = -2 ^ 63 → y.toInt = -1 →
      WritesX (.div d a b g 0) s d g 0x8000000000000000#64 ∧ WritesX (.rem d a b g 0) s d g 0) ∧
    (y ≠ 0 → ¬ (x.toInt = -2 ^ 63 ∧ y.toInt = -1) → ∃ q r : W64,
      q.toInt = x.toInt.tdiv y.toInt ∧ r.toInt = x.toInt - q.toInt * y.toInt ∧
      WritesX (.div d a b g 0) s d g q ∧ WritesX (.rem d a b g 0) s d g r) ∧
    (y ≠ 0 → ∃ q r : W64, x.toNat = q.toNat * y.toNat + r.toNat ∧ r.toNat < y.toNat ∧
      WritesX (.div d a b g 1) s d g q ∧ WritesX (.rem d a b g 1) s d g r)

/-- R164: clz, ctz and popc count over 64 bits or over bits 31:0; sext and zext take the low 8, 16 or 32 bits. -/
def Sys2Proof.Claims.ScalarUnaryResults : Prop :=
  ∀ (s : State) (d a : BitVec 5) (g : BitVec 3), Clean s →
    (∀ f : BitVec 4, f.toNat ≤ 1 →
      let w := if f = 0 then 64 else 32
      (∃ n, n ≤ w ∧ (∀ k, k < n → (s.x a).getLsbD (w - 1 - k) = false) ∧
        (n < w → (s.x a).getLsbD (w - 1 - n) = true) ∧ WritesX (.clz d a g f) s d g (BitVec.ofNat 64 n)) ∧
      (∃ n, n ≤ w ∧ (∀ k, k < n → (s.x a).getLsbD k = false) ∧
        (n < w → (s.x a).getLsbD n = true) ∧ WritesX (.ctz d a g f) s d g (BitVec.ofNat 64 n)) ∧
      WritesX (.popc d a g f) s d g
        (BitVec.ofNat 64 (((List.range w).map fun k => ((s.x a).getLsbD k).toNat).foldl (· + ·) 0))) ∧
    WritesX (.sext d a g 0) s d g (((s.x a).setWidth 8).signExtend 64) ∧
    WritesX (.sext d a g 1) s d g (((s.x a).setWidth 16).signExtend 64) ∧
    WritesX (.sext d a g 2) s d g (((s.x a).setWidth 32).signExtend 64) ∧
    WritesX (.zext d a g 0) s d g (s.x a &&& 0xFF#64) ∧
    WritesX (.zext d a g 1) s d g (s.x a &&& 0xFFFF#64) ∧
    WritesX (.zext d a g 2) s d g (s.x a &&& 0xFFFFFFFF#64)

/-- R166, R167: the immediate forms, with an imm12 or the imm20 that an EXT byte makes of it, sign-extended, and lih with an
imm17 or imm25. -/
def Sys2Proof.Claims.ScalarImmediateResults : Prop :=
  ∀ (s : State) (d a : BitVec 5) (i : Imm 12) (l : Imm 17) (n : BitVec 6), Clean s →
    Answers (.addi d a i) s (s.setX d (s.x a + i.sext)) ∧
    Answers (.andi d a i) s (s.setX d (s.x a &&& i.sext)) ∧
    Answers (.ori d a i) s (s.setX d (s.x a ||| i.sext)) ∧
    Answers (.xori d a i) s (s.setX d (s.x a ^^^ i.sext)) ∧
    Answers (.shli d a n) s (s.setX d (s.x a <<< n)) ∧
    Answers (.shri d a n) s (s.setX d (s.x a >>> n)) ∧
    Answers (.srai d a n) s (s.setX d ((s.x a).sshiftRight n.toNat)) ∧
    Answers (.lih d l) s (s.setX d (l.sext * 0x100000#64)) ∧
    (∀ b : BitVec 12, (Imm.mk b none).sext.toInt = b.toInt) ∧
    (∀ (e : Byte) (b : BitVec 12), (Imm.mk b (some e)).sext.toInt = (e ++ b).toInt) ∧
    (∀ b : BitVec 17, (Imm.mk b none).sext.toInt = b.toInt) ∧
    (∀ (e : Byte) (b : BitVec 17), (Imm.mk b (some e)).sext.toInt = (e ++ b).toInt)

/-- R168, R169: cmp writes lane 0 of pN under the six conditions and leaves its other lanes, and a write to p0 is ignored; sel
chooses by lane 0 of pN; both are guarded. -/
def Obligations.CompareAndSelect : Prop :=
  ∀ (s : State) (n : BitVec 3) (a b d : BitVec 5) (g : BitVec 3) (c : BitVec 4), Clean s →
    (c.toNat ≤ 5 → ∃ t, Answers (.cmp n a b g c) s t ∧
      (s.guard g = false → t = s) ∧
      (s.guard g = true →
        (∀ k, t.x k = s.x k) ∧ (∀ k, k ≠ n → t.p k = s.p k) ∧ t.st.mem = s.st.mem ∧
        (n = 0 → t = s) ∧
        (n ≠ 0 → (∀ j, 1 ≤ j → (t.p n).getLsbD j = (s.p n).getLsbD j) ∧
          ((t.p n).getLsbD 0 = true ↔
            (c = 0 ∧ s.x a = s.x b) ∨ (c = 1 ∧ s.x a ≠ s.x b) ∨ (c = 2 ∧ (s.x a).toInt < (s.x b).toInt) ∨
            (c = 3 ∧ (s.x b).toInt ≤ (s.x a).toInt) ∨ (c = 4 ∧ (s.x a).toNat < (s.x b).toNat) ∨
            (c = 5 ∧ (s.x b).toNat ≤ (s.x a).toNat))))) ∧
    WritesX (.sel d a b g n) s d g (if (s.p n).getLsbD 0 then s.x a else s.x b)

/-- R147, R161, R164-R169: what the scalar register instructions leave: a next state differs from the state before at most in x
register `d` and in the core's wait. -/
def Sys2Proof.Claims.ScalarFrame : Prop :=
  ∀ (s t : State) (d a b : BitVec 5) (g n : BitVec 3) (f : BitVec 4) (i : Imm 12) (l : Imm 17) (k : BitVec 6),
    Clean s → ∀ j ∈ [Instr.add d a b g, .sub d a b g, .mul d a b g, .mulh d a b g f, .div d a b g f, .rem d a b g f,
      .andR d a b g, .orR d a b g, .xorR d a b g, .andn d a b g, .shl d a b g, .shr d a b g, .sra d a b g, .rotl d a b g,
      .min d a b g f, .max d a b g f, .clz d a g f, .ctz d a g f, .popc d a g f, .sext d a g f, .zext d a g f,
      .lea d a b g f, .sel d a b g n, .addi d a i, .andi d a i, .ori d a i, .xori d a i, .shli d a k, .shri d a k,
      .srai d a k, .lih d l], exec j s = .next t → OnlyX d s t

/-- R350: a scalar slot that reads no word in error has its effect although other words of the core hold errors, and a word that
it overwrites whole holds no error after it. -/
def Sys2Proof.Claims.ScalarResultOverUpset : Prop :=
  ∀ (s : State) (d a b : BitVec 5) (g : BitVec 3), s.core.upsets ≠ [] → s.guard g = true → d ≠ 0 →
    (∀ e ∈ s.core.upsets, e.1 ≠ g.toNat + 2 ^ 16 ∧ e.1 / 2 ≠ a.toNat ∧ e.1 / 2 ≠ b.toNat) →
    ∃ t, exec (.add d a b g) s = .next t ∧ t.x d = s.x a + s.x b ∧
      ∀ e, e ∈ t.core.upsets ↔ e ∈ s.core.upsets ∧ e.1 / 2 ≠ d.toNat

/-! Control transfer, headers, takes, spawn, done and trap. -/

/-- R170: the targets of jmp, jal, jr, br and the six compare-and-branches, their conditions, the return address, and ALIGN at a
jr whose target has bits 3:0 nonzero. A taken branch sets the target of its bundle (`goto`). -/
def Obligations.BranchEffects : Prop :=
  ∀ (s : State) (d a b : BitVec 5) (p g : BitVec 3) (n : BitVec 1) (o : Imm 17) (c : Imm 18) (e : Imm 12), Clean s →
    Answers (.jmp o) s (s.goto (s.core.pc + o.sext * 16)) ∧
    Answers (.jal d o) s ((s.goto (s.core.pc + o.sext * 16)).setX d (s.core.pc + 16)) ∧
    (s.guard g = false → Answers (.jr d a g) s s) ∧
    (s.guard g = true → (s.x a).toNat % 16 = 0 →
      Answers (.jr d a g) s ((s.goto (s.x a)).setX d (s.core.pc + 16))) ∧
    (s.guard g = true → (s.x a).toNat % 16 ≠ 0 → Traps (.jr d a g) s .align 1 (s.x a) 0) ∧
    Answers (.br p n c) s (if (s.p p).getLsbD 0 ≠ (n == 1) then s.goto (s.core.pc + c.sext * 16) else s) ∧
    Answers (.brcEq b a e) s (if s.x a = s.x b then s.goto (s.core.pc + e.sext * 16) else s) ∧
    Answers (.brcNe b a e) s (if s.x a ≠ s.x b then s.goto (s.core.pc + e.sext * 16) else s) ∧
    Answers (.brcLt b a e) s (if (s.x a).toInt < (s.x b).toInt then s.goto (s.core.pc + e.sext * 16) else s) ∧
    Answers (.brcGe b a e) s (if (s.x b).toInt ≤ (s.x a).toInt then s.goto (s.core.pc + e.sext * 16) else s) ∧
    Answers (.brcLtu b a e) s (if (s.x a).toNat < (s.x b).toNat then s.goto (s.core.pc + e.sext * 16) else s) ∧
    Answers (.brcGeu b a e) s (if (s.x b).toNat ≤ (s.x a).toNat then s.goto (s.core.pc + e.sext * 16) else s)

/-- R141, R142, R171: after the last slot of a bundle the next bundle is the target of its taken branch, which ends a captured
loop; with no branch and no loop it is the bundle that follows; at the end of a captured body with a trip count above 1, the
count is one less and the loop's first bundle follows; with a count of 1 the loop ends with the count at 0. Where a protected
word of the count holds an error that cannot be corrected, the take is replayed instead (R350). -/
def Obligations.AfterBundle : Prop :=
  ∀ (s : State) (b : Bundle), s.core.bundle = some b → s.core.run = .running → s.core.rep = none → b.skip = false →
    b.slot = 3 →
    let t := s.advanceSlot s.cur s.core.issued
    (∀ w n, s.core.upsets = [(w, n)] → inWords (s.core.tripWords b) w = true → 2 ≤ n → t = s.replay w) ∧
    ((∀ e ∈ s.core.upsets, inWords (s.core.tripWords b) e.1 = false) →
    t.core.bundle = none ∧
    (∀ a, b.target = some a → t.core.pc = a ∧ t.core.loop = none ∧ t.core.x = s.core.x) ∧
    (b.target = none → s.core.loop = none → t.core.pc = s.core.pc + 16 ∧ t.core.x = s.core.x) ∧
    (∀ l, b.target = none → s.core.loop = some l → l.xt ≠ 0 → (s.core.pc - l.head).toNat / 16 = l.len →
      (1 < (s.x l.xt).toNat → t.core.pc = l.head ∧ t.x l.xt = s.x l.xt - 1 ∧ t.core.loop = some l) ∧
      ((s.x l.xt).toNat = 1 → t.core.pc = s.core.pc + 16 ∧ t.x l.xt = 0 ∧ t.core.loop = none)))

/-- R132, R139, R140, R143, R172: nop and the take mark have no effect of their own; an EXT, REP or LOOP header with SYNC waits
while copies of earlier bundles have accesses to perform, then writes what stands pushed to write streams and drops the held
operands; without it an EXT or REP header has no effect of its own. -/
def Sys2Proof.Claims.HeadersAndNop : Prop :=
  ∀ (s : State) (c b a m : BitVec 8) (n : BitVec 16) (l : BitVec 6) (r : BitVec 5), Clean s →
    Answers .nop s s ∧ Answers .takeMark s s ∧
    Answers (.ext 0 c b a) s s ∧ Answers (.rep 0 n m) s s ∧
    (s.partsOut s.core.issued = true → Waits (.ext 1 c b a) s ∧ Waits (.rep 1 n m) s ∧ Waits (.loop 1 l r) s) ∧
    (s.partsOut s.core.issued = false →
      let t := { s.flushStreams with core := { s.flushStreams.core with hold := Vector.replicate 2 none } }
      Answers (.ext 1 c b a) s t ∧ Answers (.rep 1 n m) s t ∧ Answers (.loop 1 l r) s (t.enterLoop l r))

/-- R141: a LOOP header that begins a loop latches the trip-count register, the length and the bundle; with a trip count of 0 it
skips the body; replayed, it has no effect. -/
def Sys2Proof.Claims.LoopHeader : Prop :=
  ∀ (s : State) (l : BitVec 6) (r : BitVec 5) (b : Bundle), Clean s → s.core.bundle = some b →
    (b.replay = true → Answers (.loop 0 l r) s s) ∧
    (b.replay = false → s.x r = 0 →
      Answers (.loop 0 l r) s { s with core := { s.core with bundle := some { b with skip := true } } } ∧
      ∀ u : State, u.core.bundle = some { b with skip := true } → u.core.run = .running →
        (u.advanceSlot u.cur u.core.issued).core.pc = u.core.pc + BitVec.ofNat 64 (16 * (field (slotWord b.word 0) 25 20 + 1)) ∧
        (u.advanceSlot u.cur u.core.issued).core.bundle = none) ∧
    (b.replay = false → s.x r ≠ 0 →
      Answers (.loop 0 l r) s
        { s with core := { s.core with loop := some { head := s.core.pc, len := l.toNat, xt := r, body := [(0, b.word)] } } })

/-- R36, R173: a spawn that meets no failing check reserves the core for the take, with the entry and x2 to x9 as they are read
then, and makes it resident for the context; onto a gated core it waits for the wake. -/
def Sys2Proof.Claims.SpawnReserves : Prop :=
  ∀ (s : State) (a b : BitVec 5), Clean s → s.core.run ≠ .blocked → s.core.gang = none →
    canonical (s.x b) = true → (s.x b).toNat % 16 = 0 → (s.x a).toNat ≤ 15 → s.cur < 2048 →
    (s.x a).toNat ≠ s.cur % 16 →
    let n := s.cur / 16 * 16 + (s.x a).toNat
    (s.coreAt n).shot = none → s.keeps n = false → s.awaited n = false → (s.coreAt n).reserved = none →
    s.available n = true →
    let t := s.reserve n (s.x b)
    ((s.coreAt n).gated = false → Answers (.spawn a b) s t) ∧
    ((s.coreAt n).gated = true → exec (.spawn a b) s = .next t.block) ∧
    (t.coreAt n).resident = s.asid ∧ t.core.x = s.core.x ∧ t.st.mem = s.st.mem ∧
    ∃ r, (t.coreAt n).reserved = some r ∧ r.by_ = s.cur ∧ r.asid = s.asid ∧ r.entry = s.x b ∧ r.ready = false ∧
      r.args = [s.x 2, s.x 3, s.x 4, s.x 5, s.x 6, s.x 7, s.x 8, s.x 9]

/-- R173: the checks of a spawn, in the order written; a core at whose shot a returning group or a waiting event aims counts as
one that holds a shot (log 25). -/
def Sys2Proof.Claims.SpawnChecks : Prop :=
  ∀ (s : State) (a b : BitVec 5), Clean s → s.core.run ≠ .blocked →
    let n := s.cur / 16 * 16 + (s.x a).toNat
    (s.core.gang.isSome = true → Traps (.spawn a b) s .diverge 0 (BitVec.ofNat 64 s.gangPos) 0) ∧
    (s.core.gang = none →
      (canonical (s.x b) = false → Traps (.spawn a b) s .page 1 (s.x b) 0) ∧
      (canonical (s.x b) = true →
        ((s.x b).toNat % 16 ≠ 0 → Traps (.spawn a b) s .align 1 (s.x b) 0) ∧
        ((s.x b).toNat % 16 = 0 →
          (15 < (s.x a).toNat → Traps (.spawn a b) s .spawnbusy 5 0 0) ∧
          ((s.x a).toNat ≤ 15 → s.cur < 2048 →
            ((s.x a).toNat = s.cur % 16 → Traps (.spawn a b) s .spawnbusy 3 0 0) ∧
            ((s.x a).toNat ≠ s.cur % 16 →
              ((s.coreAt n).shot.isSome = true ∨ s.keeps n = true ∨ s.awaited n = true →
                Traps (.spawn a b) s .spawnbusy 1 0 0) ∧
              ((s.coreAt n).shot = none → s.keeps n = false → s.awaited n = false →
                ((s.coreAt n).reserved.isSome = true → Traps (.spawn a b) s .spawnbusy 2 0 0) ∧
                ((s.coreAt n).reserved = none → s.available n = false → Traps (.spawn a b) s .spawnbusy 4 0 0)))))))

/-- R38, R39, R42, R174: `done` of a shot in no gang waits while copies of its take have watched bytes to write; then, with its
linked q registers empty, it writes what stands pushed, commits the take and ends the shot: the core holds no shot, its
descriptors are unbound and its core is idle, or waits for ACTION to be read after a handler; with an entry left it raises
BUNDLE QNOTEMPTY and the shot does not end. -/
def Obligations.DoneEndsShot : Prop :=
  ∀ s : State, s.core.gang = none →
    (s.watchedOut = true → exec .doneShot s = .next s.block) ∧
    (s.watchedOut = false → s.qLeft = true → exec .doneShot s = .next (s.raiseAt { cause := .bundle, detail := 6 } 6 0)) ∧
    (s.watchedOut = false → s.qLeft = false → exec .doneShot s = .next s.finishShot ∧
      (∀ k, (s.finishShot.sd k).bound = false) ∧
      s.finishShot.core.tser = s.core.tser + 1 ∧ s.finishShot.core.take.log = [] ∧
      (∀ h, s.core.shot = some h → h.kind = .placed ∨ h.kind = .spawned →
        s.finishShot.core.run = .idle ∧ s.finishShot.core.shot = none) ∧
      (∀ h, s.core.shot = some h → h.kind = .handler ∨ h.kind = .event →
        s.finishShot.core.run = .ended ∧ s.finishShot.core.shot = some h))

/-- R175: trap raises USER when x[xa] is nonzero, with its code zero-extended and x[xa] as detail words, and does nothing
otherwise. -/
def Sys2Proof.Claims.TrapInstruction : Prop :=
  ∀ (s : State) (a : BitVec 5) (i : Imm 12), Clean s →
    (s.x a = 0 → Answers (.trapUser a i) s s) ∧
    (s.x a ≠ 0 → Traps (.trapUser a i) s .user 0 i.zext (s.x a)) ∧
    (∀ b : BitVec 12, (Imm.mk b none).zext.toNat = b.toNat) ∧
    (∀ (e : Byte) (b : BitVec 12), (Imm.mk b (some e)).zext.toNat = e.toNat * 4096 + b.toNat)

/-- R325, R327, R328, R40: a trap of a shot in no gang stops its core: CAUSE holds the code, detail, port and slot, TINFO the
bundle's address; TAKEPC and TSER are those of the take; the take's log, held adds and claims are gone, its bytes are not
published, and x, p, v and m registers keep their values, but a loop's trip count is restored. -/
def Sys2Proof.Claims.TrapEntry : Prop :=
  ∀ (s : State) (c : Trap) (port slot : Nat), s.core.gang = none → c.detail < 256 → port < 16 → slot < 4 →
    let t := s.raiseAt c port slot
    t.cur = s.cur ∧ t.core.run = .stopped ∧ t.core.why = .trap ∧
    t.core.cause.toNat = c.cause.code + 256 * c.detail + 65536 * port + 1048576 * slot ∧
    t.core.tinfo = s.core.pc ∧ t.core.dw0 = c.w0 ∧ t.core.dw1 = c.w1 ∧
    t.core.takepc = s.core.takepc ∧ t.core.tser = s.core.tser ∧ t.core.pc = s.core.takepc ∧
    t.core.take.log = [] ∧ t.core.take.overlay = [] ∧ t.core.bundle = none ∧
    t.core.p = s.core.p ∧ t.core.v = s.core.v ∧ t.core.m = s.core.m ∧ t.core.o = s.core.image.o ∧
    (s.core.image.loop = none → t.core.x = s.core.x) ∧
    (∀ n, t.q n = []) ∧
    (∀ h ∈ t.sync.held, h.agent ≠ s.cur ∨ h.op.isSome = true)

/-! Control registers, mode writes, fences, timing reads, and the firmware-only slots. -/

/-- R178, R149, R126, R181, R229, R361: what ctlr reads of each of the 20 registers outside deterministic mode, HIBLST on a
control core; an unlisted number raises ILLEGAL with detail RESFIELD. That the PRIO of a control core is that of the context
named by its CTX is the model's reading (log 36). -/
def Sys2Proof.Claims.ControlRegisterReads : Prop :=
  ∀ (s : State) (d : BitVec 5), Clean s → s.det = false →
    let reads := fun (n : BitVec 12) (v : W64) => Answers (.ctlr d n) s (s.setX d v)
    reads 0x000 (s.core.fmt ||| ((s.core.flags.setWidth 64) <<< 32)) ∧
    reads 0x001 (s.core.mom ||| (if s.core.nvclamp then 0x800000000#64 else 0#64)) ∧
    reads 0x010 s.core.cause ∧ reads 0x011 s.core.tinfo ∧ reads 0x012 s.core.takepc ∧ reads 0x013 s.core.tser ∧
    reads 0x020 s.parkReg ∧ reads 0x021 (BitVec.ofNat 64 s.core.take.log.length) ∧
    reads 0x030 (s.context (field s.core.ctx 15 0)).feat ∧ reads 0x031 s.mod.step ∧ reads 0x032 s.mod.clk ∧
    (s.cur < 2048 → reads 0x033 (BitVec.ofNat 64 (s.cur + 2 ^ 15 * (s.cur / 256 - (s.dies s.ctx).1) +
      (match s.core.gang with | none => 0 | some g => 2 ^ 24 + 2 ^ 20 * g.pos)))) ∧
    reads 0x040 s.core.ctx ∧ reads 0x041 (s.context (field s.core.ctx 15 0)).prio ∧
    reads 0x050 (s.context (field s.core.ctx 15 0)).pwrcap ∧
    reads 0x051 (BitVec.ofNat 64 (Min.min s.myDie.curlim (375 * (12 - s.myDie.lost) / 12))) ∧
    reads 0x052 (BitVec.ofNat 64 (s.myDie.lost * 4096 + s.mod.level)) ∧
    reads 0x060 (BitVec.ofNat 64 (s.myDie.round % 2 ^ 32 * 2 ^ 32 + s.core.passes % 2 ^ 32)) ∧
    reads 0x070 s.mod.hibbud ∧ (2048 ≤ s.cur → reads 0x071 s.hiblst) ∧
    (∀ n, Cr.ofNumber n.toNat = none → Traps (.ctlr d n) s .illegal 3 0 0)

/-- R178, R149, R125, R127, R7: a firmware ctlw writes every field that is not reserved of CAUSE, TINFO, TAKEPC, TSER, CTX, STEP
(at the next step boundary) and PRIO; issued in a context it raises PRIV; the other registers raise ILLEGAL. That PRIO is that
of the context whose ASID stands in the control core's CTX is the model's reading (log 36). -/
def Obligations.ControlRegisterWrites : Prop :=
  ∀ (s : State) (a : BitVec 5), Clean s →
    (2048 ≤ s.cur →
      Answers (.ctlw a 0x010) s { s with core := { s.core with cause := s.x a &&& 0x1FFFFFF#64 } } ∧
      Answers (.ctlw a 0x011) s { s with core := { s.core with tinfo := s.x a } } ∧
      Answers (.ctlw a 0x012) s { s with core := { s.core with takepc := s.x a } } ∧
      Answers (.ctlw a 0x013) s { s with core := { s.core with tser := s.x a } } ∧
      Answers (.ctlw a 0x040) s { s with core := { s.core with ctx := s.x a &&& 0xFC000FFFF#64 } } ∧
      Answers (.ctlw a 0x031) s { s with mod := { s.mod with stepNext := some (s.x a) } } ∧
      Answers (.ctlw a 0x041) s (s.setContext (field s.core.ctx 15 0)
        { s.context (field s.core.ctx 15 0) with prio := s.x a &&& 0x0000FFFF0001FF03#64 })) ∧
    (s.cur < 2048 → ∀ n ∈ [0x010#12, 0x011#12, 0x012#12, 0x013#12, 0x031#12, 0x040#12, 0x041#12],
      Traps (.ctlw a n) s .priv 1 0 0) ∧
    (∀ n ∈ [0x000#12, 0x001#12, 0x020#12, 0x021#12, 0x030#12, 0x032#12, 0x033#12, 0x050#12, 0x051#12, 0x052#12, 0x060#12,
      0x070#12, 0x071#12, 0x002#12, 0xFFF#12], Traps (.ctlw a n) s .illegal 3 0 0)

/-- R126, R128, R129, R179: a setfmt of a valid value puts it in flight behind the bundle's own and four more, with its flag
bits as the flags; setmom likewise; an invalid value raises FMT and writes nothing. In a gang the lead's value is every
member's: a member waits until the lead's slot has written it (log 88). That a K of minus zero is invalid is the model's reading
(log 21). -/
def Sys2Proof.Claims.ModeWrites : Prop :=
  ∀ (s : State) (a : BitVec 5), Clean s →
    (s.lead ≠ s.cur → s.leadPast = false → Waits (.setfmt a) s ∧ Waits (.setmom a) s) ∧
    (s.lead ≠ s.cur → s.leadPast = true → ∀ f m, s.setFmt (s.coreAt s.lead).lastFmt = .ok f →
      s.setMom (s.coreAt s.lead).lastMom = .ok m → Answers (.setfmt a) s f ∧ Answers (.setmom a) s m) ∧
    (s.lead = s.cur →
    let v := s.x a
    let good := (v &&& 7#64).toNat ≤ 4 ∧ (v.toNat / 8 % 8) ≤ 4 ∧ v.toNat / 256 % 8 ≤ 4 ∧ v.toNat / 2048 % 4 ≠ 3 ∧
      2 ≤ v.toNat / 2 ^ 16 % 16 ∧ v.toNat / 2 ^ 16 % 16 ≤ 8 ∧ 1 ≤ v.toNat / 2 ^ 20 % 16 ∧
      v.toNat / 2 ^ 20 % 16 ≤ v.toNat / 2 ^ 16 % 16 ∧ 2 ≤ v.toNat / 2 ^ 24 % 16 ∧ v.toNat / 2 ^ 24 % 16 ≤ 8 ∧
      1 ≤ v.toNat / 2 ^ 28 % 16 ∧ v.toNat / 2 ^ 28 % 16 ≤ v.toNat / 2 ^ 24 % 16
    (good → fmtAbsent s.feat v = false → Answers (.setfmt a) s { s with core := { s.core with
      fmtWrites := s.core.fmtWrites ++ [{ value := v &&& 0xFFFFFF7F#64, left := 5 }]
      flags := BitVec.ofNat 6 (v.toNat / 2 ^ 32 % 64), fmtSet := true } }) ∧
    (¬ good → Traps (.setfmt a) s .fmt 3 0 0) ∧
    (v.toNat % 2 ^ 32 < 0x7F800000 → Answers (.setmom a) s { s with core := { s.core with
      momWrites := s.core.momWrites ++ [{ value := v &&& 0x7FFFFFFFF#64, left := 5 }]
      nvclamp := v.getLsbD 35, momSet := true } }) ∧
    (0x7F800000 ≤ v.toNat % 2 ^ 32 → Traps (.setmom a) s .fmt 3 0 0))

/-- R128, R129: a mode write takes effect five bundles after its own bundle began, the latest of several in force; the flags
that a bundle raises join those of the bundles before it, but those raised in a setfmt's own bundle are lost. -/
def Sys2Proof.Claims.ModeTiming : Prop :=
  ∀ (c : Core) (v : W64),
    (c.fmtWrites = [{ value := v, left := 1 }] → c.endBundle.fmt = v ∧ c.endBundle.fmtWrites = []) ∧
    (∀ n, 1 < n → c.fmtWrites = [{ value := v, left := n }] →
      c.endBundle.fmt = c.fmt ∧ c.endBundle.fmtWrites = [{ value := v, left := n - 1 }]) ∧
    (c.fmtSet = false → c.endBundle.flags = c.flags ||| c.flagsNew) ∧
    (c.fmtSet = true → c.endBundle.flags = c.flags) ∧ c.endBundle.flagsNew = 0 ∧
    (c.momSet = false → c.endBundle.nvclamp = (c.nvclamp || c.nvclampNew)) ∧
    (c.momSet = true → c.endBundle.nvclamp = c.nvclamp)

/-- R94, R184, R185: a fence with class C, and a wait with a copy limit below 15, stand while more copies of earlier bundles
than the limit are outstanding; else they go on, and class S or a store limit writes what stands pushed to write streams. No
load, store or M operation is ever outstanding, so the other classes and limits hold nothing: the model's choice (log 8). -/
def Obligations.FenceAndWait : Prop :=
  ∀ (s : State) (c : BitVec 4) (n : BitVec 3) (nl ns nc nt : BitVec 4), Clean s →
    let out := s.copiesOut s.core.issued
    (c.getLsbD 3 = true → 0 < out → Waits (.fence c n) s) ∧
    (c.getLsbD 3 = false ∨ out = 0 → Answers (.fence c n) s (if c.getLsbD 1 then s.flushStreams else s)) ∧
    (nc.toNat < 15 → nc.toNat < out → Waits (.wait nl ns nc nt) s) ∧
    (nc.toNat = 15 ∨ out ≤ nc.toNat → Answers (.wait nl ns nc nt) s (if ns.toNat < 15 then s.flushStreams else s))

/-- R180-R183: rdclk, rdid, rdstep and the timed ctlr read outside deterministic mode; in it they take the first unused entry of
the supply latch for their bundle and slot, and raise DETREAD where there is none; rdstep.next waits until STEP is another. -/
def Sys2Proof.Claims.TimingReads : Prop :=
  ∀ (s : State) (d : BitVec 5), Clean s →
    (s.det = false →
      Answers (.rdclk d) s (s.setX d s.mod.clk) ∧ Answers (.rdstep d) s (s.setX d s.mod.step) ∧
      Answers (.rdid d) s (s.setX d s.coreid)) ∧
    (s.det = true → (∀ e ∈ s.core.latch, e.addr = s.core.pc → e.slot = s.where_.1 → e.used = true) →
      Traps (.rdclk d) s .detread 0 0 0 ∧ Traps (.rdid d) s .detread 0 0 0 ∧ Traps (.rdstep d) s .detread 0 0 0 ∧
      Traps (.ctlr d 0x032) s .detread 0 0 0 ∧ Traps (.ctlr d 0x033) s .detread 0 0 0 ∧
      Traps (.ctlr d 0x031) s .detread 0 0 0) ∧
    (s.det = true → ∀ e r, s.core.latch = e :: r → e.addr = s.core.pc → e.slot = s.where_.1 → e.used = false →
      let t := { s with core := { s.core with latch := { e with used := true } :: r } }
      Answers (.rdclk d) s (t.setX d e.value) ∧ Answers (.rdid d) s (t.setX d e.value) ∧
      Answers (.rdstep d) s (t.setX d e.value) ∧ Answers (.ctlr d 0x032) s (t.setX d e.value)) ∧
    (s.core.awaitStep = none → exec (.rdstepNext d) s =
      .next ({ s with core := { s.core with awaitStep := some s.mod.step } } : State).block) ∧
    (s.core.awaitStep = some s.mod.step → Waits (.rdstepNext d) s) ∧
    (∀ v, s.core.awaitStep = some v → v ≠ s.mod.step →
      Answers (.rdstepNext d) s (({ s with core := { s.core with awaitStep := none } } : State).setX d s.mod.step))

/-- R65, R187: tinv drops every cached translation of the ASID that the range meets, in the caches of every core and cluster,
and ends when no access of the ASID is outstanding, an open take's watched writes among them, whatever page they touch (the
model's reading, log 61); a start that is not a multiple of 4096 raises ALIGN. -/
def Sys2Proof.Claims.TranslationInvalidate : Prop :=
  ∀ (s : State) (a b : BitVec 5), Clean s →
    let asid := (s.x b).toNat % 65536
    let pages := (s.x b).toNat / 65536
    let t := s.dropTlb asid (s.x a) pages
    ((s.x a).toNat % 4096 ≠ 0 → Traps (.tinv a b) s .align 1 (s.x a) 0) ∧
    ((s.x a).toNat % 4096 = 0 → t.accessesOpen asid = false → Answers (.tinv a b) s t) ∧
    ((s.x a).toNat % 4096 = 0 → t.accessesOpen asid = true → exec (.tinv a b) s = .next t.block) ∧
    (∀ e, e ∈ t.core.tlb ↔ e ∈ s.core.tlb ∧ ¬ (e.asid = asid ∧ (pages = 0 ∨
      (e.base < (s.x a).toNat + 4096 * pages ∧ (s.x a).toNat < e.base + e.size)))) ∧
    t.core.x = s.core.x ∧ t.st.mem = s.st.mem

/-- R188: retake of a stopped core of the die restarts it at TAKEPC with its restart image and returns 0; of another core, or
one that is not stopped, it returns 1 and has no effect. -/
def Sys2Proof.Claims.RetakeRestarts : Prop :=
  ∀ (s : State) (d a : BitVec 5), Clean s →
    let n := (s.x a).toNat % 2048
    (dieOf n = dieOf s.cur → n ≠ s.cur → (s.coreAt n).run = .stopped → s.core.run = .running →
      ∃ t : State, Answers (.retake d a) s (t.setX d 0) ∧
      t.cur = s.cur ∧ (s.core.ballast = none → t.core = s.core) ∧ t.core.x = s.core.x ∧ t.core.pc = s.core.pc ∧
      t.st.mem = s.st.mem ∧ (t.coreAt n).run = .running ∧
      (t.coreAt n).pc = (s.coreAt n).takepc ∧ (t.coreAt n).o = (s.coreAt n).image.o ∧
      (t.coreAt n).v = (s.coreAt n).v ∧ (t.coreAt n).p = (s.coreAt n).p) ∧
    (dieOf n ≠ dieOf s.cur ∨ (s.coreAt n).run ≠ .stopped → Answers (.retake d a) s (s.setX d 1))

/-- R188: ctxsv and ctxld return 1 for a core of another die (the model's reading, log 60) or in the wrong state and 2 for an
address that is not a multiple of 64, with no effect; ctxsv of a part whose destination passes its checks writes the part's
bytes and returns 0; ctxld loads them and returns 0, or 3 and loads nothing where a source granule is poisoned. -/
def Sys2Proof.Claims.CoreImageTransfers : Prop :=
  ∀ (s : State) (d a b : BitVec 5) (p : BitVec 4), Clean s →
    let n := (s.x a).toNat % 2048
    let r := (s.coreAt n).run
    (dieOf n ≠ dieOf s.cur ∨ r ≠ .stopped → Answers (.ctxsv d a b p) s (s.setX d 1)) ∧
    (dieOf n ≠ dieOf s.cur ∨ (r ≠ .stopped ∧ r ≠ .idle) → Answers (.ctxld d a b p) s (s.setX d 1)) ∧
    (dieOf n = dieOf s.cur → r = .stopped → (s.x b).toNat % 64 ≠ 0 →
      Answers (.ctxsv d a b p) s (s.setX d 2) ∧ Answers (.ctxld d a b p) s (s.setX d 2)) ∧
    (dieOf n = dieOf s.cur → r = .stopped → (s.x b).toNat % 64 = 0 →
      (∀ u ts, s.check { write := true } [(s.x b, partSize p.toNat)] none = .ok (u, ts) →
        (u.flushStreams.coreAt n).upsets = [] →
        Answers (.ctxsv d a b p) s
          ((u.flushStreams.writeRun ts ((u.flushStreams.coreAt n).partBytes p.toNat) false).setX d 0)) ∧
      (∀ u ts, s.check {} [(s.x b, partSize p.toNat)] none = .ok (u, ts) →
        let w := u.flushStreams.settle (ts.map (·.raw))
        let bad := ts.any fun x => x.raw % 16 == 0 && w.bad x.raw
        (bad = true → Answers (.ctxld d a b p) s (w.setX d 3)) ∧
        (bad = false → ∃ t : State, Answers (.ctxld d a b p) s (t.setX d 0) ∧ t.st = w.st ∧
          (n ≠ s.cur → t.core = w.core ∧
            (s.coreAt n = w.coreAt n → (t.coreAt n).run = .stopped ∧
              t.coreAt n = (w.coreAt n).loadPart p.toNat (ts.map fun x => w.byte x.raw))))))

/-- R186, R189, R190, R353: dstw, also of a core that holds a running shot, and scrb return 1 and all ones for an invalid raw
address, with no effect; dstw of a valid one writes the code word that the image at x[xb] gives; scrb returns the number of
uncorrectable words. A pad of a shed die is answered as an invalid address, and a range past the end of its level by all ones
(the model's choices, log 94). -/
def Sys2Proof.Claims.RawWritesAndScrubs : Prop :=
  ∀ (s : State) (d a b : BitVec 5), Clean s →
    ((s.rawValid (s.x a) = false ∨ s.coreRuns (s.x a) = true ∨ s.retained (s.x a).toNat = true) →
      Answers (.dstw d a b) s (s.setX d 1)) ∧
    (s.rawValid (s.x a) = true → s.coreRuns (s.x a) = false → s.retained (s.x a).toNat = false → ∀ u bs,
      s.load [(s.x b, imageSize (s.x a))] none = .ok (u, bs) → Answers (.dstw d a b) s ((u.writeRaw (s.x a) bs).setX d 0)) ∧
    (let l := (s.x a).toNat / 2 ^ 60
     let n := (s.x b).toNat
     let invalid := s.rawValid (s.x a) = false ∨ s.retained (s.x a).toNat = true ∨ l = 5 ∨ n % scrubUnit l ≠ 0 ∨ (l = 6 ∧ (s.x a).toNat % 4096 ≠ 0) ∨
       levelSize l < (s.x a).toNat % 2 ^ 49 + n
     (invalid → Answers (.scrb d a b) s (s.setX d (BitVec.allOnes 64))) ∧
     (¬ invalid → Answers (.scrb d a b) s
       ((s.scrubRange (s.x a).toNat n).1.setX d (BitVec.ofNat 64 (s.scrubRange (s.x a).toNat n).2)))) ∧
    (∀ k, s.st.flaws = [] → levelOf k < 3 → s.scrubRange k 8 = (s, 0))

/-- R191, R320, R393, R395: pwrw writes PWRCAP of a live context, SHARE 0 reading as 1 and CLKCAP held to 1 to 10, and balances
anew the pairs on which the context has a shot, so that a NOBAL holds at once: no core of such a pair has ballast after it; it
is ignored for another ASID; it writes CURLIM of the die that x[xa] names. -/
def Sys2Proof.Claims.PowerRegisterWrites : Prop :=
  ∀ (s : State) (a b : BitVec 5), Clean s →
    let n := (s.x a).toNat % 65536
    let v := (s.x b).toNat
    ((s.context n).live = false → Answers (.pwrwPwrcap a b) s s) ∧
    ((s.context n).live = true →
      let u := s.setContext n { s.context n with
        pwrcap := BitVec.ofNat 64 (Max.max 1 (v / 65536 % 256) * 65536 + Min.min 10 (Max.max 1 (v / 256 % 256)) * 256 + v % 2) }
      let t := (u.pairsWith n).foldl State.balanceStart u
      Answers (.pwrwPwrcap a b) s t ∧
      (u.pairsWith n = [] → t = u) ∧
      (Store.wf Core.reset s.cores = true → ∀ k, u.pairsWith n = [k] → u.noBallast k = true →
        ∀ c ∈ pairCores k, (t.coreAt c).ballast = none)) ∧
    Answers (.pwrwCurlim a b) s
      (s.setDie ((s.x a).toNat % 8) { s.die ((s.x a).toNat % 8) with curlim := v % 65536 })

/-- R192, R360: the three edits of the hibernation list, by OP: an entry set, an entry cleared, all cleared; 1 for reserved
bits, OP 11 or a set of no pages, 2 for a bad range, 3 while the list is held, in that order (the model's reading, log 59). -/
def Sys2Proof.Claims.HibernationListEdits : Prop :=
  ∀ (s : State) (d a b : BitVec 5), Clean s →
    let x := (s.x a).toNat
    let op := x / 2 ^ 16 % 4
    let bad1 := op = 3 ∨ (op = 0 ∧ x / 2 ^ 24 = 0) ∨ x / 2 ^ 18 % 64 ≠ 0
    let r := (s.x b).toNat
    let bad2 := op = 0 ∧ (s.rawValid (s.x b) = false ∨ (r / 2 ^ 60 ≠ 3 ∧ r / 2 ^ 60 ≠ 4) ∨ r % 4096 ≠ 0 ∨
      levelSize (r / 2 ^ 60) < r % 2 ^ 49 + 4096 * (x / 2 ^ 24))
    ∀ i ∈ [Instr.hibwSetEntry d a b, .hibwClearEntry d a b, .hibwClearAll d a b],
      (bad1 → Answers i s (s.setX d 1)) ∧
      (¬ bad1 → bad2 → Answers i s (s.setX d 2)) ∧
      (¬ bad1 → ¬ bad2 → s.mod.hibheld = true → Answers i s (s.setX d 3)) ∧
      (¬ bad1 → ¬ bad2 → s.mod.hibheld = false → ∃ l,
        Answers i s (({ s with mod := { s.mod with hiblist := l } } : State).setX d 0) ∧
        (op = 2 → l = []) ∧
        (op = 1 → l = Store.set none s.mod.hiblist (x % 256) none) ∧
        (op = 0 → l = Store.set none s.mod.hiblist (x % 256)
          (some { raw := s.x b, pages := x / 2 ^ 24, prio := x / 256 % 16, flags := x / 4096 % 16 })))

/-! Vector operands and lanes. -/

/-- R148, R151, R145: what a V source operand reads: a v register; a linked q register, popped, with QUNF where it is empty; the
same peeked; the zero vector; the operand held on the port, with ILLEGAL NOLATCH where there is none; with h, operand a is held
on the port. -/
def Sys2Proof.Claims.VectorSources : Prop :=
  ∀ (s : State) (c : BitVec 6) (e : Lanes) (r : List Lanes),
    (c.toNat < 32 → s.src c = .ok (s, s.v c.toNat)) ∧
    (32 ≤ c.toNat → c.toNat < 48 → s.boundTo (c.toNat - 32) = none →
      (s.q (c.toNat - 32) = e :: r → ∃ t, s.src c = .ok (t, e) ∧ t.q (c.toNat - 32) = r ∧
        (∀ n, n ≠ c.toNat - 32 → t.q n = s.q n) ∧ t.core.v = s.core.v ∧ t.core.x = s.core.x ∧ t.st = s.st) ∧
      (s.q (c.toNat - 32) = [] → s.src c = trap .qunf)) ∧
    (48 ≤ c.toNat → c.toNat < 56 → s.boundTo (c.toNat - 48) = none →
      (s.q (c.toNat - 48) = e :: r → s.src c = .ok (s, e)) ∧
      (s.q (c.toNat - 48) = [] → s.src c = trap .qunf)) ∧
    (c = 62 → s.src c = .ok (s, Vector.replicate 64 0)) ∧
    (c = 63 → (s.core.hold.getD s.vport none = some e → s.src c = .ok (s, e)) ∧
      (s.core.hold.getD s.vport none = none → s.src c = trap .illegal 5)) ∧
    (∀ t, s.src c = .ok (t, e) → s.srcA c 0 = .ok (t, e) ∧
      ∃ w, s.srcA c 1 = .ok (w, e) ∧ w.core.hold.getD t.vport none = some e ∧ w.core.v = t.core.v ∧ w.core.q = t.core.q)

/-- R193, R148: what a V destination receives under a lane mask: the active lanes of a v register; one pushed entry of a linked
q register, with zero in the inactive lanes, and QOVF where it holds eight; the discard destination nothing. -/
def Sys2Proof.Claims.VectorDestinations : Prop :=
  ∀ (s : State) (c : BitVec 6) (m : W64) (e : Lanes),
    (c.toNat < 32 → ∃ t, s.dst c m e = .ok t ∧
      (∀ k : Fin 64, (t.v c.toNat)[k] = if m.getLsbD k then e[k] else (s.v c.toNat)[k]) ∧
      (∀ n, n ≠ c.toNat → t.v n = s.v n) ∧ t.core.x = s.core.x ∧ t.core.q = s.core.q ∧ t.st = s.st) ∧
    (32 ≤ c.toNat → c.toNat < 48 → s.boundTo (c.toNat - 32) = none →
      ((s.q (c.toNat - 32)).length < 8 → ∃ t f, s.dst c m e = .ok t ∧ t.q (c.toNat - 32) = s.q (c.toNat - 32) ++ [f] ∧
        (∀ k : Fin 64, f[k] = if m.getLsbD k then e[k] else 0) ∧ t.core.v = s.core.v ∧ t.st = s.st) ∧
      (8 ≤ (s.q (c.toNat - 32)).length → s.dst c m e = trap .qovf)) ∧
    (c = 62 → s.dst c m e = .ok s)

/-- R197, R198: the f32 lanes: sums, products and fused forms by one rounding to nearest even with the flags of the active
lanes; minimum, maximum, magnitude, opposite and class, with no flag. -/
def Obligations.VectorFloatLanes : Prop :=
  ∀ (s : State) (d a b : BitVec 6) (g : BitVec 3) (h : BitVec 1), Clean s →
    FlagLanes2 (.vaddF32 d a b g h) s d a b g h (fun x y => finish ((ofF32 x).add (ofF32 y))) ∧
    FlagLanes2 (.vsubF32 d a b g h) s d a b g h (fun x y => finish ((ofF32 x).add (ofF32 y).negate)) ∧
    FlagLanes2 (.vmulF32 d a b g h) s d a b g h (fun x y => finish ((ofF32 x).mul (ofF32 y))) ∧
    FlagLanes3 (.vfmaF32 d a b g h) s d a b g h (fun x y z => finish ((ofF32 x).fma (ofF32 y) (ofF32 z))) ∧
    FlagLanes3 (.vfmsF32 d a b g h) s d a b g h (fun x y z => finish ((ofF32 x).negate.fma (ofF32 y) (ofF32 z))) ∧
    Lanes2 (.vminF32 d a b g h) s d a b g h f32Min ∧ Lanes2 (.vmaxF32 d a b g h) s d a b g h f32Max ∧
    Lanes1 (.vabsF32 d a g h) s d a g h (fun x => if isNaN x then 0x7FC00000#32 else x &&& 0x7FFFFFFF#32) ∧
    Lanes1 (.vnegF32 d a g h) s d a g h (fun x => if isNaN x then 0x7FC00000#32 else x ^^^ 0x80000000#32) ∧
    Lanes1 (.vclass d a g h) s d a g h f32Class

/-- R199, R200: the integer, logic and shift lanes, modulo 2^32 and with no flag; the immediate shifts act on every lane. -/
def Sys2Proof.Claims.VectorIntegerLanes : Prop :=
  ∀ (s : State) (d a b : BitVec 6) (g : BitVec 3) (h : BitVec 1) (n : BitVec 5) (i : Imm 10), Clean s →
    Lanes2 (.vaddI32 d a b g h) s d a b g h (fun x y => x + y) ∧
    Lanes2 (.vsubI32 d a b g h) s d a b g h (fun x y => x - y) ∧
    Lanes2 (.vmulI32 d a b g h) s d a b g h (fun x y => x * y) ∧
    Lanes2 (.vminI32 d a b g h) s d a b g h (fun x y => if x.toInt ≤ y.toInt then x else y) ∧
    Lanes2 (.vmaxI32 d a b g h) s d a b g h (fun x y => if x.toInt ≤ y.toInt then y else x) ∧
    Lanes2 (.vminN32 d a b g h) s d a b g h (fun x y => if x.toNat ≤ y.toNat then x else y) ∧
    Lanes2 (.vmaxN32 d a b g h) s d a b g h (fun x y => if x.toNat ≤ y.toNat then y else x) ∧
    Lanes1 (.vabsI32 d a g h) s d a g h (fun x => BitVec.ofNat 32 x.toInt.natAbs) ∧
    Lanes1 (.vnegI32 d a g h) s d a g h (fun x => BitVec.ofInt 32 (-x.toInt)) ∧
    Lanes2 (.vand d a b g h) s d a b g h (fun x y => x &&& y) ∧
    Lanes2 (.vor d a b g h) s d a b g h (fun x y => x ||| y) ∧
    Lanes2 (.vxor d a b g h) s d a b g h (fun x y => x ^^^ y) ∧
    Lanes1 (.vnot d a g h) s d a g h (fun x => ~~~ x) ∧
    Lanes2 (.vshl d a b g h) s d a b g h (fun x y => x <<< (y &&& 31#32)) ∧
    Lanes2 (.vshr d a b g h) s d a b g h (fun x y => x >>> (y &&& 31#32)) ∧
    Lanes2 (.vsra d a b g h) s d a b g h (fun x y => x.sshiftRight (y &&& 31#32).toNat) ∧
    Lanes1 (.vshlImm d a n) s d a 0 0 (fun x => x <<< n) ∧
    Lanes1 (.vshrImm d a n) s d a 0 0 (fun x => x >>> n) ∧
    Lanes1 (.vsraImm d a n) s d a 0 0 (fun x => x.sshiftRight n.toNat) ∧
    (∀ t, s.dst d (BitVec.allOnes 64) (Vector.replicate 64 (i.sext.setWidth 32)) = .ok t → Answers (.vbcastImm d i) s t)

/-- R201, R123, R124: the eight transcendental lanes, with the flags of the active lanes; and the values that the Specials
column of R124 gives. -/
def Obligations.VectorTranscendentalLanes : Prop :=
  ∀ (s : State) (d a : BitVec 6) (g : BitVec 3) (h : BitVec 1), Clean s →
    FlagLanes1 (.vrcp d a g h) s d a g h f32Rcp ∧ FlagLanes1 (.vrsqrt d a g h) s d a g h f32Rsqrt ∧
    FlagLanes1 (.vsqrt d a g h) s d a g h f32Sqrt ∧ FlagLanes1 (.vexp2 d a g h) s d a g h f32Exp2 ∧
    FlagLanes1 (.vlog2 d a g h) s d a g h f32Log2 ∧ FlagLanes1 (.vncdf d a g h) s d a g h f32Ncdf ∧
    FlagLanes1 (.vnpdf d a g h) s d a g h f32Npdf ∧ FlagLanes1 (.vtanh d a g h) s d a g h f32Tanh ∧
    (∀ f ∈ [f32Rcp, f32Rsqrt, f32Sqrt, f32Exp2, f32Log2, f32Ncdf, f32Npdf, f32Tanh], ∀ x, isNaN x = true →
      f x = (0x7FC00000#32, 0)) ∧
    (∀ x : W32, x.msb = true → isNaN x = false → x ≠ 0x80000000#32 → ∀ f ∈ [f32Rsqrt, f32Sqrt, f32Log2],
      f x = (0x7FC00000#32, fINV)) ∧
    f32Rcp 0 = (0x7F800000#32, 0) ∧ f32Rcp 0x80000000#32 = (0xFF800000#32, 0) ∧
    f32Rcp 0x7F800000#32 = (0, 0) ∧ f32Rcp 0xFF800000#32 = (0x80000000#32, 0) ∧
    f32Rsqrt 0 = (0x7F800000#32, 0) ∧ f32Rsqrt 0x80000000#32 = (0xFF800000#32, 0) ∧ f32Rsqrt 0x7F800000#32 = (0, 0) ∧
    f32Sqrt 0x80000000#32 = (0x80000000#32, 0) ∧ f32Sqrt 0x7F800000#32 = (0x7F800000#32, 0) ∧
    f32Exp2 0x7F800000#32 = (0x7F800000#32, 0) ∧ f32Exp2 0xFF800000#32 = (0, 0) ∧
    (∀ x : W32, 0x43000000 ≤ x.toNat → x.toNat < 0x7F800000 → f32Exp2 x = (0x7F800000#32, fOVF)) ∧
    f32Log2 0 = (0xFF800000#32, 0) ∧ f32Log2 0x80000000#32 = (0xFF800000#32, 0) ∧
    f32Log2 0x7F800000#32 = (0x7F800000#32, 0) ∧
    (∀ x : W32, x.toNat % 2 ^ 31 < 0x39800000 → f32Tanh x = (x, 0) ∧ f32Npdf x = (0x3ECC422A#32, 0)) ∧
    (∀ x : W32, 0x41800000 ≤ x.toNat % 2 ^ 31 → x.toNat % 2 ^ 31 ≤ 0x7F800000 →
      f32Tanh x = (if x.msb then 0xBF800000#32 else 0x3F800000#32, 0) ∧ f32Npdf x = (0, 0) ∧
      f32Ncdf x = (if x.msb then 0 else 0x3F800000#32, 0))

/-- R202, R203: the comparisons of lanes under each condition; vsel takes its lanes by the selector in every lane of d. -/
def Sys2Proof.Claims.VectorCompareSelect : Prop :=
  ∀ (s : State) (n : BitVec 3) (d a b : BitVec 6) (g : BitVec 3) (h : BitVec 1), Clean s →
    (∀ c : BitVec 3, c.toNat ≤ 5 →
      Compares (.vcmpI32 c n a b g h) s n a b g h (fun x y => decide
        ((c = 0 ∧ x = y) ∨ (c = 1 ∧ x ≠ y) ∨ (c = 2 ∧ x.toInt < y.toInt) ∨ (c = 3 ∧ x.toInt ≤ y.toInt) ∨
          (c = 4 ∧ y.toInt < x.toInt) ∨ (c = 5 ∧ y.toInt ≤ x.toInt))) ∧
      Compares (.vcmpN32 c n a b g h) s n a b g h (fun x y => decide
        ((c = 0 ∧ x = y) ∨ (c = 1 ∧ x ≠ y) ∨ (c = 2 ∧ x.toNat < y.toNat) ∨ (c = 3 ∧ x.toNat ≤ y.toNat) ∨
          (c = 4 ∧ y.toNat < x.toNat) ∨ (c = 5 ∧ y.toNat ≤ x.toNat)))) ∧
    (∀ c : BitVec 3, Compares (.vcmpF32 c n a b g h) s n a b g h (fun x y =>
      let nan := isNaN x || isNaN y
      let eq := !nan && (x == y || ((x &&& 0x7FFFFFFF#32) == 0 && (y &&& 0x7FFFFFFF#32) == 0))
      let lt := !nan && !eq && decide (f32Key x < f32Key y)
      let gt := !nan && !eq && decide (f32Key y < f32Key x)
      if c = 0 then eq else if c = 1 then !eq else if c = 2 then lt else if c = 3 then lt || eq
      else if c = 4 then gt else if c = 5 then gt || eq else if c = 6 then !nan else nan)) ∧
    (∀ u t x y, Reads2 s a b h u x y →
      u.dst d (BitVec.allOnes 64) (Vector.ofFn fun k => if (s.p g).getLsbD k then x[k] else y[k]) = .ok t →
      Answers (.vsel d a b g h) s t)

/-- R204, R122: vpfx writes the inclusive prefix: the i32 form the sum modulo 2^32 of the active lanes so far; the f32 form that
of the tree of R122, in which an inactive lane enters as −0. -/
def Sys2Proof.Claims.VectorPrefix : Prop :=
  ∀ (s u t : State) (d a : BitVec 6) (g : BitVec 3) (h : BitVec 1) (x : Lanes), Clean s → s.srcA a h = .ok (u, x) →
    (u.dst d (s.p g) (Vector.ofFn fun k : Fin 64 =>
        ((List.range (k.val + 1)).map fun j => if (s.p g).getLsbD j then x.toList.getD j 0 else 0).foldl (· + ·) 0) = .ok t →
      Answers (.vpfxI32 d a g h) s t) ∧
    (let r := prefixOf f32Add (masked (s.p g) 0x80000000#32 x)
     (u.flag r.2).dst d (s.p g) (Vector.ofFn fun k => r.1.getD k.val 0) = .ok t → Answers (.vpfxF32 d a g h) s t)

/-- R205, R121: vred of the active lanes: the integer sums modulo 2^32 and the integer extremes, the f32 forms by the tree of
R121; x[xd] receives the result widened, and d holds it in lane 0 and zero elsewhere. -/
def Sys2Proof.Claims.VectorReduce : Prop :=
  ∀ (s u t : State) (d a : BitVec 6) (x : BitVec 5) (g : BitVec 3) (v : Lanes), Clean s → s.src a = .ok (u, v) →
    let on := (List.range 64).filter fun j => (s.p g).getLsbD j
    let lane := fun j => v.toList.getD j 0
    let one := fun (r : W32) => (Vector.replicate 64 (0 : W32)).set 0 r
    (∀ r : W32, u.dst d (BitVec.allOnes 64) (one r) = .ok t →
      (r = (on.map lane).foldl (· + ·) 0 →
        Answers (.vredI32 d a x g 0) s (t.setX x (r.signExtend 64)) ∧
        Answers (.vredN32 d a x g 0) s (t.setX x (r.setWidth 64))) ∧
      (on ≠ [] → (∃ j ∈ on, r = lane j) →
        ((∀ j ∈ on, r.toInt ≤ (lane j).toInt) → Answers (.vredI32 d a x g 1) s (t.setX x (r.signExtend 64))) ∧
        ((∀ j ∈ on, (lane j).toInt ≤ r.toInt) → Answers (.vredI32 d a x g 2) s (t.setX x (r.signExtend 64))) ∧
        ((∀ j ∈ on, r.toNat ≤ (lane j).toNat) → Answers (.vredN32 d a x g 1) s (t.setX x (r.setWidth 64))) ∧
        ((∀ j ∈ on, (lane j).toNat ≤ r.toNat) → Answers (.vredN32 d a x g 2) s (t.setX x (r.setWidth 64)))) ∧
      (on = [] →
        (r = 0x7FFFFFFF#32 → Answers (.vredI32 d a x g 1) s (t.setX x (r.signExtend 64))) ∧
        (r = 0x80000000#32 → Answers (.vredI32 d a x g 2) s (t.setX x (r.signExtend 64))) ∧
        (r = 0xFFFFFFFF#32 → Answers (.vredN32 d a x g 1) s (t.setX x (r.setWidth 64))) ∧
        (r = 0 → Answers (.vredN32 d a x g 2) s (t.setX x (r.setWidth 64))))) ∧
    (∀ f : BitVec 2, f.toNat ≤ 2 →
      let op := if f = 0 then f32Add else if f = 1 then (fun p q => (f32Min p q, 0)) else (fun p q => (f32Max p q, 0))
      let id := if f = 0 then 0x80000000#32 else if f = 1 then 0x7F800000#32 else 0xFF800000#32
      let r := treeOf op 6 ((List.range 64).map fun j => if (s.p g).getLsbD j then lane j else id)
      (u.flag r.2).dst d (BitVec.allOnes 64) (one r.1) = .ok t →
      Answers (.vredF32 d a x g f) s (t.setX x (r.1.setWidth 64)))

/-- R206-R209: vperm, the broadcasts, vmovx both ways, vidx. -/
def Obligations.VectorLaneMoves : Prop :=
  ∀ (s : State) (d a b l : BitVec 6) (x : BitVec 5) (g : BitVec 3) (h : BitVec 1), Clean s →
    (∀ u t v w, Reads2 s a b h u v w →
      u.dst d (s.p g) (Vector.ofFn fun k => v.toList.getD (w[k].toNat % 64) 0) = .ok t → Answers (.vperm d a b g h) s t) ∧
    (∀ t, s.dst d (s.p g) (Vector.replicate 64 ((s.x x).setWidth 32)) = .ok t → Answers (.vbcast d x g) s t) ∧
    (∀ u t v, s.src a = .ok (u, v) →
      u.dst d (s.p g) (Vector.replicate 64 (v.toList.getD ((s.x x).toNat % 64) 0)) = .ok t →
      Answers (.vbcastLane d a x g) s t) ∧
    (∀ u v, s.src a = .ok (u, v) →
      Answers (.vmovx l a x) s (u.setX x ((v.toList.getD l.toNat 0).setWidth 64)) ∧
      Answers (.vmovxS l a x) s (u.setX x ((v.toList.getD l.toNat 0).signExtend 64))) ∧
    (d.toNat < 32 → Answers (.vmovxToLane d l x) s
      (s.setV d.toNat (Vector.ofFn fun k => if k.val = l.toNat then (s.x x).setWidth 32 else (s.v d.toNat)[k]))) ∧
    (∀ t, s.dst d (s.p g) (Vector.ofFn fun k => BitVec.ofNat 32 k.val) = .ok t → Answers (.vidx d g) s t)

/-- R210, R211, R118: the conversions: the rounding ones by FMT.RM and FMT.SAT, with operand b read only under the random mode,
and the exact ones from the low bits of each lane, which never read operand b (the model's reading, log 18). -/
def Sys2Proof.Claims.VectorConversions : Prop :=
  ∀ (s : State) (d a b : BitVec 6) (g : BitVec 3) (h : BitVec 1), Clean s →
    let sat := !s.core.fmt.getLsbD 14
    let rm := s.core.fmt.toNat / 256 % 8
    let rounds := fun (i : Instr) (f : Bool → Rm → Nat → W32 → W32 × Flags) =>
      (rm ≠ 4 → FlagLanes1 i s d a g h (fun x => f sat (Rm.ofCode rm) 0 x)) ∧
      (rm = 4 → FlagLanes2 i s d a b g h (fun x y => f sat .sto (y.toNat % 65536) x))
    let widens := fun (i : Instr) (bits : Nat) (f : Format) =>
      Lanes1 i s d a g h (fun x => (toF32 (f.value (x.toNat % 2 ^ bits))).1)
    rounds (.vcvtI32F32 d a b g h)
      (fun _ m r x => ((toInt (-(2 ^ 31)) (2 ^ 31 - 1) m r (ofF32 x)).1 |> BitVec.ofInt 32,
        (toInt (-(2 ^ 31)) (2 ^ 31 - 1) m r (ofF32 x)).2)) ∧
    rounds (.vcvtN32F32 d a b g h)
      (fun _ m r x => ((toInt 0 (2 ^ 32 - 1) m r (ofF32 x)).1 |> BitVec.ofInt 32, (toInt 0 (2 ^ 32 - 1) m r (ofF32 x)).2)) ∧
    rounds (.vcvtF32I32 d a b g h) (fun c m r x => ((f32.convert c m r (.fin (Dy.ofInt x.toInt))).1 |> BitVec.ofNat 32,
      (f32.convert c m r (.fin (Dy.ofInt x.toInt))).2)) ∧
    rounds (.vcvtF32N32 d a b g h) (fun c m r x => ((f32.convert c m r (.fin (Dy.ofNat x.toNat))).1 |> BitVec.ofNat 32,
      (f32.convert c m r (.fin (Dy.ofNat x.toNat))).2)) ∧
    rounds (.vcvtBf16F32 d a b g h) (fun c m r x => ((bf16.convert c m r (ofF32 x)).1 |> BitVec.ofNat 32,
      (bf16.convert c m r (ofF32 x)).2)) ∧
    rounds (.vcvtE4m3F32 d a b g h) (fun c m r x => ((e4m3.convert c m r (ofF32 x)).1 |> BitVec.ofNat 32,
      (e4m3.convert c m r (ofF32 x)).2)) ∧
    rounds (.vcvtE5m2F32 d a b g h) (fun c m r x => ((e5m2.convert c m r (ofF32 x)).1 |> BitVec.ofNat 32,
      (e5m2.convert c m r (ofF32 x)).2)) ∧
    rounds (.vcvtE2m1F32 d a b g h) (fun c m r x => ((e2m1.convert c m r (ofF32 x)).1 |> BitVec.ofNat 32,
      (e2m1.convert c m r (ofF32 x)).2)) ∧
    widens (.vcvtF32Bf16 d a b g h) 16 bf16 ∧ widens (.vcvtF32E4m3 d a b g h) 8 e4m3 ∧
    widens (.vcvtF32E5m2 d a b g h) 8 e5m2 ∧ widens (.vcvtF32E2m1 d a b g h) 4 e2m1

/-- R108, R109, R116-R118: the code of every f32 value is what rounding that value gives, with no flag; a NaN gives the
canonical one; every bf16, e5m2, e4m3 and e2m1 code that is no NaN converts to f32 and back to itself under every mode; and a
sum does not depend on the order of its operands. -/
def Sys2Proof.Claims.FloatCodesRoundTrip : Prop :=
  (∀ a : W32, isNaN a = false → toF32 (ofF32 a) = (a, 0)) ∧
  (∀ a : W32, isNaN a = true → toF32 (ofF32 a) = (0x7FC00000#32, 0)) ∧
  (∀ f ∈ [bf16, e5m2, e4m3], ∀ (c r : Nat) (sat : Bool) (m : Rm), c < 2 * f.sign → (f.value c).isNan = false →
    f.convert sat m r (ofF32 (toF32 (f.value c)).1) = (c, 0)) ∧
  (∀ (c r : Nat) (sat : Bool) (m : Rm), c < 16 → c ≠ 8 → e2m1.convert sat m r (ofF32 (toF32 (e2m1.value c)).1) = (c, 0)) ∧
  (∀ a b : W32, f32Add a b = f32Add b a) ∧ (∀ a b : W32, f32Mul a b = f32Mul b a)

/-! Storage, scalar loads and stores. -/

/-- Bytes written to storage: a byte of a line in which nothing is written keeps its value, and so does every byte that is not
among those written where no word is in error and the lines can be decrypted; where its unit is not poisoned a byte written
holds the last value written to it, and reads as it, in LPDDR6 where the write leaves the frame's key in force; presence and the
directory are as before (R74, R78, R79, R82, R351). -/
def Obligations.StorageWrites : Prop :=
  ∀ (s : State) (ws : List (Nat × Byte)), s.st.canonical →
    let t := s.writeBytes ws
    t.MemWf ∧ t.core = s.core ∧ t.cores = s.cores ∧ t.st.empty = s.st.empty ∧ t.st.claims = s.st.claims ∧
    t.st.watch = s.st.watch ∧ t.sync = s.sync ∧ t.eng = s.eng ∧
    (∀ r, (∀ w ∈ ws, lineOf w.1 ≠ lineOf r) → t.memByte r = s.memByte r) ∧
    (s.st.flaws = [] → (∀ w ∈ ws, s.unlocked (lineOf w.1) = true) → ∀ r, (∀ w ∈ ws, w.1 ≠ r) → t.memByte r = s.memByte r) ∧
    ((∀ w ∈ ws, s.poisoned w.1 = false) →
      ∀ r b before after, ws = before ++ (r, b) :: after → (∀ w ∈ after, w.1 ≠ r) → t.memByte r = b ∧
        ((levelOf r = 4 → s.st.flaws = [] ∧ t.keyAsid r = s.keyAsid r) → t.stored r = b))

/-- The U-pad of the core that moves is granted whole to read and write, and nothing stands in the way of an access there: no
word in error, no poison, no unpublished write, no entry of a write stream and no copy outstanding (spec/05 R49-R52, R62). -/
def Sys2Proof.Claims.OwnPad (s : State) : Prop :=
  s.MemWf ∧ s.cur < 2048 ∧ (∀ b, b < 32 → Store.get 0 s.ctx.pads (0x3000000 + b) % 4 = 3) ∧ s.st.flaws = [] ∧ s.st.poison = [] ∧
  s.core.take.foul = [] ∧ s.core.take.overlay = [] ∧ s.core.pushed = [] ∧ s.eng.ops = [] ∧ s.core.slipped = []

/-- The number that `n` bytes of the core's U-pad hold from an offset, least significant first. -/
def Sys2Proof.Claims.padWord (s : State) (o n : Nat) : Nat :=
  leNat ((List.range n).map fun j => s.memByte (s.cur * 2 ^ 49 + o + j))

/-- R176, R177: ld, st, ldw, stf and pclr compute their address from x[xa] and the scaled offset and have the effect that the
checks let through: the value loaded goes to xd sign- or zero-extended, the low bytes of x[xs] are stored; a failing check, or a
wait of ldw, ends the slot with no write of a register. -/
def Sys2Proof.Claims.ScalarLoadsAndStores : Prop :=
  ∀ (s : State) (d x a : BitVec 5) (i : BitVec 9) (f : BitVec 3) (z : BitVec 2), Clean s →
    let n := 2 ^ (f.toNat % 4)
    let ea := s.x a + i.signExtend 64 * BitVec.ofNat 64 n
    let nz := 2 ^ z.toNat
    let eaz := s.x a + i.signExtend 64 * BitVec.ofNat 64 nz
    let value := fun (bs : List Byte) => leNat bs
    (∀ u bs, s.load [(ea, n)] (misaligned ea n) = .ok (u, bs) → Answers (.ld d a i f) s (u.setX d
      (if f.getLsbD 2 then (BitVec.ofNat (8 * n) (value bs)).signExtend 64 else BitVec.ofNat 64 (value bs)))) ∧
    (∀ e, s.load [(ea, n)] (misaligned ea n) = .error e → exec (.ld d a i f) s = .next (s.stop e)) ∧
    (∀ t, s.store [(eaz, nz)] (misaligned eaz nz) (leBytes nz (s.x x).toNat) = .ok t → Answers (.st x a i z) s t) ∧
    (∀ e, s.store [(eaz, nz)] (misaligned eaz nz) (leBytes nz (s.x x).toNat) = .error e →
      exec (.st x a i z) s = .next (s.stop e)) ∧
    (∀ u bs, s.consume ea n (f.getLsbD 2) = .ok (u, bs) →
      Answers (.ldw d a i f) s (u.setX d (BitVec.ofNat 64 (value bs)))) ∧
    (∀ e, s.consume ea n (f.getLsbD 2) = .error e → exec (.ldw d a i f) s = .next (s.stop e)) ∧
    (∀ t, s.storeFull eaz nz (leBytes nz (s.x x).toNat) = .ok t → Answers (.stf x a i z) s t) ∧
    (∀ e, s.storeFull eaz nz (leBytes nz (s.x x).toNat) = .error e → exec (.stf x a i z) s = .next (s.stop e)) ∧
    (let eap := s.x a + i.signExtend 64 * 16
     (∀ t, s.clearPresence eap (s.x x) = .ok t → Answers (.pclr x a i) s t) ∧
     (∀ e, s.clearPresence eap (s.x x) = .error e → exec (.pclr x a i) s = .next (s.stop e)))

/-- R49, R51, R52, R177, R1: a scalar load or store of the core's own U-pad, in a granted block, aligned, with no error standing
there, no entry of a write stream waiting, no slot held and no copy outstanding: the load returns the bytes least significant
first and changes nothing; the store changes exactly its bytes; a misaligned one within a block that lets it raises ALIGN, one
whose first block is not granted or not writable PROT, where no later block of its bytes is worse. -/
def Sys2Proof.Claims.UPadLoadAndStore : Prop :=
  ∀ (s : State) (o k : Nat) (v : W64), s.MemWf → s.cur < 2048 → k ≤ 3 → o + 2 ^ k ≤ 0x200000 →
    s.st.flaws = [] → s.st.poison = [] → s.core.take.foul = [] → s.core.take.overlay = [] → s.core.pushed = [] →
    s.eng.ops = [] → s.core.slipped = [] →
    let n := 2 ^ k
    let oneBlock := o / 65536 = (o + n - 1) / 65536
    let va := BitVec.ofNat 64 (0xFFFFFF0000000000 + o)
    let raw := s.cur * 2 ^ 49 + o
    let bits := Store.get 0 s.ctx.pads ((va.toNat - 0xFFFFFC0000000000) / 65536)
    (o % n = 0 → bits % 2 = 1 → ∃ bs, s.load [(va, n)] (misaligned va n) = .ok (s, bs) ∧ bs.length = n ∧
      ∀ j, j < n → leNat bs / 256 ^ j % 256 = (s.memByte (raw + j)).toNat) ∧
    (o % n = 0 → bits % 4 = 3 → ∃ t, s.store [(va, n)] (misaligned va n) (leBytes n v.toNat) = .ok t ∧ t.core = s.core ∧
      t.st.empty = s.st.empty ∧
      (∀ j, j < n → (t.memByte (raw + j)).toNat = v.toNat / 256 ^ j % 256) ∧
      (∀ r, r < raw ∨ raw + n ≤ r → t.memByte r = s.memByte r)) ∧
    (o % n ≠ 0 → oneBlock → bits % 4 = 3 → s.load [(va, n)] (misaligned va n) = trap .align 1 va ∧
      s.store [(va, n)] (misaligned va n) (leBytes n v.toNat) = trap .align 1 va) ∧
    (bits % 2 = 0 → s.load [(va, n)] (misaligned va n) = trap .prot 3 va) ∧
    (bits % 4 = 1 → oneBlock → s.store [(va, n)] (misaligned va n) (leBytes n v.toNat) =
      .error (.trap { cause := .prot, detail := 1, w0 := va, acc := 1 }))

/-- R49-R56, R176, R177: ld, ldw, st, stf and pclr complete at an aligned address of the core's own U-pad: ld writes the bytes,
zero- or sign-extended, to xd; ldw, once its granule is FULL and no take has claimed it, does so and with .clr claims it, and
waits else; st and stf change exactly their bytes, stf leaving its granule FULL and st every presence bit as it was; pclr leaves
the granules of its range EMPTY, and no other granule and no byte changed. -/
def Sys2Proof.Claims.OwnPadAccesses : Prop :=
  ∀ (s : State) (d x a : BitVec 5) (i : BitVec 9) (f : BitVec 3) (z : BitVec 2) (o : Nat), Clean s → OwnPad s → s.Canonical →
    let at_ := fun n : Nat => s.x a + i.signExtend 64 * BitVec.ofNat 64 n = BitVec.ofNat 64 (0xFFFFFF0000000000 + o)
    let raw := s.cur * 2 ^ 49 + o
    let g := granuleOf raw
    let stored := fun (t : State) (n : Nat) => t.core = s.core ∧ padWord t o n = (s.x x).toNat % 256 ^ n ∧
      ∀ r, r < raw ∨ raw + n ≤ r → t.memByte r = s.memByte r
    (let n := 2 ^ (f.toNat % 4)
     at_ n → o % n = 0 → o + n ≤ 0x200000 →
      Answers (.ld d a i f) s (s.setX d (if f.getLsbD 2 then (BitVec.ofNat (8 * n) (padWord s o n)).signExtend 64
        else BitVec.ofNat 64 (padWord s o n))) ∧
      (s.isEmpty g = false → s.claimer g = none → Answers (.ldw d a i f) s
        ((if f.getLsbD 2 then s.claim g else s).setX d (BitVec.ofNat 64 (padWord s o n)))) ∧
      (s.isEmpty g = true ∨ (s.claimer g).isSome = true → Waits (.ldw d a i f) s)) ∧
    (let n := 2 ^ z.toNat
     at_ n → o % n = 0 → o + n ≤ 0x200000 →
      (∃ t, Answers (.st x a i z) s t ∧ stored t n ∧ t.st.empty = s.st.empty ∧ t.st.claims = s.st.claims) ∧
      (∃ t, Answers (.stf x a i z) s t ∧ stored t n ∧ t.isEmpty g = false ∧ t.claimer g = none ∧
        ∀ k, k ≠ g → t.isEmpty k = s.isEmpty k ∧ t.claimer k = s.claimer k)) ∧
    (at_ 16 → o % 16 = 0 → o + 16 * (s.x x).toNat ≤ 0x200000 →
      ∃ t, Answers (.pclr x a i) s t ∧ t.core = s.core ∧ t.st.mem = s.st.mem ∧
        (∀ k, k < (s.x x).toNat → t.isEmpty (raw + 16 * k) = true ∧ t.claimer (raw + 16 * k) = none) ∧
        ∀ e, (∀ k, k < (s.x x).toNat → e ≠ raw + 16 * k) → t.isEmpty e = s.isEmpty e ∧ t.claimer e = s.claimer e)

/-- R177, R62, R84: what a store leaves: where its checks pass and no entry of a write stream waits, the only bytes of storage
that change are those that the checks resolved (where a word in error or a line under another key is met, those of its line, and
where a walk meets a table line in error, those of that line), and of the core only its caches, its take and the code it
remembers. -/
def Sys2Proof.Claims.StoreFrame : Prop :=
  ∀ (s t u : State) (ea : W64) (n : Nat) (bs : List Byte) (ts : List Touch), s.MemWf → s.core.pushed = [] →
    s.check { write := true } [(ea, n)] (misaligned ea n) = .ok (u, ts) →
    (s.store [(ea, n)] (misaligned ea n) bs = .ok t ∨
      (s.check { write := true, presence := true } [(ea, n)] (misaligned ea n) = .ok (u, ts) ∧
        s.storeFull ea n bs = .ok t)) →
    (s.st.flaws = [] → (∀ c ∈ ts, s.unlocked (lineOf c.raw) = true) → ∀ r, (∀ c ∈ ts, c.raw ≠ r) → t.memByte r = s.memByte r) ∧
    (∀ r, (∀ c ∈ ts, lineOf c.raw ≠ lineOf r) → t.memByte r = u.memByte r) ∧ (s.st.flaws = [] → u.st.mem = s.st.mem) ∧ t.MemWf ∧
    (∃ tlb take old, t.core = { s.core with tlb := tlb, take := take, oldCode := old }) ∧
    t.cores = s.cores ∧ t.sync = s.sync ∧ t.eng = s.eng ∧ t.sched = s.sched ∧ t.cur = s.cur

/-- R177, R84: what a load leaves: no byte of storage changes where no entry of a write stream waits and no word is in error (a
word that the decoder miscorrects stands as what it gave), and of the core only its translation cache and its take. -/
def Sys2Proof.Claims.LoadFrame : Prop :=
  ∀ (s t : State) (rs : List (W64 × Nat)) (bad : Option W64) (bs : List Byte) (ea : W64) (n : Nat) (clr : Bool),
    s.core.pushed = [] → (s.load rs bad = .ok (t, bs) ∨ s.consume ea n clr = .ok (t, bs)) →
    (s.st.flaws = [] → t.st.mem = s.st.mem) ∧ (∃ tlb take, t.core = { s.core with tlb := tlb, take := take }) ∧
    t.cores = s.cores ∧ t.sync = s.sync ∧ t.eng = s.eng ∧ t.sched = s.sched ∧ t.cur = s.cur ∧ t.st.empty = s.st.empty

/-- R53, R54: the presence bits: a consuming load of a granule of the U-pad waits while it is EMPTY or claimed and, with .clr,
claims it; the commit makes a claimed granule EMPTY, a discard leaves it FULL; stf (`storeFull`) sets each granule that it
writes FULL and drops the claim, at once, or, where the granule is watched, with the commit of its take, until when its bit
stands; pclr (`clearPresence`) sets every granule of its range EMPTY, drops the claim, and leaves the others. -/
def Obligations.PresenceBits : Prop :=
  ∀ (s : State) (g : Nat), s.Canonical →
    (s.setFull g).isEmpty g = false ∧ (s.setFull g).claimer g = none ∧
    (s.setEmpty g).isEmpty g = true ∧ (s.setEmpty g).claimer g = none ∧
    (s.claim g).claimer g = some s.cur ∧ (s.claim g).isEmpty g = s.isEmpty g ∧
    (∀ ea n clr u ts, s.check { presence := true } [(ea, n)] (misaligned ea n) = .ok (u, ts) → s.core.pushed = [] →
      g ∈ granulesOf ts → (s.isEmpty g = true ∨ (s.claimer g).isSome = true) → s.consume ea n clr = .error .wait) ∧
    (∀ ea n u ts v bs, s.check { presence := true } [(ea, n)] (misaligned ea n) = .ok (u, ts) → s.core.pushed = [] →
      s.consume ea n true = .ok (v, bs) → g ∈ granulesOf ts → v.claimer g = some s.cur) ∧
    (∀ ea n u ts t bs, s.check { write := true, presence := true } [(ea, n)] (misaligned ea n) = .ok (u, ts) →
      s.storeFull ea n bs = .ok t → g ∈ granulesOf ts →
      (g ∉ watchedGranules ts → t.isEmpty g = false ∧ t.claimer g = none) ∧
      (g ∈ watchedGranules ts → g ∈ t.core.take.full ∧ t.isEmpty g = s.isEmpty g)) ∧
    (∀ ea (n : W64) raw t, s.clearPresence ea n = .ok t → s.padRaw ea = some raw →
      (∀ k, k < n.toNat → t.isEmpty (raw + 16 * k) = true ∧ t.claimer (raw + 16 * k) = none) ∧
      ((∀ k, k < n.toNat → g ≠ raw + 16 * k) → t.isEmpty g = s.isEmpty g ∧ t.claimer g = s.claimer g)) ∧
    (s.core.take.full = [] → s.claimer g = some s.cur → s.settlePresence.isEmpty g = true ∧ s.settlePresence.claimer g = none ∧
        s.dropClaims.claimer g = none ∧ s.dropClaims.isEmpty g = s.isEmpty g)

/-! Vector memory, predicates, queues, streams, parking. -/

/-- R212-R214: the vector loads and stores: the byte ranges of the active lanes, at consecutive, strided or indexed addresses;
the lanes of a load are zero-extended; a store takes the low bytes of its lanes in lane order; vldw and vstf move 256 bytes with
their presence. -/
def Obligations.VectorLoadsAndStores : Prop :=
  ∀ (s : State) (d x a : BitVec 6) (r b : BitVec 5) (i : BitVec 7) (q : BitVec 1) (g : BitVec 3) (f : BitVec 2), Clean s →
    let m := s.p g
    let on := (List.range 64).filter fun k => m.getLsbD k
    let ea := s.x r + i.signExtend 64 * 256
    let n := if f = 0 then 4 else if f = 1 then 2 else 1
    let lanes := fun (size : Nat) (bs : List Byte) => (Vector.ofFn fun k : Fin 64 =>
      if k.val ∈ on then BitVec.ofNat 32 (leNat ((bs.drop (size * on.idxOf k.val)).take size)) else (0 : W32) : Lanes)
    let low := fun (size : Nat) (e : Lanes) => on.flatMap fun k => leBytes size (e.toList.getD k 0).toNat
    let rs := on.map fun k => (ea + BitVec.ofNat 64 (4 * k), 4)
    (∀ u t bs, s.load rs (vecMisaligned 4 ea m) = .ok (u, bs) → bs.length = 4 * on.length →
      u.dst d m (lanes 4 bs) = .ok t → Answers (.vld d r i g) s t) ∧
    (∀ u t e, s.src x = .ok (u, e) → u.store rs (vecMisaligned 4 ea m) (low 4 e) = .ok t → Answers (.vst x r i g) s t) ∧
    (let all := fun (bs : List Byte) => (Vector.ofFn fun k : Fin 64 => BitVec.ofNat 32 (leNat ((bs.drop (4 * k.val)).take 4)) : Lanes)
     ∀ u t bs, s.consume ea 256 (q == 1) = .ok (u, bs) → u.dst d (BitVec.allOnes 64) (all bs) = .ok t →
      Answers (.vldw d r i q) s t) ∧
    (∀ u t e, s.src x = .ok (u, e) →
      u.storeFull ea 256 ((List.range 64).flatMap fun k => leBytes 4 (e.toList.getD k 0).toNat) = .ok t →
      Answers (.vstf x r i) s t) ∧
    (let rs := on.map fun k => (s.x b + BitVec.ofNat 64 k * s.x r, n)
     ∀ u t bs, s.load rs (lowestMisaligned rs) = .ok (u, bs) → bs.length = n * on.length →
      u.dst d m (lanes n bs) = .ok t → Answers (.vlds d r b g f) s t) ∧
    (∀ u w t idx bs, s.src a = .ok (u, idx) →
      let rs := on.map fun k => (s.x b + (idx.toList.getD k 0).signExtend 64 * BitVec.ofNat 64 n, n)
      u.load rs (lowestMisaligned rs) = .ok (w, bs) → bs.length = n * on.length → w.dst d m (lanes n bs) = .ok t →
      Answers (.vldg d a b g f) s t) ∧
    (∀ u w t idx e, s.src a = .ok (u, idx) → u.src x = .ok (w, e) →
      let rs := on.map fun k => (s.x b + (idx.toList.getD k 0).signExtend 64 * BitVec.ofNat 64 n, n)
      w.store rs (lowestMisaligned rs) (low n e) = .ok t → Answers (.vsts x a b g f) s t)

/-- R216, R217: the predicate operations write the active lanes of their destination, and leave the others and p0; pcnt counts
or copies the masked bits; pfirst gives the number of the lowest or the highest of them, 64 where there is none. -/
def Obligations.PredicateOperations : Prop :=
  ∀ (s : State) (d a b g : BitVec 3) (x : BitVec 5), Clean s →
    let writes := fun (i : Instr) (v : W64) => Answers i s (s.setP d ((v &&& s.p g) ||| (s.p d &&& ~~~ s.p g)))
    let on := (List.range 64).filter fun k => (s.p a &&& s.p g).getLsbD k
    writes (.pand d a b g) (s.p a &&& s.p b) ∧ writes (.por d a b g) (s.p a ||| s.p b) ∧
    writes (.pxor d a b g) (s.p a ^^^ s.p b) ∧ writes (.pnot d a g) (~~~ s.p a) ∧
    Answers (.pcnt a x g 0) s (s.setX x (BitVec.ofNat 64 on.length)) ∧
    Answers (.pcnt a x g 1) s (s.setX x (s.p a &&& s.p g)) ∧
    (∀ k, on.head? = some k → Answers (.pfirst a x g 0) s (s.setX x (BitVec.ofNat 64 k))) ∧
    (∀ k, on.getLast? = some k → Answers (.pfirst a x g 1) s (s.setX x (BitVec.ofNat 64 k))) ∧
    (on = [] → Answers (.pfirst a x g 0) s (s.setX x 64) ∧ Answers (.pfirst a x g 1) s (s.setX x 64))

/-- R218-R223, R226, R227: qcnt of a linked register counts its entries; qclr empties it; sbind loads a good template into an
unbound descriptor; qbind binds a loaded, unbound descriptor to an empty, linked register whose remaining elements pass their
checks and are not watched; qunbind writes what stands pushed, empties the register and links it; spos reads CURSOR. Each
failure raises STREAM with its detail. That a qunbind leaves QN and an sbind clears it is the model's choice (log 104). -/
def Obligations.QueueAndStreamControl : Prop :=
  ∀ (s : State) (q k : BitVec 4) (x : BitVec 5), Clean s →
    (s.boundTo q.toNat = none →
      Answers (.qcnt q x) s (s.setX x (BitVec.ofNat 64 (s.q q.toNat).length)) ∧ Answers (.qclr q) s (s.emptyQ q.toNat) ∧
      (s.emptyQ q.toNat).q q.toNat = [] ∧ Traps (.qunbind q) s .stream 8 0 0) ∧
    (∀ j, s.boundTo q.toNat = some j →
      (s.det = false → Answers (.qcnt q x) s (s.setX x (BitVec.ofNat 64 (s.queueCount q.toNat)))) ∧
      Traps (.qclr q) s .stream 3 0 0 ∧
      Answers (.qunbind q) s ((s.flushStreams.emptyQ q.toNat).setSd j { s.flushStreams.sd j with bound := false })) ∧
    Answers (.spos k x) s (s.setX x (BitVec.ofNat 64 (s.sd k.toNat).cursor)) ∧
    ((s.sd k.toNat).bound = true → Traps (.sbind k x) s .stream 3 0 0) ∧
    ((s.sd k.toNat).bound = false → ∀ u bs, s.load [(s.x x, 64)] (misaligned (s.x x) 64) = .ok (u, bs) →
      let t := BitVec.ofNat 512 (leNat bs)
      (templateGood t = true → Answers (.sbind k x) s (u.setSd k.toNat (sdOfTemplate t))) ∧
      (templateGood t = false → Traps (.sbind k x) s .stream 5 0 0)) ∧
    (let d := s.sd k.toNat
     (d.loaded = false → Traps (.qbind q k) s .stream 4 0 0) ∧
     (d.loaded = true → (d.bound = true ∨ (s.boundTo q.toNat).isSome = true) → Traps (.qbind q k) s .stream 3 0 0) ∧
     (d.loaded = true → d.bound = false → s.boundTo q.toNat = none →
      (s.q q.toNat ≠ [] → Traps (.qbind q k) s .stream 7 0 0) ∧
      (s.q q.toNat = [] → ∀ u ts,
        s.check { write := d.write } ((List.range (d.elems - d.cursor)).map fun i => (d.addr (d.cursor + i), d.size)) none =
          .ok (u, ts) →
        (ts.any (·.watched) = true → Traps (.qbind q k) s .stream 6 0 0) ∧
        (ts.any (·.watched) = false →
          Answers (.qbind q k) s (u.setSd k.toNat { d with bound := true, qn := q.toNat })))))

/-- R221, R224: a pop of a read stream takes the entry of up to 64 elements at CURSOR, fetched ahead or now, and advances CURSOR
by them; a pop of a write stream raises STREAM DIR, one at the end STREAM END; a push to a write stream queues the low bytes of
its elements at their addresses and advances CURSOR, and waits while eight entries stand or a copy of the core still has a
granule of them to read or write. -/
def Sys2Proof.Claims.StreamEntries : Prop :=
  ∀ (s : State) (n k : Nat), n < 16 → k < 16 → s.boundTo n = some k →
    let d := s.sd k
    let m := Min.min 64 (d.elems - d.cursor)
    (d.write = true → s.pop n = trap .stream 2 ∧ s.peek n = trap .stream 2) ∧
    (d.write = false → d.elems ≤ d.cursor → s.pop n = trap .stream 1 ∧ s.peek n = trap .stream 1) ∧
    (d.write = false → d.cursor < d.elems →
      (∀ e r, s.q n = e :: r → s.peek n = .ok (s, e) ∧ ∃ t, s.pop n = .ok (t, e) ∧ t.q n = r ∧
        t.sd k = { d with cursor := d.cursor + m } ∧ t.st = s.st) ∧
      (s.q n = [] → ∀ u bs, s.load ((List.range m).map fun i => (d.addr (d.cursor + i), d.size)) none = .ok (u, bs) →
        u.core.sd = s.core.sd → u.core.q = s.core.q →
        ∃ t e, s.pop n = .ok (t, e) ∧ (t.sd k).cursor = d.cursor + m ∧ t.q n = [] ∧
          ∀ i, i < 64 → e.toList.getD i 0 = if i < m then d.lane ((bs.drop (d.size * i)).take d.size) else 0)) ∧
    (∀ e : Lanes, d.write = false → s.push n e = trap .stream 2) ∧
    (∀ e : Lanes, d.write = true → d.elems ≤ d.cursor → s.push n e = trap .stream 1) ∧
    (∀ e : Lanes, d.write = true → d.cursor < d.elems → 8 ≤ (s.unwritten n).length → s.push n e = .error .wait) ∧
    (∀ (e : Lanes) u ts, d.write = true → d.cursor < d.elems → (s.unwritten n).length < 8 →
      s.check { write := true } ((List.range m).map fun i => (d.addr (d.cursor + i), d.size)) none = .ok (u, ts) →
      u.core.pushed = s.core.pushed → u.core.sd = s.core.sd →
      (u.behindParts true (ts.map (·.raw)) = true → s.push n e = .error .wait) ∧
      (u.behindParts true (ts.map (·.raw)) = false → ∃ t p, s.push n e = .ok t ∧ (t.sd k).cursor = d.cursor + m ∧ t.core.pushed = s.core.pushed ++ [p] ∧ p.q = n ∧
        p.writes = writesOf ts ((List.range m).flatMap fun i => leBytes d.size (e.toList.getD i 0).toNat)))

/-- R229, R230: vpark writes the row that x[xr] names and marks it parked; vunpark reads a parked row; the freeing form frees it
with the take's commit; a row beyond 511, of a configured tile, or not parked raises PARK. -/
def Sys2Proof.Claims.Parking : Prop :=
  ∀ (s : State) (a d : BitVec 6) (x : BitVec 5), Clean s →
    let r := (s.x x).toNat
    (∀ u e, s.src a = .ok (u, e) →
      (512 ≤ r → Traps (.vpark a x) s .park 1 0 0) ∧
      (r < 512 → u.tileRow r = true → Traps (.vpark a x) s .park 2 0 0) ∧
      (r < 512 → u.tileRow r = false → ∃ t, Answers (.vpark a x) s t ∧ t.zrow (r / 64) (r % 64) = e ∧
        t.core.parked = dedup (u.core.parked ++ [r]) ∧ t.core.v = u.core.v ∧ t.st = u.st ∧
        ∀ k, k < 512 → k ≠ r → t.zrow (k / 64) (k % 64) = u.zrow (k / 64) (k % 64))) ∧
    (512 ≤ r → Traps (.vunpark d x) s .park 1 0 0 ∧ Traps (.vunparkFree d x) s .park 1 0 0) ∧
    (r < 512 → s.tileRow r = true → Traps (.vunpark d x) s .park 2 0 0 ∧ Traps (.vunparkFree d x) s .park 2 0 0) ∧
    (r < 512 → s.tileRow r = false → s.core.parked.contains r = false →
      Traps (.vunpark d x) s .park 3 0 0 ∧ Traps (.vunparkFree d x) s .park 3 0 0) ∧
    (r < 512 → s.tileRow r = false → s.core.parked.contains r = true → ∀ t,
      s.dst d (BitVec.allOnes 64) (s.zrow (r / 64) (r % 64)) = .ok t →
      Answers (.vunpark d x) s t ∧
      Answers (.vunparkFree d x) s
        { t with core := { t.core with take := { t.core.take with frees := dedup (t.core.take.frees ++ [r]) } } }) ∧
    (∀ c : Core, c.committed.parked = c.parked.filter fun k => !c.take.frees.contains k)

/-! Moments. -/

namespace Sys2Proof.Claims

open Sys2Proof.Machine

/-- A moment slot of one m operand: the input test, the lanes by `f`, the flags, the result test, the write. -/
def Moment1 (i : Instr) (s : State) (d a : BitVec 6) (g : BitVec 3) (f : Pair32 → Pair32 × Flags) : Prop :=
  ∀ u v x w, s.testIn 0 (s.p g) (s.xop a) = .ok (u, x) →
    let r := fun k : Nat => f (x.mean.toList.getD k 0, x.var.toList.getD k 0)
    (u.flag (flagsOf (s.p g) fun k => (r k).2)).testVar 2 2 (s.p g)
      (Vector.ofFn fun k => if (s.p g).getLsbD k then (r k).1.2 else 0) = .ok (v, w) →
    Answers i s (v.dstM d (s.p g) (Vector.ofFn fun k => if (s.p g).getLsbD k then (r k).1.1 else 0) w)

/-- A moment slot of two operands and a correlation. -/
def Moment2 (i : Instr) (s : State) (d a b : BitVec 6) (g : BitVec 3) (c : BitVec 1)
    (f : Bool → Bool → Pair32 → Pair32 → W32 → Pair32 × Flags) : Prop :=
  ∀ u u2 v x y w rho, s.testIn 0 (s.p g) (s.xop a) = .ok (u, x) → u.testIn 1 (s.p g) (s.xop b) = .ok (u2, y) →
    u2.rho c (s.p g) x y = .ok rho →
    let r := fun k : Nat => f x.mom y.mom (x.mean.toList.getD k 0, x.var.toList.getD k 0)
      (y.mean.toList.getD k 0, y.var.toList.getD k 0) (rho.toList.getD k 0)
    (u2.flag (flagsOf (s.p g) fun k => (r k).2)).testVar 2 2 (s.p g)
      (Vector.ofFn fun k => if (s.p g).getLsbD k then (r k).1.2 else 0) = .ok (v, w) →
    Answers i s (v.dstM d (s.p g) (Vector.ofFn fun k => if (s.p g).getLsbD k then (r k).1.1 else 0) w)

/-- A collapse: mean + k · sqrt(variance), one rounding of the product and the sum. -/
def Collapses (i : Instr) (s : State) (d a : BitVec 6) (g : BitVec 3) (k : Nat → W32) : Prop :=
  ∀ u t x, s.testIn 0 (s.p g) (s.xop a) = .ok (u, x) →
    let q := fun j : Nat => f32Sqrt (x.var.toList.getD j 0)
    let r := fun j : Nat => f32Fma (k j) (q j).1 (x.mean.toList.getD j 0)
    (u.flag (flagsOf (s.p g) fun j => (q j).2 ||| (r j).2)).dst d (s.p g)
      (Vector.ofFn fun j => if (s.p g).getLsbD j then (r j).1 else 0) = .ok t →
    Answers i s t

end Sys2Proof.Claims

/-- R254, R258, R260-R262: an X operand below 32 is a v register without variance, and is not tested; the variance test passes
where no active lane is negative, and reads -0 as +0, a NaN of sign bit 1 as the canonical one and a variance of sign bit 0 as
it is; the lowest negative active lane raises NEGVAR with the operand, the lane and the kind in detail word 0, or under CLAMP is
read as +0 with NVCLAMP set; a correlation outside -1 to +1 in an active lane raises NEGVAR of kind 3. -/
def Sys2Proof.Claims.MomentTests : Prop :=
  ∀ (s : State) (opnd kind : Nat) (m : W64) (v : Lanes) (c : BitVec 6) (co : BitVec 1),
    let read := (Vector.ofFn fun k : Fin 64 =>
      if v[k].msb then (if isNaN v[k] then 0x7FC00000#32 else 0) else v[k] : Lanes)
    let bad := fun k : Nat => (v.toList.getD k 0).msb && !isNaN (v.toList.getD k 0) && v.toList.getD k 0 != 0x80000000#32
    ((∀ k, k < 64 → m.getLsbD k = true → bad k = false) → s.testVar opnd kind m v = .ok (s, read)) ∧
    (∀ k, k < 64 → m.getLsbD k = true → bad k = true → (∀ j, j < k → m.getLsbD j = true → bad j = false) →
      (s.clamps = false → s.testVar opnd kind m v = trap .negvar 0 (BitVec.ofNat 64 (opnd * 16384 + k * 256 + kind))) ∧
      (s.clamps = true → s.testVar opnd kind m v = .ok (s.flagClamp true, read))) ∧
    (s.clamps = true ↔ s.core.mom.getLsbD 34 = true) ∧
    (c.toNat < 32 → (s.xop c).mom = false ∧ (s.xop c).mean = s.v c.toNat ∧
      s.testIn opnd m (s.xop c) = .ok (s, s.xop c)) ∧
    (32 ≤ c.toNat → (s.xop c).mom = true ∧ (s.xop c).mean = (s.m (c.toNat - 32)).mean ∧
      (s.xop c).var = (s.m (c.toNat - 32)).var) ∧
    (∀ a b : XOp, ((co = 1 ∨ a.mom = false ∨ b.mom = false ∨ s.ca = 0) → s.rho co m a b = .ok (Vector.replicate 64 0)) ∧
      (co = 0 → a.mom = true → b.mom = true →
        (s.ca = 1 → s.rho co m a b = .ok (Vector.replicate 64 0x3F800000#32)) ∧
        (s.ca = 2 → s.rho co m a b = .ok (Vector.replicate 64 0xBF800000#32)) ∧
        (3 ≤ s.ca →
          ((∀ k, k < 64 → m.getLsbD k = true → ((s.v 31).toList.getD k 0).toNat % 2 ^ 31 ≤ 0x3F800000) →
            s.rho co m a b = .ok (s.v 31)) ∧
          (∀ k, k < 64 → m.getLsbD k = true → 0x3F800000 < ((s.v 31).toList.getD k 0).toNat % 2 ^ 31 →
            (∀ j, j < k → m.getLsbD j = true → ((s.v 31).toList.getD j 0).toNat % 2 ^ 31 ≤ 0x3F800000) →
            s.rho co m a b = trap .negvar 0 (BitVec.ofNat 64 (3 * 16384 + k * 256 + 3))))))

/-- R263, R264, R259: the moves: mld and mst of means and variances in lane order, the low half of each word the mean; mset
joins two v registers, mget parts them; mcorr tests a correlation and copies it into v31; each completes on operands whose
active variances have sign bit 0, the loads and stores at an aligned address of the core's own U-pad. -/
def Sys2Proof.Claims.MomentMoves : Prop :=
  ∀ (s : State) (d a b : BitVec 6) (r : BitVec 5) (i : BitVec 7) (g : BitVec 3), Clean s →
    let m := s.p g
    let on := (List.range 64).filter fun k => m.getLsbD k
    let ea := s.x r + i.signExtend 64 * 256
    let part := fun (n : Nat) (bs : List Byte) (k at' : Nat) => leNat ((bs.drop (n * on.idxOf k + at')).take (n / 2))
    let half := fun (n : Nat) (f : Nat → W32) (bs : List Byte) (at' : Nat) => (Vector.ofFn fun k : Fin 64 =>
      if k.val ∈ on then f (part n bs k.val at') else (0 : W32) : Lanes)
    let ranges := fun n => on.map fun k => (ea + BitVec.ofNat 64 (n * k), n)
    let loads := fun (j : Instr) (n : Nat) (f : Nat → W32) => ∀ u t w bs,
      s.load (ranges n) (vecMisaligned n ea m) = .ok (u, bs) → bs.length = n * on.length →
      u.testVar 3 1 m (half n f bs (n / 2)) = .ok (t, w) → Answers j s (t.dstM d m (half n f bs 0) w)
    loads (.mldM32 d r i g) 8 (BitVec.ofNat 32) ∧
    loads (.mldMb16 d r i g) 4 (fun c => (toF32 (bf16.value c)).1) ∧
    (∀ u t o, s.testIn 2 m (s.xop d) = .ok (u, o) →
      (u.store (ranges 8) (vecMisaligned 8 ea m)
        (on.flatMap fun k => leBytes 4 (o.mean.toList.getD k 0).toNat ++ leBytes 4 (o.var.toList.getD k 0).toNat) = .ok t →
        Answers (.mstM32 d r i g) s t) ∧
      (let c := fun v : W32 => bf16.convert s.saturates .rne 0 (ofF32 v)
       (u.flag (flagsOf m fun k => (c (o.mean.toList.getD k 0)).2 ||| (c (o.var.toList.getD k 0)).2)).store (ranges 4)
        (vecMisaligned 4 ea m)
        (on.flatMap fun k => leBytes 2 (c (o.mean.toList.getD k 0)).1 ++ leBytes 2 (c (o.var.toList.getD k 0)).1) = .ok t →
        Answers (.mstMb16 d r i g) s t)) ∧
    (∀ u w, s.testVar 1 1 m (s.v b.toNat) = .ok (u, w) → Answers (.mset d a b g) s (u.dstM d m (s.v a.toNat) w)) ∧
    (∀ u t, s.dst d m (s.xop a).mean = .ok u → u.dst b m (s.xop a).var = .ok t → Answers (.mget d a b g) s t) ∧
    ((∀ k, k < 64 → m.getLsbD k = true → ((s.v a.toNat).toList.getD k 0).toNat % 2 ^ 31 ≤ 0x3F800000) →
      ∃ t, Answers (.mcorr a g) s t ∧
        (∀ k : Fin 64, (t.v 31)[k] = if m.getLsbD k then (s.v a.toNat)[k] else (s.v 31)[k]) ∧
        (∀ n, n ≠ 31 → t.v n = s.v n) ∧ t.core.m = s.core.m ∧ t.st = s.st) ∧
    (∀ k, k < 64 → m.getLsbD k = true → 0x3F800000 < ((s.v a.toNat).toList.getD k 0).toNat % 2 ^ 31 →
      (∀ j, j < k → m.getLsbD j = true → ((s.v a.toNat).toList.getD j 0).toNat % 2 ^ 31 ≤ 0x3F800000) →
      Traps (.mcorr a g) s .negvar 0 (BitVec.ofNat 64 (k * 256 + 3)) 0) ∧
    (32 ≤ d.toNat → d.toNat < 48 → ∀ mean var, let t := s.dstM d m mean var
      (∀ k : Fin 64, (t.m (d.toNat - 32)).mean[k] = (if m.getLsbD k then mean[k] else (s.m (d.toNat - 32)).mean[k]) ∧
        (t.m (d.toNat - 32)).var[k] = (if m.getLsbD k then var[k] else (s.m (d.toNat - 32)).var[k])) ∧
      (∀ n, n ≠ d.toNat - 32 → t.m n = s.m n) ∧ t.core.v = s.core.v ∧ t.core.x = s.core.x ∧ t.core.fmt = s.core.fmt ∧
      t.st = s.st) ∧
    -- each completes where its operands alone let it: registers, and the core's own U-pad
    (let q := d.toNat - 32
     let active := fun k : Nat => k < 64 ∧ m.getLsbD k = true
     let raw := fun o : Nat => s.cur * 2 ^ 49 + o
     32 ≤ d.toNat → d.toNat < 48 →
     ((∀ k : Fin 64, active k.val → (s.v b.toNat)[k].msb = false) → ∃ t, Answers (.mset d a b g) s t ∧ t.st = s.st ∧
      ∀ k : Fin 64, active k.val → (t.m q).mean[k] = (s.v a.toNat)[k] ∧ (t.m q).var[k] = (s.v b.toNat)[k]) ∧
     (a.toNat < 32 → b.toNat < 32 → a ≠ b → ∃ t, Answers (.mget a d b g) s t ∧ t.core.m = s.core.m ∧ t.st = s.st ∧
      ∀ k : Fin 64, active k.val → (t.v a.toNat)[k] = (s.m q).mean[k] ∧ (t.v b.toNat)[k] = (s.m q).var[k]) ∧
     (∀ o, Sys2Proof.Claims.OwnPad s → ea.toNat = 0xFFFFFF0000000000 + o → o % 8 = 0 → o + 512 ≤ 0x200000 →
      ((∀ k, active k → padWord s (o + 8 * k + 4) 4 < 2 ^ 31) → ∃ t, Answers (.mldM32 d r i g) s t ∧ t.st.mem = s.st.mem ∧
        (∀ n, n ≠ q → t.m n = s.m n) ∧ ∀ k : Fin 64, active k.val →
          (t.m q).mean[k].toNat = padWord s (o + 8 * k.val) 4 ∧ (t.m q).var[k].toNat = padWord s (o + 8 * k.val + 4) 4) ∧
      ((∀ k : Fin 64, active k.val → (s.m q).var[k].msb = false) → ∃ t, Answers (.mstM32 d r i g) s t ∧ t.core.m = s.core.m ∧
        (∀ k : Fin 64, active k.val → padWord t (o + 8 * k.val) 4 = (s.m q).mean[k].toNat ∧
          padWord t (o + 8 * k.val + 4) 4 = (s.m q).var[k].toNat) ∧
        ∀ e, (∀ k, active k → e < raw o + 8 * k ∨ raw o + 8 * k + 8 ≤ e) → t.memByte e = s.memByte e)) ∧
     (∀ o, Sys2Proof.Claims.OwnPad s → ea.toNat = 0xFFFFFF0000000000 + o → o % 4 = 0 → o + 256 ≤ 0x200000 →
      ((∀ k, active k → padWord s (o + 4 * k + 2) 2 < 2 ^ 15) → ∃ t, Answers (.mldMb16 d r i g) s t ∧ t.st.mem = s.st.mem ∧
        (∀ n, n ≠ q → t.m n = s.m n) ∧ ∀ k : Fin 64, active k.val →
          (t.m q).mean[k] = (toF32 (bf16.value (padWord s (o + 4 * k.val) 2))).1 ∧
          (t.m q).var[k] = (toF32 (bf16.value (padWord s (o + 4 * k.val + 2) 2))).1) ∧
      ((∀ k : Fin 64, active k.val → (s.m q).var[k].msb = false) → ∃ t, Answers (.mstMb16 d r i g) s t ∧ t.core.m = s.core.m ∧
        (∀ k : Fin 64, active k.val →
          padWord t (o + 4 * k.val) 2 = (bf16.convert s.saturates .rne 0 (ofF32 (s.m q).mean[k])).1 ∧
          padWord t (o + 4 * k.val + 2) 2 = (bf16.convert s.saturates .rne 0 (ofF32 (s.m q).var[k])).1) ∧
        ∀ e, (∀ k, active k → e < raw o + 4 * k ∨ raw o + 4 * k + 4 ≤ e) → t.memByte e = s.memByte e)))

/-- R265-R269, R275: madd, msub, mmul, mfma, mscl, msq and mclip: the steps of each lane with one rounding each, and the flags
of every step. The lanes of an mfma of two v operands are the model's reading (log 100). -/
def Sys2Proof.Claims.MomentArithmetic : Prop :=
  ∀ (s : State) (d a b : BitVec 6) (g : BitVec 3) (c : BitVec 1) (x : BitVec 5), Clean s →
    let zero := fun r : W32 => r == 0 || r == 0x80000000#32
    let sum := fun (op : LaneOp2) (neg am bm : Bool) (p q : Pair32) (r : W32) =>
      let mu := op p.1 q.1
      let u := f32Add p.2 q.2
      if !bm then ((mu.1, p.2), mu.2) else if !am then ((mu.1, q.2), mu.2)
      else if zero r then ((mu.1, u.1), mu.2 ||| u.2)
      else
        let sa := f32Sqrt p.2
        let sb := f32Sqrt q.2
        let w := f32Mul 0x40000000#32 sa.1
        let k := f32Mul (if neg then f32Neg r else r) w.1
        let v := f32Fma k.1 sb.1 u.1
        ((mu.1, v.1), mu.2 ||| u.2 ||| sa.2 ||| sb.2 ||| w.2 ||| k.2 ||| v.2)
    let scale := fun (p : Pair32) (y : W32) =>
      let mu := f32Mul p.1 y
      let q := f32Mul y y
      let v := f32Mul q.1 p.2
      ((mu.1, v.1), mu.2 ||| q.2 ||| v.2)
    let product := fun (am bm : Bool) (p q : Pair32) (r : W32) =>
      if !bm then scale p q.1 else if !am then scale q p.1
      else
        let q1 := f32Mul p.1 p.1
        let q2 := f32Mul q.1 q.1
        let v1 := f32Mul q1.1 q.2
        let v2 := f32Fma q2.1 p.2 v1.1
        let v3 := f32Fma p.2 q.2 v2.1
        let e := q1.2 ||| q2.2 ||| v1.2 ||| v2.2 ||| v3.2
        if zero r then
          let mu := f32Fma p.1 q.1 0
          ((mu.1, v3.1), mu.2 ||| e)
        else
          let sa := f32Sqrt p.2
          let r1 := f32Mul r sa.1
          let sb := f32Sqrt q.2
          let cv := f32Mul r1.1 sb.1
          let mu := f32Fma p.1 q.1 cv.1
          let v4 := f32Fma cv.1 cv.1 v3.1
          let k := f32Mul p.1 q.1
          let k2 := f32Mul 0x40000000#32 k.1
          let v5 := f32Fma k2.1 cv.1 v4.1
          ((mu.1, v5.1), sa.2 ||| r1.2 ||| sb.2 ||| cv.2 ||| mu.2 ||| e ||| v4.2 ||| k.2 ||| k2.2 ||| v5.2)
    let square := fun p : Pair32 =>
      let mu := f32Fma p.1 p.1 p.2
      let q := f32Mul p.1 p.1
      let q4 := f32Mul 0x40800000#32 q.1
      let v := f32Mul q4.1 p.2
      let w := f32Mul 0x40000000#32 p.2
      let r := f32Fma w.1 p.2 v.1
      ((mu.1, r.1), mu.2 ||| q.2 ||| q4.2 ||| v.2 ||| w.2 ||| r.2)
    let f : W32 := (s.x x).setWidth 32
    Moment2 (.madd d a b g c) s d a b g c (sum f32Add false) ∧ Moment2 (.msub d a b g c) s d a b g c (sum f32Sub true) ∧
    Moment2 (.mmul d a b g c) s d a b g c product ∧
    (∀ u u2 u3 v p q z w rho, s.testIn 0 (s.p g) (s.xop a) = .ok (u, p) → u.testIn 1 (s.p g) (s.xop b) = .ok (u2, q) →
      u2.testIn 2 (s.p g) (s.xop d) = .ok (u3, z) → u3.rho c (s.p g) p q = .ok rho →
      let lane := fun (o : XOp) (k : Nat) => (o.mean.toList.getD k 0, o.var.toList.getD k 0)
      let t := fun k : Nat => product p.mom q.mom (lane p k) (lane q k) (rho.toList.getD k 0)
      let mu := fun k : Nat => f32Add (t k).1.1 (lane z k).1
      let va := fun k : Nat => f32Add (t k).1.2 (lane z k).2
      (u3.flag (flagsOf (s.p g) fun k => (t k).2 ||| (mu k).2 ||| (va k).2)).testVar 2 2 (s.p g)
        (Vector.ofFn fun k => if (s.p g).getLsbD k then (va k).1 else 0) = .ok (v, w) →
      Answers (.mfma d a b g c) s
        (v.dstM d (s.p g) (Vector.ofFn fun k => if (s.p g).getLsbD k then (mu k).1 else 0) w)) ∧
    (∀ u v p w, s.testIn 0 (s.p g) (s.xop a) = .ok (u, p) →
      let r := fun k : Nat => scale (p.mean.toList.getD k 0, p.var.toList.getD k 0) ((s.v b.toNat).toList.getD k 0)
      (u.flag (flagsOf (s.p g) fun k => (r k).2)).testVar 2 2 (s.p g)
        (Vector.ofFn fun k => if (s.p g).getLsbD k then (r k).1.2 else 0) = .ok (v, w) →
      Answers (.mscl d a b g) s
        (v.dstM d (s.p g) (Vector.ofFn fun k => if (s.p g).getLsbD k then (r k).1.1 else 0) w)) ∧
    Moment1 (.msq d a g) s d a g square ∧
    ((f.toNat % 2 ^ 31 < 0x7F800000 ∧ (f.msb = false ∨ f = 0x80000000#32)) →
      Moment1 (.mclip d a x g) s d a g (fun p => ((p.1, f32Max p.2 (if f.msb then 0 else f)), 0))) ∧
    (¬ (f.toNat % 2 ^ 31 < 0x7F800000 ∧ (f.msb = false ∨ f = 0x80000000#32)) →
      Traps (.mclip d a x g) s .negvar 0 (BitVec.ofNat 64 (3 * 16384 + 4)) 0)

/-- R270-R274, R276: mrelu, msig, mtanh and mexp: the steps of each lane; mcol: the mean, and the mean with the deviation times
K, -K, or the draw of b. That mcol.smp is tested under MOM.NV is the model's reading (log 99). -/
def Sys2Proof.Claims.MomentActivations : Prop :=
  ∀ (s : State) (d a b : BitVec 6) (g : BitVec 3), Clean s →
    let relu := fun p : Pair32 =>
      if p.2 = 0 then ((f32Max p.1 0, 0), 0)
      else
        let q := f32Sqrt p.2
        let r := f32Rcp q.1
        let al := f32Mul p.1 r.1
        let cdf := f32Ncdf al.1
        let pdf := f32Npdf al.1
        let mp := f32Mul p.1 cdf.1
        let mu := f32Fma q.1 pdf.1 mp.1
        let e0 := f32Fma p.1 p.1 p.2
        let e1 := f32Mul e0.1 cdf.1
        let ms := f32Mul p.1 q.1
        let e2 := f32Fma ms.1 pdf.1 e1.1
        let v := f32Fma (f32Neg mu.1) mu.1 e2.1
        ((mu.1, f32Max v.1 0), q.2 ||| r.2 ||| al.2 ||| cdf.2 ||| pdf.2 ||| mp.2 ||| mu.2 ||| e0.2 ||| e1.2 ||| ms.2 |||
          e2.2 ||| v.2)
    let sig := fun p : Pair32 =>
      let w := if p.2 = 0 then (0x4022F983#32, 0) else f32Add 0x4022F983#32 p.2
      let q := f32Sqrt w.1
      let r := f32Rcp q.1
      let z := f32Mul p.1 r.1
      let mu := f32Ncdf z.1
      let e := w.2 ||| q.2 ||| r.2 ||| z.2 ||| mu.2
      if p.2 = 0 then ((mu.1, 0), e)
      else
        let f := f32Fma (f32Neg 0x3FCC422A#32) r.1 0x3F800000#32
        let n := f32Sub 0x3F800000#32 mu.1
        let m := f32Mul mu.1 n.1
        let v := f32Mul m.1 f.1
        ((mu.1, f32Max v.1 0), e ||| f.2 ||| n.2 ||| m.2 ||| v.2)
    let tanh := fun p : Pair32 =>
      let m2 := f32Mul 0x40000000#32 p.1
      let v4 := f32Mul 0x40800000#32 p.2
      let t := sig (m2.1, v4.1)
      let mu := f32Fma 0x40000000#32 t.1.1 0xBF800000#32
      let v := f32Mul 0x40800000#32 t.1.2
      ((mu.1, v.1), m2.2 ||| v4.2 ||| t.2 ||| mu.2 ||| v.2)
    let exp := fun p : Pair32 =>
      let h := f32Mul 0x3F000000#32 p.2
      let t := f32Add p.1 h.1
      let u := f32Mul t.1 0x3FB8AA3B#32
      let mu := f32Exp2 u.1
      let e := h.2 ||| t.2 ||| u.2 ||| mu.2
      if p.2 = 0 then ((mu.1, 0), e)
      else
        let y := f32Mul p.2 0x3FB8AA3B#32
        let x := f32Exp2 y.1
        let x1 := f32Sub x.1 0x3F800000#32
        let m2 := f32Mul mu.1 mu.1
        let v := f32Mul x1.1 m2.1
        ((mu.1, f32Max v.1 0), e ||| y.2 ||| x.2 ||| x1.2 ||| m2.2 ||| v.2)
    Moment1 (.mrelu d a g) s d a g relu ∧ Moment1 (.msig d a g) s d a g sig ∧ Moment1 (.mtanh d a g) s d a g tanh ∧
    Moment1 (.mexp d a g) s d a g exp ∧
    (∀ t, s.dst d (s.p g) (s.xop a).mean = .ok t → Answers (.mcolMean d a g) s t) ∧
    Collapses (.mcolHi d a g) s d a g (fun _ => s.k) ∧ Collapses (.mcolLo d a g) s d a g (fun _ => f32Neg s.k) ∧
    Collapses (.mcolSmp d a b g) s d a g (fun k => (s.v b.toNat).toList.getD k 0)

/-! The matrix engine and tiles. -/

namespace Sys2Proof.Claims

open Sys2Proof.Machine

/-- The slot writes the first `rows` rows of z register `z` by `f` of what stood there, raises flags, and then `after` acts;
everything else is as in `u`, which differs from the state before by what the sources' reads leave. -/
def WritesTile (i : Instr) (s u : State) (z rows : Nat) (f : Nat → Nat → W32 → W32) (after : State → State) : Prop :=
  ∃ (w : Vector Lanes 64) (e : Flags), Answers i s (after ((u.flag e).setZ z w)) ∧
    ∀ r k : Fin 64, w[r][k] = if r.val < rows then f r.val k.val (u.zreg z)[r][k] else (u.zreg z)[r][k]

/-- The loop over the four groups of 16 products: overwrite takes the first group alone, negated subtracts (spec/09 R119). -/
def GroupLoop (m : BitVec 2) (gs : Nat → W32) (acc : W32) : W32 :=
  [0, 1, 2, 3].foldl (fun a g =>
    if m = 1 ∧ g = 0 then gs g else if m = 2 then (f32Sub a (gs g)).1 else (f32Add a (gs g)).1) acc

/-- Group `g` of the products of row `i` and column `j`. -/
def groupTerms (a b : Nat → Nat → Fp) (i j g : Nat) : List (Fp × Fp) :=
  (List.range 16).map fun k => (a i (16 * g + k), b (16 * g + k) j)

/-- The rational that a finite value stands for. -/
def ratOf : Fp → Rat
  | .fin d => (if d.neg then -1 else 1) * (d.man : Rat) * (2 : Rat) ^ d.exp
  | _ => 0

/-- A finite value. -/
def isFinite : Fp → Bool
  | .fin _ => true
  | _ => false

end Sys2Proof.Claims

/-- R119, R114, R120: a group sum of finite values is exact; it is a NaN where a term is one; of a scaled group a scale of 0xFF
makes the canonical NaN, and otherwise the exact sum times 2^(ea + eb − 254) is rounded, with the largest magnitude in place of
an overflow unless SOV is set; integer group sums accumulate modulo 2^32. That a group with a NaN element raises no INV is the
model's reading (log 102). -/
def Obligations.GroupSums : Prop :=
  (∀ ts : List (Fp × Fp), (∀ t ∈ ts, isFinite t.1 = true ∧ isFinite t.2 = true) →
    isFinite (groupSum ts).1 = true ∧ ratOf (groupSum ts).1 = (ts.map fun t => ratOf t.1 * ratOf t.2).sum ∧ (groupSum ts).2 = 0) ∧
  (∀ ts : List (Fp × Fp), (∃ t ∈ ts, t.1 = .nan ∨ t.2 = .nan) → (groupSum ts).1 = .nan ∧ (groupSum ts).2 = 0) ∧
  (∀ ts : List (Fp × Fp), (∀ t ∈ ts, t.1 ≠ .nan ∧ t.2 ≠ .nan) → ((groupSum ts).1 = .nan ↔ (groupSum ts).2 = fINV)) ∧
  (∀ (sov : Bool) (ea eb : Nat) (q : Fp × Flags), (ea = 255 ∨ eb = 255) → scaledSum sov ea eb q = (0x7FC00000#32, 0)) ∧
  (∀ (sov : Bool) (ea eb : Nat) (d : Dy), ea ≠ 255 → eb ≠ 255 →
    let v := { d with exp := d.exp + ((ea : Int) + eb - 254) }
    let r := toF32 (.fin v)
    ((scaledSum sov ea eb (.fin d, 0)).1 =
      if r.2 &&& fOVF ≠ 0 ∧ sov = false then (if v.neg then 0xFF7FFFFF#32 else 0x7F7FFFFF#32) else r.1)) ∧
  (∀ (m : Nat) (first : Bool) (sum : Nat → Int) (acc : W32), (accLoopI m first sum acc).1 =
    let total := sum 0 + sum 1 + sum 2 + sum 3
    if first = true ∧ m = 1 then BitVec.ofInt 32 total
    else if m = 2 then BitVec.ofInt 32 (acc.toInt - total) else BitVec.ofInt 32 (acc.toInt + total))

/-- R240, R241, R242, R243: mma, mmt, mmas and mmap outside a REP bundle: under accepted formats, each tile row of z receives
the loop over its four groups, the stored A transposed for mmt, the groups scaled by the columns col and col + 1 of the scale
memories for mmas, sums of plane integers for mmap; then the offset registers that pi selects advance. A slot waits while a copy
still fills a buffer or scale memory that it reads (R234). Other formats raise FMT COMBO, a z register that is not configured
PARK NOTILE. -/
def Sys2Proof.Claims.MatrixProducts : Prop :=
  ∀ (s : State) (z : BitVec 3) (a b : BitVec 4) (m : BitVec 2) (p si : BitVec 1) (col : BitVec 6), Clean s → s.repHeader = none →
    let rows := s.rows z.toNat
    let float := fun (l : List Nat) => s.af ∈ l ∧ s.bf ∈ l ∧ s.acc = false
    let after := fun t : State => t.repeated 0 p a b
    let raises := fun (i : Instr) (c : Cause) (e : Nat) => s.itemBusy i = false → Traps i s c e 0 0
    let writes := fun (i : Instr) (u : State) (f : Nat → Nat → W32 → W32) =>
      s.itemBusy i = false → WritesTile i s u z.toNat rows f after
    (∀ i ∈ [Instr.mma z a b m p, .mmt z a b m p, .mmas z a b m p col si, .mmap z a b m p], s.itemBusy i = true → Waits i s) ∧
    (¬ float [0, 1, 2, 3] → raises (.mma z a b m p) .fmt 2 ∧ raises (.mmt z a b m p) .fmt 2) ∧
    (¬ float [1, 2, 3] → raises (.mmas z a b m p col si) .fmt 2) ∧
    (¬ (s.af = 4 ∧ s.bf = 4) → raises (.mmap z a b m p) .fmt 2) ∧
    (rows = 0 →
      (float [0, 1, 2, 3] → raises (.mma z a b m p) .park 5 ∧ raises (.mmt z a b m p) .park 5) ∧
      (float [1, 2, 3] → raises (.mmas z a b m p col si) .park 5) ∧
      (s.af = 4 ∧ s.bf = 4 → raises (.mmap z a b m p) .park 5)) ∧
    (rows ≠ 0 → ∀ u ta tb, s.maTiles a b = .ok (u, ta, tb) →
      (float [0, 1, 2, 3] →
        writes (.mma z a b m p) u
          (fun i j => GroupLoop m fun g => (finish (groupSum (groupTerms ta.at tb.at i j g))).1) ∧
        writes (.mmt z a b m p) u
          (fun i j => GroupLoop m fun g => (finish (groupSum (groupTerms (fun i k => ta.at k i) tb.at i j g))).1)) ∧
      (float [1, 2, 3] →
        let scale := fun (mem g i : Nat) =>
          if s.scm = 2 - mem then 127 else (Store.get 0 u.core.scales (4096 * mem + 64 * ((col.toNat + g / 2) % 64) + i)).toNat
        writes (.mmas z a b m p col si) u
          (fun i j => GroupLoop m fun g =>
            (scaledSum s.sov (scale 0 g i) (scale 1 g j) (groupSum (groupTerms ta.at tb.at i j g))).1))) ∧
    (rows ≠ 0 → s.af = 4 → s.bf = 4 →
      let na := 512 * s.pna
      let nb := 512 * s.pnb
      checkUpads (s.upads [(a, na), (b, nb)]) = .ok () → ∀ u v xa xb,
      s.maBytes 0 a (512 * s.pma) = .ok (u, xa) → u.maBytes 4 b (512 * s.pmb) = .ok (v, xb) →
      let ta := planesOf s.pna s.pma xa
      let tb := planesOf s.pnb s.pmb xb
      let sum := fun (i j g : Nat) =>
        ((List.range 16).map fun k => ta.getD (64 * i + (16 * g + k)) 0 * tb.getD (64 * (16 * g + k) + j) 0).sum
      (s.acc = true → writes (.mmap z a b m p) v
        (fun i j acc =>
          let total := sum i j 0 + sum i j 1 + sum i j 2 + sum i j 3
          if m = 1 then BitVec.ofInt 32 total
          else if m = 2 then BitVec.ofInt 32 (acc.toInt - total) else BitVec.ofInt 32 (acc.toInt + total))) ∧
      (s.acc = false → writes (.mmap z a b m p) v
        (fun i j => GroupLoop m fun g => (toF32 (.fin (Dy.ofInt (sum i j g)))).1))) ∧
    (∀ (n m : Nat) (bs : List Byte) (r c : Nat), 1 ≤ m → m ≤ n → n ≤ 8 → 512 * m ≤ bs.length → r < 64 → c < 64 →
      let bit := fun j : Nat => (bs.getD (512 * j + 8 * r + c / 8) 0).toNat / 2 ^ (c % 8) % 2
      let code := (List.range n).foldl (fun v j => 2 * v + bit j) 0
      let x : Int := if 2 ^ n ≤ 2 * code then (code : Int) - 2 ^ n else code
      (planesOf n m bs).getD (64 * r + c) 0 = x / 2 ^ (n - m) * 2 ^ (n - m))

/-- R140, R237, R241: what follows an M.A operation and each repetition of it: every offset register that MASK selects, and with
pi every one that is a source, advances once; the repetitions that are left stand in the core, and REPETITION runs the next one.
-/
def Sys2Proof.Claims.Repetitions : Prop :=
  ∀ (s : State) (n : Nat) (p : BitVec 1) (a b : BitVec 4) (j : Nat), j < 8 →
    let h := s.repHeader.getD (1, 0)
    let t := s.repeated n p a b
    (t.o j = if h.2 / 2 ^ j % 2 = 1 ∨ (p = 1 ∧ (a.toNat = j + 8 ∨ b.toNat = j + 8))
      then { addr := (s.o j).addr + (s.o j).stride.setWidth 21, stride := (s.o j).stride } else s.o j) ∧
    t.core.rep = (if n + 1 < h.1 then some { left := h.1 - (n + 1), done := n + 1 } else none) ∧
    t.core.z = s.core.z ∧ t.core.v = s.core.v ∧ t.core.x = s.core.x ∧ t.st = s.st ∧
    (∀ (i : Instr) (bd : Bundle) (r : Rep) (u : State), Clean s → s.core.bundle = some bd → slotOf bd.word bd.slotNo = i →
      s.core.rep = some r → s.itemBusy i = false → s.runMA r.done i = .ok u → Answers .repetition s u) ∧
    (s.itemBusy s.repeating = true → Waits .repetition s) ∧
    (Clean s → s.core.rep = none → s.itemBusy s.repeating = false → Answers .repetition s s) ∧
    (s.core.bundle = none → s.repHeader = none) ∧
    (∀ bd : Bundle, s.core.bundle = some bd → (field (slotWord bd.word 0) 31 26 = 33 ∨ field (slotWord bd.word 0) 31 26 = 37) →
      s.repHeader = some (field (slotWord bd.word 0) 25 10, field (slotWord bd.word 0) 9 2))

/-- R244: mmm outside a REP bundle: the means of the pair z, z + 1 receive the loop over the products of the means, the
variances the loop over μa²·σb² + μb²·σa² + σa²·σb², which adds in negated mode too; a pair that is not configured with equal
ROWS raises PARK NOTILE; a negative variance element that enters the result raises NEGVAR, or under CLAMP is used as +0. -/
def Sys2Proof.Claims.MomentProduct : Prop :=
  ∀ (s : State) (z : BitVec 3) (a b : BitVec 4) (m : BitVec 2) (p mm : BitVec 1), Clean s → s.repHeader = none →
    let i := Instr.mmm z a b m p mm
    let rows := s.rows z.toNat
    let ok := s.af = 0 ∧ s.bf = 0 ∧ s.acc = false
    let pair := rows ≠ 0 ∧ s.rows (z.toNat + 1) = rows
    let bf := fun (bs : List Byte) (r c : Nat) => bf16.value (leNat ((bs.drop (2 * (64 * r + c))).take 2))
    (s.itemBusy i = true → Waits i s) ∧
    (s.itemBusy i = false →
    (¬ ok → Traps i s .fmt 2 0 0) ∧ (ok → ¬ pair → Traps i s .park 5 0 0) ∧
    (ok → pair → checkUpads (s.upads [(a, 16384), (b, if mm = 1 then 16384 else 8192)]) = .ok () →
      ∀ u v xma xva xmb xvb, s.maPair 0 a = .ok (u, xma, xva) → xma.length = 8192 → xva.length = 8192 →
      ((mm = 1 ∧ u.maPair 4 b = .ok (v, xmb, xvb) ∧ xvb.length = 8192) ∨
        (mm = 0 ∧ u.maBytes 4 b 8192 = .ok (v, xmb) ∧ xvb = [])) → xmb.length = 8192 →
      let va := fun r c => bf xva r c
      let vb := fun r c => if mm = 1 then bf xvb r c else Fp.fin (Dy.ofNat 0)
      let good := (∀ r c, r < rows → c < 64 → (va r c).negative = false) ∧
        (∀ r c, r < 64 → c < 64 → (vb r c).negative = false)
      (s.clamps = false → ¬ good → ∃ w, exec i s = .next (s.raise { cause := .negvar, detail := 0, w0 := w, w1 := 0 })) ∧
      (∀ x, (good ∧ x = v) ∨ (s.clamps = true ∧ ¬ good ∧ x = v.flagClamp true) →
        ∃ (w1 w2 : Vector Lanes 64) (e1 e2 : Flags),
        Answers i s (((((x.flag e1).setZ z.toNat w1).flag e2).setZ (z.toNat + 1) w2).repeated 0 p a b) ∧
        ∀ r k : Fin 64,
          w1[r][k] = (if r.val < rows then
            GroupLoop m (fun g => (finish (groupSum (groupTerms (bf xma) (bf xmb) r.val k.val g))).1) (v.zreg z.toNat)[r][k]
            else (v.zreg z.toNat)[r][k]) ∧
          w2[r][k] = (if r.val < rows then
            GroupLoop (if m = 2 then 0 else m) (fun g => (finish (varianceSum ((List.range 16).map fun t =>
              ((bf xma r.val (16 * g + t), (va r.val (16 * g + t)).asVar),
               (bf xmb (16 * g + t) k.val, (vb (16 * g + t) k.val).asVar))))).1) (v.zreg (z.toNat + 1))[r][k]
            else (v.zreg (z.toNat + 1))[r][k]))))

/-- R245-R248, R253: tcfg configures the selected registers with ROWS rows of +0, and loses parked rows among them only under
force; tfree releases them; tzero clears their tile rows; tgen fills a tile or a buffer with its pattern, and waits while a copy
still fills that buffer (R234). That tgen completes under ACC = 1 is the model's reading (log 57). -/
def Sys2Proof.Claims.TileConfiguring : Prop :=
  ∀ (s : State) (m : BitVec 8) (r : BitVec 7) (f : BitVec 1) (t : BitVec 4) (p : BitVec 2), Clean s →
    let hit := fun n : Nat => s.core.parked.filter fun k => m.getLsbD (k / 64) && decide (k / 64 < 8) && decide (k % 64 < n)
    let pattern := fun i j : Nat =>
      (p = 0 ∧ j = i) ∨ (p = 1 ∧ j ≤ i) ∨ (p = 2 ∧ i ≤ j) ∨ (p = 3 ∧ j = 63 - i)
    let frame := fun u : State => u.core.v = s.core.v ∧ u.core.x = s.core.x ∧ u.core.o = s.core.o ∧ u.core.fmt = s.core.fmt ∧
      u.core.bufs = s.core.bufs ∧ u.st = s.st
    (f = 0 → hit r.toNat ≠ [] → Traps (.tcfg m r f) s .park 4 0 0) ∧
    (f = 1 ∨ hit r.toNat = [] → ∃ u, Answers (.tcfg m r f) s u ∧ frame u ∧
      u.core.parked = (s.core.parked.filter fun k => !(hit r.toNat).contains k) ∧
      (∀ k, k < 8 → u.rows k = if m.getLsbD k then r.toNat else s.rows k) ∧
      (∀ k i, k < 8 → i < 64 → u.zrow k i = if m.getLsbD k ∧ i < r.toNat then Lanes.zero else s.zrow k i)) ∧
    (f = 0 → hit 64 ≠ [] → Traps (.tfree m f) s .park 4 0 0) ∧
    (f = 1 ∨ hit 64 = [] → ∃ u, Answers (.tfree m f) s u ∧ frame u ∧
      u.core.parked = (s.core.parked.filter fun k => !(hit 64).contains k) ∧
      (∀ k, k < 8 → u.rows k = if m.getLsbD k then 0 else s.rows k) ∧
      (∀ k i, k < 8 → i < 64 → m.getLsbD k = true → s.rows k ≠ 0 → u.zrow k i = Lanes.zero) ∧
      (∀ k i, k < 8 → i < 64 → m.getLsbD k = false → u.zrow k i = s.zrow k i)) ∧
    ((∃ k, k < 8 ∧ m.getLsbD k = true ∧ s.rows k = 0) → Traps (.tzero m) s .park 5 0 0) ∧
    ((∀ k, k < 8 → m.getLsbD k = true → s.rows k ≠ 0) → ∃ u, Answers (.tzero m) s u ∧ frame u ∧
      u.core.parked = s.core.parked ∧ u.core.rows = s.core.rows ∧
      (∀ k i, k < 8 → i < 64 → u.zrow k i = if m.getLsbD k ∧ i < s.rows k then Lanes.zero else s.zrow k i)) ∧
    (s.itemBusy (.tgen t p) = true → Waits (.tgen t p) s) ∧
    (s.itemBusy (.tgen t p) = false → 8 ≤ t.toNat → s.rows (t.toNat - 8) = 0 → Traps (.tgen t p) s .park 5 0 0) ∧
    (s.itemBusy (.tgen t p) = false → 8 ≤ t.toNat → s.rows (t.toNat - 8) ≠ 0 → ∃ w : Vector Lanes 64,
      Answers (.tgen t p) s (s.setZ (t.toNat - 8) w) ∧
      ∀ i j : Fin 64, (i.val < s.rows (t.toNat - 8) →
        (pattern i.val j.val → w[i][j] = 0x3F800000#32) ∧ (¬ pattern i.val j.val → w[i][j] = 0)) ∧
        (s.rows (t.toNat - 8) ≤ i.val → w[i] = (s.zreg (t.toNat - 8))[i])) ∧
    (s.itemBusy (.tgen t p) = false → t.toNat < 8 →
      let fmt := if t.toNat < 4 then s.af else s.bf
      let planes := if t.toNat < 4 then s.pna else s.pnb
      fmt ≤ 4 → (fmt = 4 → 2 ≤ planes ∧ planes ≤ 8) → ∃ bufs, Answers (.tgen t p) s { s with core := { s.core with bufs := bufs } } ∧
      (Store.wf 0 s.core.bufs → ∀ k, Store.get 0 bufs k = if 8192 * t.toNat ≤ k ∧ k < 8192 * t.toNat + footprint fmt planes true
        then (patternBytes fmt planes p.toNat).getD (k - 8192 * t.toNat) 0 else Store.get 0 s.core.bufs k) ∧
      ∀ tile, tileOf fmt false (patternBytes fmt planes p.toNat) = .ok tile → fmt < 4 → ∀ i j, i < 64 → j < 64 →
        (pattern i j → ratOf (tile.at i j) = 1) ∧ (¬ pattern i j → ratOf (tile.at i j) = 0))

/-- R249: tadd adds or subtracts, and tscl scales, every element of the tile rows, with one rounding; R251: trd and twr move a
tile row; R237, R238: ofs and ofsr write and read an offset register; the failing checks raise FMT COMBO and PARK NOTILE in
order. -/
def Sys2Proof.Claims.TileArithmetic : Prop :=
  ∀ (s : State) (d z o : BitVec 3) (n q : BitVec 1) (x xa xb : BitVec 5) (v r : BitVec 6), Clean s →
    (s.acc = true → Traps (.tadd d z n) s .fmt 2 0 0 ∧ Traps (.tscl z x) s .fmt 2 0 0) ∧
    (s.acc = false → s.af ≤ 4 → s.bf ≤ 4 →
      (s.rows d.toNat = 0 ∨ s.rows z.toNat < s.rows d.toNat → Traps (.tadd d z n) s .park 5 0 0) ∧
      (s.rows d.toNat ≠ 0 → s.rows d.toNat ≤ s.rows z.toNat → WritesTile (.tadd d z n) s s d.toNat (s.rows d.toNat)
        (fun i j e =>
          let w := (s.zrow z.toNat i).toList.getD j 0
          if n = 1 then (f32Sub e w).1 else (f32Add e w).1) id) ∧
      (s.rows z.toNat = 0 → Traps (.tscl z x) s .park 5 0 0) ∧
      (s.rows z.toNat ≠ 0 → WritesTile (.tscl z x) s s z.toNat (s.rows z.toNat)
        (fun _ _ e => (f32Mul e ((s.x x).setWidth 32)).1) id)) ∧
    (s.rows z.toNat ≤ r.toNat → Traps (.trd z v r) s .park 5 0 0 ∧ Traps (.twr z v r) s .park 5 0 0) ∧
    (r.toNat < s.rows z.toNat →
      (∀ t, s.dst v (BitVec.allOnes 64) (s.zrow z.toNat r.toNat) = .ok t → Answers (.trd z v r) s t) ∧
      (∀ u e, s.src v = .ok (u, e) → Answers (.twr z v r) s (u.setZrow z.toNat r.toNat e) ∧
        (u.setZrow z.toNat r.toNat e).zrow z.toNat r.toNat = e ∧
        ∀ k i, k < 8 → (k, i) ≠ (z.toNat, r.toNat) → (u.setZrow z.toNat r.toNat e).zrow k i = u.zrow k i)) ∧
    Answers (.ofs o xa xb) s (s.setO o.toNat { addr := (s.x xa).setWidth 21, stride := s.x xb }) ∧
    Answers (.ofsr o xa q) s (s.setX xa
      (if q = 1 then (s.o o.toNat).stride else 0xFFFFFF0000000000#64 + (s.o o.toNat).addr.setWidth 64)) ∧
    (∀ k, k < 8 → (s.setO o.toNat { addr := (s.x xa).setWidth 21, stride := s.x xb }).o k =
      if k = o.toNat then { addr := (s.x xa).setWidth 21, stride := s.x xb } else s.o k)

/-- R250: tcvt writes the converted tile rows row after row at ADDR of its offset register, which PI advances, and raises the
flags of the conversions; it raises FMT COMBO, PARK NOTILE, ALIGN or BANK SPANS where a check fails, and waits for copies of the
core that still have a granule of the rows to read or write. -/
def Sys2Proof.Claims.TileConversion : Prop :=
  ∀ (s : State) (z o t r : BitVec 3) (p : BitVec 1), Clean s →
    let i := Instr.tcvt z o t p r
    let rows := s.rows z.toNat
    let n := if t = 0 then 128 else if t = 3 then 32 else if t = 4 then 256 else 64
    let off := (s.o o.toNat).addr.toNat
    let elem := fun (i j : Nat) => (s.zrow z.toNat i).toList.getD j 0
    let rnd := fun (i j : Nat) => if s.rm = 4 then ((s.zrow r.toNat i).toList.getD j 0).toNat % 65536 else 0
    let code := fun (i j : Nat) =>
      if t = 4 then ((elem i j).toNat, (0 : Flags))
      else (if t = 0 then bf16 else if t = 1 then e4m3 else if t = 2 then e5m2 else e2m1).convert s.saturates (Rm.ofCode s.rm)
        (rnd i j) (ofF32 (elem i j))
    let row := fun i : Nat =>
      if t = 3 then (List.range 32).map fun k => BitVec.ofNat 8 ((code i (2 * k)).1 + 16 * (code i (2 * k + 1)).1)
      else (List.range 64).flatMap fun j => leBytes (n / 64) (code i j).1
    t.toNat ≤ 4 → s.af ≤ 4 → s.bf ≤ 4 →
    (s.acc = true → Traps i s .fmt 2 0 0) ∧
    (s.acc = false → rows = 0 → Traps i s .park 5 0 0) ∧
    (s.acc = false → rows ≠ 0 → s.rm = 4 → s.rows r.toNat < rows → Traps i s .park 5 0 0) ∧
    (s.acc = false → rows ≠ 0 → (s.rm = 4 → rows ≤ s.rows r.toNat) →
      (off % 16 ≠ 0 → Traps i s .align 1 (BitVec.ofNat 64 (0xFFFFFF0000000000 + off)) 0) ∧
      (off % 16 = 0 → off / 524288 ≠ (off + rows * n - 1) / 524288 → Traps i s .bank 2 0 0) ∧
      (off % 16 = 0 → off / 524288 = (off + rows * n - 1) / 524288 → s.cur < 2048 →
        let busy := s.behindParts true ((List.range (rows * n)).map fun k => s.cur * 2 ^ 49 + off + k)
        (busy = true → Waits i s) ∧
        (busy = false → ∃ e : Flags,
        let u := (s.flag e).flushStreams.writeCore
          ((List.range (rows * n)).map fun k => (s.cur * 2 ^ 49 + off + k, ((List.range rows).flatMap row).getD k 0))
        e = (List.range rows).foldl (fun f i => (List.range 64).foldl (fun f j => f ||| (code i j).2) f) 0 ∧
        Answers i s (if p = 1 then u.advance o.toNat else u))))

/-! Copies, counters, atomics, queue appends. -/

namespace Sys2Proof.Claims

open Sys2Proof.Machine

/-- Row `i` of a descriptor: its place in each of the dimensions 1 to 5, dimension 1 fastest (spec/21 R284). -/
def placeOf (d : BitVec 512) (i k : Nat) : Nat :=
  i / ((List.range (k - 1)).map fun j => countOf d (j + 1)).prod % countOf d k

/-- The offset of row `i` under the strides `f` of the dimensions 1 to 5. -/
def offsetOf (d : BitVec 512) (f : Nat → W64) (i : Nat) : W64 :=
  (List.range 5).foldl (fun a k => a + BitVec.ofNat 64 (placeOf d i (k + 1)) * f (k + 1)) 0

/-- The number of rows. -/
def rowCount (d : BitVec 512) : Nat := ((List.range 5).map fun k => countOf d (k + 1)).prod

/-- The source rows at a base address. -/
def srcRows (d : BitVec 512) (base : W64) : List (W64 × Nat) :=
  (List.range (rowCount d)).map fun i => (base + offsetOf d (srcStride d) i, esizeOf d * countOf d 0)

/-- The destination rows at a base address. -/
def dstRows (d : BitVec 512) (base : W64) : List (W64 × Nat) :=
  (List.range (rowCount d)).map fun i => (base + offsetOf d (dstStride d) i, esizeOf d * countOf d 0)

/-- `m` rows at a base, `i` strides apart, or at indices that a list gives. -/
def rowsAt (d : BitVec 512) (base stride : W64) (idx : List W64) : List (W64 × Nat) :=
  idx.map fun i => (base + i * stride, esizeOf d * countOf d 0)

/-- The indices 0, 1, ... -/
def counting (n : Nat) : List W64 := (List.range n).map (BitVec.ofNat 64)

/-- A watched line counts for the agent that moves. -/
def Unwatched (ts : List Touch) : Prop := ∀ t ∈ ts, t.watched = false

end Sys2Proof.Claims

/-- R281-R284: cdesc loads 64 aligned bytes into its descriptor register, and nothing else; a descriptor is good when E is at
most 16, no count is 0, the reserved fields are 0 and B is below 2^40; its rows are visited with dimension 1 fastest. -/
def Sys2Proof.Claims.CopyDescriptors : Prop :=
  ∀ (s : State) (c x : BitVec 5) (d : BitVec 512), Clean s →
    (∀ u bs, s.load [(s.x x, 64)] (misaligned (s.x x) 64) = .ok (u, bs) → ∃ t, Answers (.cdesc c x) s t ∧
      t.core.cd[c.toNat] = BitVec.ofNat 512 (leNat bs) ∧ (∀ k : Fin 32, k.val ≠ c.toNat → t.core.cd[k] = u.core.cd[k]) ∧
      t.core.x = u.core.x ∧ t.core.v = u.core.v ∧ t.st = u.st) ∧
    (∀ e, s.load [(s.x x, 64)] (misaligned (s.x x) 64) = .error e → exec (.cdesc c x) s = .next (s.stop e)) ∧
    ((rowsOf d).map (·.1) = (List.range (rowCount d)).map (offsetOf d (srcStride d))) ∧
    ((rowsOf d).map (·.2) = (List.range (rowCount d)).map (offsetOf d (dstStride d))) ∧
    (bytesOf d = 2 ^ (d.toNat / 2 ^ 32 % 8) * (d.toNat % 2 ^ 32) * rowCount d) ∧
    (∀ m, descGood d m = true ↔ d.toNat / 2 ^ 32 % 8 ≤ 4 ∧ d.toNat % 2 ^ 32 ≠ 0 ∧ rowCount d ≠ 0 ∧
      d.toNat / 2 ^ 35 % 2 ^ 13 = 0 ∧ d.toNat / 2 ^ 184 % 2 ^ 8 = 0 ∧ (m = true ∨ d.toNat / 2 ^ 48 % 2 ^ 16 = 0) ∧
      bytesOf d < 2 ^ 40) ∧
    (16 ≤ s.portOps → s.engineRoom = .error .wait) ∧ (s.portOps < 16 → s.engineRoom = .ok ())

/-- R279, R286-R290: the copies: with room on the port and a good descriptor each issues the copy of its rows: cpy, cpys and
cpyo row by row; cpyg from, and cpyx to, the rows that the index list at x(xs + 1) names; cpyg.ob into an operand buffer; cpyb
to the U-pads of the cores of BMASK; pfill with the low E bytes of x[xs]. A bad descriptor, and a nonzero BMASK in any of them
but cpyb, raises STREAM BADCOPY; a full port, and a copy into a buffer or scale memory that another copy still fills, wait
(R234). -/
def Sys2Proof.Claims.CopyInstructions : Prop :=
  ∀ (s : State) (c h x e : BitVec 5), Clean s →
    let d := s.core.cd[c.toNat]
    let all := [Instr.cpy c h x e, .cpys c h x e, .cpyo c h x e, .cpyg c h x e, .cpygOb c h x e, .cpyx c h x e, .cpyb c h x e,
      .pfill c h x e]
    let flat := countOf d 2 = 1 ∧ countOf d 3 = 1 ∧ countOf d 4 = 1 ∧ countOf d 5 = 1
    let n := countOf d 1
    (∀ i ∈ all, 16 ≤ s.portOps → Waits i s) ∧
    (∀ i ∈ all, s.portOps < 16 → descGood d true = false → Traps i s .stream 9 0 0) ∧
    (∀ i ∈ all, s.portOps < 16 → descGood d false = false → i ≠ .cpyb c h x e → Traps i s .stream 9 0 0) ∧
    (s.portOps < 16 → descGood d false = true →
      (∀ t, s.copyIssue d h (some (srcRows d (s.x x))) [] (dstRows d (s.x e)) .mem = .ok t → Answers (.cpy c h x e) s t) ∧
      (∀ k os, regOffsets k (s.x e) (rowLen d) ((dstRows d 0).map (·.1)) = .ok os → s.filling k (os.headD 0) = true →
        (k = 10 → Waits (.cpys c h x e) s) ∧ (k = 9 → Waits (.cpyo c h x e) s)) ∧
      (∀ os t, s.regDest 10 (s.x e) (rowLen d) ((dstRows d 0).map (·.1)) = .ok os →
        s.copyIssue d h (some (srcRows d (s.x x))) [] [] (.regs 10 os) = .ok t → Answers (.cpys c h x e) s t) ∧
      (∀ os t, s.regDest 9 (s.x e) (rowLen d) ((dstRows d 0).map (·.1)) = .ok os →
        s.copyIssue d h (some (srcRows d (s.x x))) [] [] (.regs 9 os) = .ok t → Answers (.cpyo c h x e) s t) ∧
      (esizeOf d ≤ 8 → ∀ t,
        s.copyIssue d h none (List.replicate (elementsOf d) (leBytes (esizeOf d) (s.x x).toNat)).flatten
          (dstRows d (s.x e)) .mem = .ok t → Answers (.pfill c h x e) s t) ∧
      (8 < esizeOf d → Traps (.pfill c h x e) s .stream 9 0 0) ∧
      (¬ flat → Traps (.cpyg c h x e) s .stream 9 0 0 ∧ Traps (.cpygOb c h x e) s .stream 9 0 0 ∧
        Traps (.cpyx c h x e) s .stream 9 0 0) ∧
      (flat → ∀ os, regOffsets 9 (s.x e) (rowLen d) ((rowsAt d 0 (dstStride d 1) (counting n)).map (·.1)) = .ok os →
        s.filling 9 (os.headD 0) = true → Waits (.cpygOb c h x e) s) ∧
      (flat →
        let lost := fun bad : List Nat => bad.flatMap fun i => (List.range (rowLen d)).map fun k => i * rowLen d + k
        let src := fun idx => rowsAt d (s.x x) (srcStride d 1) idx
        let dst := fun idx => rowsAt d (s.x e) (dstStride d 1) idx
        let listed := fun (fixed : List Part) (parts : List W64 → List Part) => s.indexList d (s.x (x + 1)) fixed parts
        let gathers := listed [writePart (dst (counting n))] fun idx => [readPart (src idx), writePart (dst (counting n))]
        let fills := listed [writePart []] fun idx => [readPart (src idx), writePart []]
        let scatters := listed [readPart (src (counting n))] fun idx => [readPart (src (counting n)), writePart (dst idx)]
        (∀ u idx bad t, gathers = .ok (u, idx, bad) →
          u.copyIssue d h (some (src idx)) [] (dst (counting n)) .mem (lost bad) = .ok t → Answers (.cpyg c h x e) s t) ∧
        (∀ os u idx bad t, s.regDest 9 (s.x e) (rowLen d) ((rowsAt d 0 (dstStride d 1) (counting n)).map (·.1)) = .ok os →
          fills = .ok (u, idx, bad) → u.copyIssue d h (some (src idx)) [] [] (.regs 9 os) (lost bad) = .ok t →
          Answers (.cpygOb c h x e) s t) ∧
        (∀ u idx bad t, scatters = .ok (u, idx, bad) →
          u.copyIssue d h (some (src (counting n))) [] (dst idx) .mem (lost bad) = .ok t → Answers (.cpyx c h x e) s t) ∧
        (∀ v, gathers = .error v → exec (.cpyg c h x e) s = .next (s.stop v)) ∧
        (∀ v, scatters = .error v → exec (.cpyx c h x e) s = .next (s.stop v)))) ∧
    (s.portOps < 16 → descGood d true = true →
      let mask := d.toNat / 2 ^ 48 % 2 ^ 16
      let ns := ((List.range 16).filter fun k => mask / 2 ^ k % 2 == 1).map fun k => s.cur / 16 * 16 + k
      let target := fun n : Nat => ((s.coreAt n).run = .running ∨ (s.coreAt n).run = .blocked) ∧
        ∃ a b, (s.coreAt n).shot = some a ∧ s.core.shot = some b ∧ a.launch = b.launch
      let good := 0xFFFFFF0000000000 ≤ (s.x e).toNat ∧ mask ≠ 0 ∧ s.cur < 2048 ∧ ∀ n ∈ ns, target n
      (¬ good → Traps (.cpyb c h x e) s .stream 9 0 0) ∧
      (good → ∀ t, s.copyIssue d h (some (srcRows d (s.x x))) [] (dstRows d (s.x e)) (.cores ns) = .ok t →
        Answers (.cpyb c h x e) s t))

/-- R279, R284, R285, R53: a copy that issues stands in flight with its counter and B to be added and the bytes that it
resolved, reads no register after that, and leaves storage as it is; when it moves its bytes, with no word in error and its
destination bytes distinct, unwatched, of no poisoned unit and of lines that can be decrypted, each destination byte holds its
source byte as it stands then, and no other byte of storage changes; each granule of a pad that it writes is FULL; a copy into
an operand buffer fills its bytes there. (At which step the bytes move is the model's free choice: log 15.) -/
def Sys2Proof.Claims.CopyIssue : Prop :=
  (∀ (s t : State) (d : BitVec 512) (h : BitVec 5) (src : Option (List (W64 × Nat))) (fill : List Byte) (dst : List (W64 × Nat))
    (bads : List Nat), s.copyIssue d h src fill dst .mem bads = .ok t →
    ∃ o, t.eng.ops = s.eng.ops ++ [o] ∧ t.eng.next = s.eng.next + 1 ∧ o.id = s.eng.next ∧ o.kind = .copy ∧ o.agent = s.cur ∧
      o.port = s.cport ∧ o.committed = false ∧ o.desc = d ∧ (h = 0 → o.key = none ∧ t.sync.held = s.sync.held) ∧
      (h ≠ 0 → ∃ k, s.counterKey s.asid (s.x h) = some k ∧ o.key = some k ∧ t.sync.held = s.sync.held ++
        [{ agent := s.cur, key := k, amount := BitVec.ofNat 64 (bytesOf d), op := some s.eng.next, tested := true }]) ∧
      t.core.x = s.core.x ∧ t.core.v = s.core.v ∧ t.core.cd = s.core.cd ∧ t.sync.value = s.sync.value ∧ o.row = fill ∧
      o.bads = bads ∧
      (∀ u ta tb, s.checkParts (src.getD []) dst = .ok (u, ta, tb) →
        o.reads = ta.map (fun c => (c.raw, c.watched)) ∧ o.writes = tb.map fun c => (c.raw, c.watched)) ∧
      (s.core.pushed = [] → s.st.flaws = [] →
        t.st.mem = s.st.mem ∧ t.st.empty = s.st.empty ∧ t.st.poison = s.st.poison)) ∧
  (∀ (s : State) (o : EngineOp), o.agent = s.cur → s.st.canonical → s.st.flaws = [] → (o.writes.map (·.1)).Nodup →
    let t := s.moveCopy o
    let n := if o.reads = [] then o.row.length else o.reads.length
    let value := fun k : Nat => if o.reads = [] then o.row.getD k 0 else s.byte ((o.reads.map (·.1)).getD k 0)
    ((∀ w ∈ o.writes, w.2 = false ∧ levelOf w.1 < 9 ∧ s.poisoned w.1 = false ∧ s.unlocked (lineOf w.1) = true) →
      (∀ r, (∀ w ∈ o.writes, w.1 ≠ r) → t.memByte r = s.memByte r) ∧
      (∀ k, k < o.writes.length → k < n → t.memByte ((o.writes.map (·.1)).getD k 0) = value k ∧
        (levelOf ((o.writes.map (·.1)).getD k 0) < 3 → t.isEmpty (granuleOf ((o.writes.map (·.1)).getD k 0)) = false))) ∧
    ((∀ w ∈ o.writes, levelOf w.1 = 9) → Store.wf 0 s.core.bufs = true → t.st.mem = s.st.mem ∧
      ∀ k, k < o.writes.length → k < n → k ∉ o.bads → (o.reads = [] ∨ s.bad ((o.reads.map (·.1)).getD k 0) = false) →
        Store.get 0 t.core.bufs ((o.writes.map (·.1)).getD k 0 % 2 ^ 60) = value k))

/-- R291, R95-R99: cadd holds its add for the take, and raises COUNTER BADHANDLE or OVERFLOW; cwait waits until the value is at
least its target; ctest writes lane 0 of its predicate and cread its register, and a single wrong bit that they meet is
corrected; the value changes only when the take commits. That POISON comes before OVERFLOW (log 37) and that ASID 0 names no
counter (log 58) are the model's readings. -/
def Obligations.CounterInstructions : Prop :=
  ∀ (s : State) (h v i : BitVec 5) (c n : BitVec 3) (j : BitVec 8), Clean s →
    let imm := BitVec.ofNat 64 (i.toNat * 256 + j.toNat)
    let held := fun (k : Nat) (a : W64) => { s with sync := { s.sync with
      held := s.sync.held ++ [{ agent := s.cur, key := k, amount := a, op := none, tested := true }] } }
    let full := fun (k : Nat) (a : W64) => 2 ^ 64 ≤ (s.counter k).toNat + s.heldSum k + a.toNat
    (s.counterKey s.asid (s.x h) = none →
      ∀ op ∈ [Instr.cadd h v c, .caddImm h i c j, .cwait h v c, .ctest h v c n, .cread h v c], Traps op s .counter 2 0 0) ∧
    (∀ k, s.counterKey s.asid (s.x h) = some k → s.counterBad k = false →
      (full k (s.x v) → Traps (.cadd h v c) s .counter 1 0 0) ∧
      (¬ full k (s.x v) → Answers (.cadd h v c) s (held k (s.x v))) ∧
      (full k imm → Traps (.caddImm h i c j) s .counter 1 0 0) ∧
      (¬ full k imm → Answers (.caddImm h i c j) s (held k imm)) ∧
      ((s.x v).toNat ≤ (s.counter k).toNat → Answers (.cwait h v c) s (s.settleCounter k)) ∧
      ((s.counter k).toNat < (s.x v).toNat → Waits (.cwait h v c) s) ∧
      (s.det = false →
        Answers (.ctest h v c n) s ((s.settleCounter k).setPLane0 n (decide ((s.x v).toNat ≤ (s.counter k).toNat))) ∧
        Answers (.cread h v c) s ((s.settleCounter k).setX v (s.counter k))) ∧
      (s.settleCounter k).core = s.core ∧ (s.settleCounter k).st = s.st ∧
      (s.settleCounter k).sync.value = s.sync.value ∧ (s.sync.flaws = [] → s.settleCounter k = s)) ∧
    (∀ k, s.counterKey s.asid (s.x h) = some k → s.counterBad k = true →
      ∀ op ∈ [Instr.cadd h v c, .caddImm h i c j, .cwait h v c, .ctest h v c n, .cread h v c],
        Traps op s .poison 0 (s.x h) 0) ∧
    (∀ (w : W64) (k a : Nat), s.counterKey a w = some k → a ≠ 0 ∧ w.toNat / 2 ^ 32 = 0 ∧ w.toNat / 2 ^ 22 % 2 ^ 7 = 0 ∧
      k % 2 ^ 22 = w.toNat % 2 ^ 22 ∧ Store.get 0 s.sync.owner k = a) ∧
    (∀ (k : Nat) (a : W64) (src : Nat), s.Canonical → s.arrivalsOf k = none → s.counterBad k = false →
      (s.applyAdd k a src 0).counter k = s.counter k + a ∧
      ∀ l, l ≠ k → Store.get 0 (s.applyAdd k a src 0).sync.value l = Store.get 0 s.sync.value l)

/-- R292, R102: an atomic reads the word at its address, writes the new one at once, and returns the old one, sign-extended for
min and max; the take counts as having performed an atomic; on the core's own U-pad each completes at an aligned address, and a
misaligned one raises ALIGN. -/
def Sys2Proof.Claims.Atomics : Prop :=
  ∀ (s : State) (d a b : BitVec 5) (w c : BitVec 2), Clean s → (w = 2 ∨ w = 3) →
    let n := if w = 2 then 4 else 8
    let low := fun v : W64 => if w = 2 then v &&& 0xFFFFFFFF#64 else v
    let signed := fun v : W64 => if w = 2 then (v.setWidth 32).signExtend 64 else v
    let less := fun p q : W64 => (signed p).toInt < (signed q).toInt
    (∀ u ts, s.atomicTouch (s.x a) n n = .ok (u, ts) → s.det = false →
      let m := BitVec.ofNat 64 (leNat (ts.map fun t => u.byte t.raw))
      let v := low (s.x b)
      let done := fun (new res : W64) =>
        ((u.writeAtomic (writesOf ts (leBytes n new.toNat))).tookAtomic).setX d res
      u.core.x = s.core.x → u.det = false →
      Answers (.amoAdd d a b w c) s (done (m + v) m) ∧ Answers (.amoAnd d a b w c) s (done (m &&& v) m) ∧
      Answers (.amoOr d a b w c) s (done (m ||| v) m) ∧ Answers (.amoXor d a b w c) s (done (m ^^^ v) m) ∧
      Answers (.amoXchg d a b w c) s (done v m) ∧
      Answers (.amoMin d a b w c) s (done (if less v m then v else m) (signed m)) ∧
      Answers (.amoMax d a b w c) s (done (if less m v then v else m) (signed m)) ∧
      Answers (.amocas d a b w c) s (done (if m = low (s.x d) then v else m) m)) ∧
    (∀ e, s.atomicTouch (s.x a) n n = .error e →
      ∀ i ∈ [Instr.amoAdd d a b w c, .amoMin d a b w c, .amoMax d a b w c, .amoAnd d a b w c, .amoOr d a b w c, .amoXor d a b w c,
        .amoXchg d a b w c, .amocas d a b w c], exec i s = .next (s.stop e)) ∧
    (∀ ws : List (Nat × Byte), s.st.canonical → s.st.flaws = [] → (∀ q ∈ ws, s.unlocked (lineOf q.1) = true) →
      (∀ r, (∀ q ∈ ws, q.1 ≠ r) → (s.writeAtomic ws).memByte r = s.memByte r) ∧
      ((∀ q ∈ ws, s.poisoned q.1 = false) → (ws.map (·.1)).Nodup → ∀ q ∈ ws, (s.writeAtomic ws).memByte q.1 = q.2)) ∧
    s.tookAtomic.core.take.atomic = true ∧
    -- each completes on an aligned word of the core's own U-pad, and traps on a misaligned one
    (∀ o, Sys2Proof.Claims.OwnPad s → s.det = false → (s.x a).toNat = 0xFFFFFF0000000000 + o → o + n ≤ 0x200000 →
      (o % n ≠ 0 → ∀ i ∈ [Instr.amoAdd d a b w c, .amoMin d a b w c, .amoMax d a b w c, .amoAnd d a b w c, .amoOr d a b w c,
        .amoXor d a b w c, .amoXchg d a b w c, .amocas d a b w c], Traps i s .align 1 (s.x a) 0) ∧
      (o % n = 0 →
        let m := BitVec.ofNat 64 (padWord s o n)
        let v := low (s.x b)
        let does := fun (i : Instr) (new res : W64) => ∃ t, Answers i s t ∧ padWord t o n = new.toNat % 2 ^ (8 * n) ∧
          (∀ e, e < s.cur * 2 ^ 49 + o ∨ s.cur * 2 ^ 49 + o + n ≤ e → t.memByte e = s.memByte e) ∧
          t.core.x = (s.setX d res).core.x ∧ t.core.v = s.core.v ∧ t.core.take.atomic = true
        does (.amoAdd d a b w c) (m + v) m ∧ does (.amoAnd d a b w c) (m &&& v) m ∧ does (.amoOr d a b w c) (m ||| v) m ∧
        does (.amoXor d a b w c) (m ^^^ v) m ∧ does (.amoXchg d a b w c) v m ∧
        does (.amoMin d a b w c) (if less v m then v else m) (signed m) ∧
        does (.amoMax d a b w c) (if less m v then v else m) (signed m) ∧
        does (.amocas d a b w c) (if m = low (s.x d) then v else m) m))

/-- R293: qapp of a good header: a full ring answers all ones and a bad LG all ones but bit 0, with nothing written; otherwise
WRITE advances by one, the slot that it named receives bytes 0 to 62 of the packet and the lap byte, and xv its index. -/
def Sys2Proof.Claims.QueueAppend : Prop :=
  ∀ (s u : State) (h v : BitVec 5) (c : BitVec 3) (n : BitVec 5) (ts : List Touch), Clean s →
    s.atomicTouch (s.x h) 64 64 = .ok (u, ts) →
    let hd := leNat (ts.map fun t => u.byte t.raw)
    let w := hd % 2 ^ 64
    let r := hd / 2 ^ 64 % 2 ^ 64
    let ring := BitVec.ofNat 64 (hd / 2 ^ 128)
    let lg := hd / 2 ^ 192 % 32
    ts.length = 64 →
    (lg < 4 ∨ 16 < lg → Answers (.qapp h v c n) s (u.tookAtomic.setX v 0xFFFFFFFFFFFFFFFE#64)) ∧
    (4 ≤ lg → lg ≤ 16 → ∀ ps, u.checkRanges { write := true } [(ring, 64 * 2 ^ lg)] (misaligned ring 64) = .ok ps →
      (2 ^ lg ≤ (w + 2 ^ 64 - r) % 2 ^ 64 →
        Answers (.qapp h v c n) s ((u.cache ps).tookAtomic.setX v 0xFFFFFFFFFFFFFFFF#64)) ∧
      ((w + 2 ^ 64 - r) % 2 ^ 64 < 2 ^ lg → ∀ x us y,
        (u.cache ps).check { write := true } [(ring + BitVec.ofNat 64 (64 * (w % 2 ^ lg)), 64)] none = .ok (x, us) →
        (x.behindParts true (us.map (·.raw)) = true → Waits (.qapp h v c n) s) ∧
        (x.behindParts true (us.map (·.raw)) = false → x.watchAll true us = .ok y →
        ∃ t bytes, Answers (.qapp h v c n) s (t.tookAtomic.setX v (BitVec.ofNat 64 w)) ∧
          t = (y.writeAtomic (writesOf ts (leBytes 8 ((w + 1) % 2 ^ 64)))).writeAtomic (writesOf us bytes) ∧
          bytes.length = 64 ∧ bytes.getD 63 0 = BitVec.ofNat 8 (1 + w / 2 ^ lg) ∧
          ∀ k, k < 63 → (bytes.getD k 0).toNat = ((s.v n.toNat).toList.getD (k / 4) 0).toNat / 256 ^ (k % 4) % 256))) ∧
    (4 ≤ lg → lg ≤ 16 → ∀ e, u.checkRanges { write := true } [(ring, 64 * 2 ^ lg)] (misaligned ring 64) = .error e →
      exec (.qapp h v c n) s = .next (s.stop e))

/-- R293: a qapp completes where its header and its ring stand aligned in the core's own U-pad: a full ring answers all ones,
and storage keeps its bytes; else the slot that WRITE names receives the packet and the lap byte, WRITE advances by one, xv
receives its index, and no other byte of storage changes. -/
def Sys2Proof.Claims.QueueAppendCompletes : Prop :=
  ∀ (s : State) (h v : BitVec 5) (c : BitVec 3) (n : BitVec 5) (o ro : Nat), Clean s → OwnPad s →
    (s.x h).toNat = 0xFFFFFF0000000000 + o → o % 64 = 0 → o + 64 ≤ 0x200000 →
    let w := padWord s o 8
    let lg := padWord s (o + 24) 1 % 32
    let used := (w + 2 ^ 64 - padWord s (o + 8) 8) % 2 ^ 64
    let so := ro + 64 * (w % 2 ^ lg)
    let outside := fun (e k : Nat) (len : Nat) => e < s.cur * 2 ^ 49 + k ∨ s.cur * 2 ^ 49 + k + len ≤ e
    (lg < 4 ∨ 16 < lg → ∃ t, Answers (.qapp h v c n) s t ∧ t.core.x = (s.setX v 0xFFFFFFFFFFFFFFFE#64).core.x ∧ t.st.mem = s.st.mem) ∧
    (4 ≤ lg → lg ≤ 16 → padWord s (o + 16) 8 = 0xFFFFFF0000000000 + ro → ro % 64 = 0 → ro + 64 * 2 ^ lg ≤ 0x200000 →
      (2 ^ lg ≤ used → ∃ t, Answers (.qapp h v c n) s t ∧ t.core.x = (s.setX v 0xFFFFFFFFFFFFFFFF#64).core.x ∧ t.st.mem = s.st.mem) ∧
      (used < 2 ^ lg → ∃ t, Answers (.qapp h v c n) s t ∧ t.core.x = (s.setX v (BitVec.ofNat 64 w)).core.x ∧
        (∀ k, k < 63 → padWord t (so + k) 1 = ((s.v n.toNat).toList.getD (k / 4) 0).toNat / 256 ^ (k % 4) % 256) ∧
        padWord t (so + 63) 1 = (1 + w / 2 ^ lg) % 256 ∧
        (o + 8 ≤ so ∨ so + 64 ≤ o → padWord t o 8 = (w + 1) % 2 ^ 64) ∧
        ∀ e, outside e o 8 → outside e so 64 → t.memByte e = s.memByte e))

/-! The combine buffer and the collectives. -/

/-- R298-R301, R306, R307: cbcfg configures a stream, or unconfigures it where S is 0, and raises CBFIT in its order; cbal gives
the slot of a live token with the same pairs, or a free slot, and waits or answers all ones where none is free; cbst reads a
statistic; cbdrop frees a token's slot and counts it; a bad handle raises CBMISS NOSTREAM. That a stream configured by any
context counts for all (log 29), which slot is taken (log 65), and that cbcfg checks and takes effect when it issues (log 40)
are the model's readings. -/
def Sys2Proof.Claims.CombineStreams : Prop :=
  ∀ (s : State) (h a d v n : BitVec 5) (p : BitVec 3) (f : BitVec 9), Clean s →
    (s.portOps < 16 → s.streamKey (s.x d) = none → Traps (.cbcfg h a d) s .cbmiss 4 0 0) ∧
    (s.portOps < 16 → ∀ k u bs, s.streamKey (s.x d) = some k → s.readBlock (s.x a) 64 64 = .ok (u, bs) →
      let t := BitVec.ofNat 512 (leNat bs)
      ((u.cstream k).live ≠ [] → Traps (.cbcfg h a d) s .cbfit 4 0 0) ∧
      ((u.cstream k).live = [] → t.toNat / 2 ^ 64 % 2 ^ 16 = 0 → Answers (.cbcfg h a d) s (u.setCstream k CStream.none)) ∧
      ((u.cstream k).live = [] → t.toNat / 2 ^ 64 % 2 ^ 16 ≠ 0 → ∀ key,
        ((h = 0 ∧ key = none) ∨ (h ≠ 0 ∧ ∃ q, u.needCounter (u.x h) = .ok q ∧ key = some q)) →
        let c := streamOf t u.asid ((u.core.shot.map (·.launch)).getD (2 ^ 64)) key
        let fits := c.s * (128 + c.k * c.d * (if c.inF32 then 4 else 2)) ≤ c.rlen * 1048576
        (configGood t u.det = false → Traps (.cbcfg h a d) s .cbfit 3 0 0) ∧
        (configGood t u.det = true → u.regionBad k c = true → Traps (.cbcfg h a d) s .cbfit 2 0 0) ∧
        (configGood t u.det = true → u.regionBad k c = false → ¬ fits → Traps (.cbcfg h a d) s .cbfit 1 0 0) ∧
        (configGood t u.det = true → u.regionBad k c = false → fits → Answers (.cbcfg h a d) s (u.setCstream k c) ∧
          c.live = [] ∧ c.recent = [] ∧ c.released = 0 ∧ c.late = 0 ∧ c.timeouts = 0 ∧ c.drops = 0))) ∧
    ((∀ k, s.streamKey (s.x h) = some k → (s.cstream k).configured = false) →
      ∀ i ∈ [Instr.cbal h v n, .cbalNb h v p n, .cbst h v f, .cbdrop h v], Traps i s .cbmiss 4 0 0) ∧
    (∀ k, s.streamKey (s.x h) = some k → (s.cstream k).configured = true →
      let st := s.cstream k
      let rec_ := s.v n.toNat
      (∀ u j, s.allocate k rec_ = .ok (u, some j) →
        Answers (.cbal h v n) s (u.setX v (BitVec.ofNat 64 j)) ∧
        Answers (.cbalNb h v p n) s ((u.setX v (BitVec.ofNat 64 j)).setPLane0 p true)) ∧
      (∀ u, s.allocate k rec_ = .ok (u, none) → Waits (.cbal h v n) s ∧
        Answers (.cbalNb h v p n) s ((u.setX v 0xFFFFFFFFFFFFFFFF#64).setPLane0 p false)) ∧
      (∀ token pairs, token = (rec_.toList.getD 0 0).toNat → pairs = pairsIn rec_ st.k →
        (sharesExpert pairs = true → s.allocate k rec_ = trap .cbdup 2) ∧
        (sharesExpert pairs = false →
          (∀ j c, st.slotOf token = some (j, c) → c.pairs = pairs → s.allocate k rec_ = .ok (s, some j)) ∧
          (∀ j c, st.slotOf token = some (j, c) → c.pairs ≠ pairs → s.allocate k rec_ = trap .cbdup 1) ∧
          (st.slotOf token = none → (∀ j, j < st.s → (Store.get none st.slots j).isSome = true) →
            s.allocate k rec_ = .ok (s, none)) ∧
          (st.slotOf token = none → (∃ j, j < st.s ∧ Store.get none st.slots j = none) → Store.wf CStream.none s.eng.streams = true →
            ∃ u j c, s.allocate k rec_ = .ok (u, some j) ∧ j < st.s ∧ Store.get none st.slots j = none ∧
              Store.get none (u.cstream k).slots j = some c ∧ c.token = token ∧ c.pairs = pairs ∧ c.arrived = 0 ∧
              c.seq = st.nextSeq ∧ (u.cstream k).recent = st.recent.filter (· != token) ∧
              (c.deadline = none ↔ st.timeout = 0)))) ∧
      (s.det = false → Answers (.cbst h v f) s (s.setX v (BitVec.ofNat 64 (if f = 0 then st.late else if f = 1 then st.live.length
        else if f = 2 then st.released else if f = 3 then st.timeouts else st.drops)))) ∧
      (st.slotOf ((s.x v).toNat % 2 ^ 32) = none → Traps (.cbdrop h v) s .cbmiss 1 0 0) ∧
      (∀ j c, st.slotOf ((s.x v).toNat % 2 ^ 32) = some (j, c) →
        Answers (.cbdrop h v) s (((s.setCstream k (st.dropSlot j)).leaveStream k j c).drain k) ∧
        (st.dropSlot j).drops = st.drops + 1 ∧ (st.dropSlot j).slots = st.slots ∧ (st.dropSlot j).recent = st.recent)) ∧
    (∀ v : Lanes, ∀ k, ((pairsIn v k).map (·.1)).Pairwise (· ≤ ·) ∧ (pairsIn v k).length = k)

/-- R302-R305, R90: cbput is accepted, repeated, late or refused as the home decides, and its row is read once no open write of
another agent stands on it; its row replaces contribution j, whose bit the put that holds it sets; a complete slot is released,
in token order only the oldest; the released sum is formed in ascending position with one rounding a term; a deadline completes
a slot, or under FAULT makes it leave with CBTIME. -/
def Sys2Proof.Claims.CombineDeposits : Prop :=
  ∀ (s : State) (c h a d : BitVec 5), Clean s →
    let w := (s.x d).toNat
    let token := w / 2 ^ 32
    let expert := w / 2 ^ 16 % 2 ^ 16
    let desc := s.core.cd[c.toNat]
    (∀ k, s.portOps < 16 → s.streamKey (BitVec.ofNat 64 (w % 2 ^ 16)) = some k → (s.cstream k).configured = true →
      let st := s.cstream k
      (∀ j x i q, st.slotOf token = some (j, x) → x.pairs.findIdx? (·.1 == expert) = some i →
        (x.putBy.find? (·.1 == i) = none → s.decidePut k token expert = .ok (.deposit j i x.uid true)) ∧
        (x.putBy.find? (·.1 == i) = some (i, q) → q = s.cur → s.decidePut k token expert = .ok (.deposit j i x.uid false)) ∧
        (x.putBy.find? (·.1 == i) = some (i, q) → q ≠ s.cur → s.decidePut k token expert = trap .cbdup 3)) ∧
      (∀ j x, st.slotOf token = some (j, x) → x.pairs.findIdx? (·.1 == expert) = none →
        s.decidePut k token expert = trap .cbmiss 2) ∧
      (st.slotOf token = none → token ∈ st.recent → s.decidePut k token expert = .ok .late) ∧
      (st.slotOf token = none → token ∉ st.recent → s.decidePut k token expert = trap .cbmiss 1) ∧
      (∀ u ta tb, descGood desc false = true → s.checkParts (srcRows desc (s.x a)) [] = .ok (u, ta, tb) →
        u.cstream k = st →
        (u.behindParts false (ta.map (·.raw)) = true → Waits (.cbput c h a d) s) ∧
        (u.behindParts false (ta.map (·.raw)) = false → bytesOf desc ≠ st.d * (if st.inF32 then 4 else 2) → Traps (.cbput c h a d) s .cbmiss 3 0 0) ∧
        (u.behindParts false (ta.map (·.raw)) = false → bytesOf desc = st.d * (if st.inF32 then 4 else 2) → ∀ y key,
          u.holdOp h (BitVec.ofNat 64 (bytesOf desc)) = .ok (y, key) → s.core.pushed = [] → s.st.flaws = [] →
          (∀ j i q fresh, u.decidePut k token expert = .ok (.deposit j i q fresh) →
            ∃ t o, Answers (.cbput c h a d) s t ∧ o ∈ t.eng.ops ∧ t.eng.ops.length = s.eng.ops.length + 1 ∧
              (∀ p ∈ s.eng.ops, p.id ≠ s.eng.next → p ∈ t.eng.ops) ∧ o.id = s.eng.next ∧ o.kind = .put ∧ o.stream = k ∧
              o.slot = j ∧ o.pos = i ∧ o.dsts = [q] ∧ o.fresh = fresh ∧ o.key = key ∧ o.late = false ∧
              (u.openSource ta = false → o.reads = [] ∧ o.row.length = ta.length) ∧
              (u.openSource ta = true → o.reads = ta.map fun b => (b.raw, b.watched)) ∧
              t.core.x = y.core.x ∧ t.st.mem = y.st.mem) ∧
          (u.decidePut k token expert = .ok .late → Store.wf CStream.none s.eng.streams = true →
            ∃ t, Answers (.cbput c h a d) s t ∧ (t.cstream k).late = st.late + 1 ∧ (t.cstream k).slots = st.slots ∧
              t.core.x = y.core.x ∧ t.st.mem = y.st.mem)))) ∧
    (∀ (st : CStream) (x : CSlot), st.sub ≠ 1 → x.sum st = (List.range st.k).foldl (fun acc j =>
        if x.arrived / 2 ^ j % 2 = 1 then List.zipWith (fun e y => (f32Fma ((x.pairs.map (·.2)).getD j 0) y e).1) acc
          (st.rowValues (((x.rows.find? (·.1 == j)).map (·.2)).getD [])) else acc) (List.replicate st.d 0)) ∧
    (∀ (st : CStream) (x : CSlot), st.sub = 1 →
      let there := (List.range st.k).filter fun j => x.arrived / 2 ^ j % 2 = 1
      let weight := fun j => (x.pairs.map (·.2)).getD j 0
      let total := fun ws : List W32 => ws.foldl (fun a g => (f32Add a g).1) 0
      let p := total (there.map weight)
      let scaled := fun g => if there.length < st.k ∧ p.toNat % 2 ^ 31 ≠ 0 then
        (f32Mul g (f32Div (total (x.pairs.map (·.2))) p)).1 else g
      x.sum st = there.foldl (fun acc j => List.zipWith (fun e y => (f32Fma (scaled (weight j)) y e).1) acc
        (st.rowValues (((x.rows.find? (·.1 == j)).map (·.2)).getD []))) (List.replicate st.d 0)) ∧
    (∀ (st : CStream) (x : CSlot) (n : Nat),
      let missing := ((List.range st.k).map fun j => if x.arrived / 2 ^ j % 2 = 1 then 0 else 2 ^ j).foldl (· + ·) 0
      (x.entry st n).map (·.1) = leBytes 4 (n % 2 ^ 16 * 2 ^ 16 + (if x.late then 2 ^ 8 else 0) + missing) ++
        leBytes 4 x.token ++ List.replicate 56 0 ++ (x.sum st).flatMap fun e =>
          if st.outBf16 then leBytes 2 (bf16.convert true .rne 0 (ofF32 e)).1 else leBytes 4 e.toNat) ∧
    (∀ k j x ts, let st := s.cstream k
      let size := 64 + st.d * (if st.outBf16 then 2 else 4)
      Store.get none st.slots j = some x →
      s.touchesFor st.asid { write := true } [(st.ring + BitVec.ofNat 64 (st.released % 2 ^ st.rlg * size), size)] = .ok ts →
      s.writeWaits ts = false → s.logStalls st.counter = false → s.st.canonical → s.st.flaws = [] → s.st.poison = [] →
      x.bad = [] → (∀ c ∈ ts, s.poisoned c.raw = false) → (ts.map (·.raw)).Nodup →
      ∃ u : State, s.releaseSlot k j x = some (match st.counter with
          | none => u
          | some key => u.outsideAdd key 1 (dieAgent (k / 16) 7)) ∧
        (u.cstream k).released = st.released + 1 ∧
        ∀ i, i < ts.length → i < (x.entry st st.released).length →
          u.memByte ((ts.map (·.raw)).getD i 0) = ((x.entry st st.released).map (·.1)).getD i 0) ∧
    (∀ (x : CSlot) (o : EngineOp) (k : Nat), x.complete = false → let y := x.deposit o k
      y.present o.pos = (o.fresh || x.present o.pos) ∧ (y.rows.find? (·.1 == o.pos)).map (·.2) = some o.row ∧
      (∀ j, j ≠ o.pos → y.present j = x.present j ∧ y.rows.find? (·.1 == j) = x.rows.find? (·.1 == j)) ∧
      (y.complete = true ↔ y.arrived = 2 ^ k - 1)) ∧
    (∀ (st : CStream) (e : Nat × CSlot), e ∈ st.ready ↔ e ∈ st.live ∧ e.2.complete = true ∧
      (st.tokenOrder = true → ∀ f ∈ st.live, e.2.seq ≤ f.2.seq) ∧
      (st.tokenOrder = false → ∀ f ∈ st.live, f.2.complete = true → e.2.turn ≤ f.2.turn)) ∧
    (∀ (st : CStream) (j : Nat) (x y : CSlot),
      (y.complete = true → x.complete = false → (st.updated j x y).completed = st.completed + 1 ∧
        Store.get none (st.updated j x y).slots j = some { y with turn := st.completed }) ∧
      (y.complete = x.complete → (st.updated j x y).completed = st.completed ∧
        Store.get none (st.updated j x y).slots j = some y)) ∧
    (∀ op o, s.eng.ops.find? (fun o => o.id == op && o.kind == .put) = some o →
      (o.reads = [] → s.behindOp o = true → exec (.cbputDeposit op) s = .next (s.makeRoom o.key)) ∧
      (o.reads ≠ [] → o.late = false → s.sourceOpen o = true → exec (.cbputDeposit op) s = .next (s.makeRoom o.key)) ∧
      (s.logStalls o.key = false → s.makeRoom o.key = s) ∧
      (o.reads = [] → s.behindOp o = false → s.logStalls o.key = false → s.eng.held = [] →
        ∀ x, Store.get none (s.cstream o.stream).slots o.slot = some x →
        o.late = false → o.dsts = [x.uid] → x.late = false → x.overdue (s.nowFor (s.cstream o.stream)) = false →
        let st := s.cstream o.stream
        let t := (s.setCstream o.stream (st.updated o.slot x (x.deposit o st.k))).freshRow o.stream o.slot o.pos
        exec (.cbputDeposit op) s = .next ((t.completeOp o).drain o.stream) ∧ t.st.mem = s.st.mem ∧ t.core = s.core ∧
        t.cstream o.stream = st.updated o.slot x (x.deposit o st.k))) ∧
    (∀ die stream j, s.mod.phase = .normal →
      let k := 16 * die + stream
      let st := s.cstream k
      (∀ x, Store.get none st.slots j = some x → x.complete = false → (∃ q, x.deadline = some q ∧ q ≤ s.nowFor st) →
        (st.sub = 2 → exec (.cbDeadline die stream j) s = .next ((((s.setCstream k { st with timeouts := st.timeouts + 1 }).leaveStream
          k j x).timeEvent k x false).drain k)) ∧
        (st.sub ≠ 2 → exec (.cbDeadline die stream j) s =
          .next ((s.setCstream k (st.updated j x { x with complete := true, late := true })).drain k))) ∧
      (∀ x, Store.get none st.slots j = some x → (x.complete = true ∨ x.deadline = none) →
        exec (.cbDeadline die stream j) s = .next (s.drain k)))

/-- R294-R297, R90: coll of a listed group with a good descriptor sends this rank's elements, once no open write of another
agent stands on them, and stands in flight, or joins the operation of its earlier execution; the contributions are combined in
ascending rank, as f32 with a rounding at each, as bf16 widened and rounded once at the end, or as i32; the completion writes
the destination and releases the add; an abort ends it with COLLABORT and no add. That a second execution joins the operation of
the first (log 39), and that at derate level 4 a new one waits (log 95), are the model's readings. -/
def Obligations.Collectives : Prop :=
  ∀ (s : State) (c h a d : BitVec 5), Clean s →
    let desc := s.core.cd[c.toNat]
    let cop := desc.toNat / 2 ^ 144 % 16
    (s.portOps < 16 → descGood desc false = true → (∀ g ∈ s.ctx.groups, g.group ≠ desc.toNat / 2 ^ 156 % 2 ^ 16) →
      Traps (.coll c h a d) s .stream 9 0 0) ∧
    (s.portOps < 16 → descGood desc false = true → ∀ g, s.ctx.group (groupOf desc) = some g →
      (collGood desc g.n = false → Traps (.coll c h a d) s .stream 9 0 0) ∧
      (collGood desc g.n = true → s.mod.level ≠ 4 →
        let reads := cop ≠ 3 ∨ desc.toNat / 2 ^ 172 % 2 ^ 12 = g.rank
        ∀ src u ta tb y key, ((reads ∧ src = srcRows desc (s.x a)) ∨ (¬ reads ∧ src = [])) →
          s.checkParts src (collRanges desc g.n (s.x d)) = .ok (u, ta, tb) → u.behindParts false (ta.map (·.raw)) = false →
          u.orphanColl desc (s.x (a + 1)) = none → u.core.x = s.core.x → u.mod = s.mod → u.eng = s.eng → u.core.pushed = [] →
          u.st.flaws = [] → u.holdColl h s.eng.next (BitVec.ofNat 64 (collBytes desc g.n)) = .ok (y, key) →
          ∃ t o, Answers (.coll c h a d) s t ∧ o ∈ t.eng.ops ∧ t.eng.ops.length = s.eng.ops.length + 1 ∧
            (∀ p ∈ s.eng.ops, p.id ≠ s.eng.next → p ∈ t.eng.ops) ∧ o.id = s.eng.next ∧ o.kind = .coll ∧ o.desc = desc ∧
            (u.openSource ta = false → o.reads = [] ∧ o.row.length = ta.length) ∧
            (u.openSource ta = true → o.reads = ta.map fun b => (b.raw, b.watched)) ∧
            o.step = s.x (a + 1) ∧ o.key = key ∧ o.dsts = tb.map (·.raw) ∧ t.core.take.atomic = true ∧
            t.core.x = s.core.x ∧ t.st.mem = y.st.mem) ∧
      (collGood desc g.n = true → ∀ src u ta tb,
        (((cop ≠ 3 ∨ desc.toNat / 2 ^ 172 % 2 ^ 12 = g.rank) ∧ src = srcRows desc (s.x a)) ∨
          (¬ (cop ≠ 3 ∨ desc.toNat / 2 ^ 172 % 2 ^ 12 = g.rank) ∧ src = [])) →
        s.checkParts src (collRanges desc g.n (s.x d)) = .ok (u, ta, tb) →
        (s.mod.level = 4 → u.orphanColl desc (s.x (a + 1)) = none → Waits (.coll c h a d) s) ∧
        (∀ o y key, u.behindParts false (ta.map (·.raw)) = false → u.orphanColl desc (s.x (a + 1)) = some o →
          u.holdColl h o.id (BitVec.ofNat 64 (collBytes desc g.n)) = .ok (y, key) →
          Answers (.coll c h a d) s { y.tookAtomic with eng := { y.eng with ops := y.eng.ops.map fun p =>
            if p.id = o.id then
              { o with
                agent := s.cur, port := s.cport, launch := s.core.shot.map (·.launch), committed := false
                bundle := s.core.issued, key := key, amount := BitVec.ofNat 64 (collBytes desc g.n) }
            else p } }))) ∧
    (∀ (q : BitVec 512) (x0 : List Byte) (rest : List (List Byte)) (k : Nat), ropOf q ≤ 2 → k < elementsOf q →
      let e := if ctypeOf q = 1 then 2 else 4
      (∀ x ∈ x0 :: rest, x.length = e * elementsOf q) →
      let elem := fun x : List Byte => leNat ((x.drop (e * k)).take e)
      let word := fun x => BitVec.ofNat 32 (elem x)
      let wide := fun x => (toF32 (bf16.value (elem x))).1
      let out := elem (reduceRanks q (x0 :: rest))
      let join := fun a x : W32 => if ropOf q = 0 then (f32Add a x).1 else if ropOf q = 1 then f32Min a x else f32Max a x
      let count := fun a x : W32 => if ropOf q = 0 then a + x
        else if ropOf q = 1 then (if a.toInt ≤ x.toInt then a else x) else (if x.toInt ≤ a.toInt then a else x)
      (ctypeOf q = 0 → out = ((rest.map word).foldl join (word x0)).toNat) ∧
      (ctypeOf q = 1 → out = (bf16.convert true .rne 0 (ofF32 ((rest.map wide).foldl join (wide x0)))).1) ∧
      (ctypeOf q = 2 → out = ((rest.map word).foldl count (word x0)).toNat)) ∧
    (∀ (q : BitVec 512) (r n : Nat) (cs : List (List Byte)),
      (copOf q = 0 → collResult q r n cs = reduceRanks q cs) ∧ (copOf q = 2 → collResult q r n cs = cs.flatten) ∧
      (copOf q = 3 → collResult q r n cs = cs.getD (rootOf q) [])) ∧
    (∀ op o cs g all, s.eng.ops.find? (fun o => o.id == op && o.kind == .coll) = some o → s.mod.phase = .normal →
      (s.context o.asid).group (groupOf o.desc) = some g → collInputs o.desc g.rank g.n o.row cs = some all →
      s.behindOp o = false → s.logStalls o.key = false → s.writeWaits (rawTouches o.dsts) = false → o.bads = [] →
      o.reads = [] → (∀ r ∈ o.dsts, s.retained r = false) →
      exec (.collComplete op cs) s =
        .next ((s.writeOut (rawTouches o.dsts) ((collResult o.desc g.rank g.n all).map fun b => (b, false))).completeOp o)) ∧
    (∀ op o cs, s.eng.ops.find? (fun o => o.id == op && o.kind == .coll) = some o → s.mod.phase = .normal → o.reads ≠ [] →
      s.sourceOpen o = true → exec (.collComplete op cs) s = .next (s.makeRoom o.key)) ∧
    (∀ op o, s.eng.ops.find? (fun o => o.id == op && o.kind == .coll) = some o → s.mod.phase = .normal →
      s.writeWaits (rawTouches o.dsts) = false → (∀ r ∈ o.dsts, s.retained r = false) → ∃ t, exec (.collAbort op) s = .next t ∧ (∀ p ∈ t.eng.ops, p.id ≠ op) ∧
        (∀ e ∈ t.sync.held, e.op ≠ some op) ∧ t.sync.value = s.sync.value ∧
        ∃ e, t.sched.events = s.sched.events ++ [e] ∧ e.cause = .collabort ∧
          e.w0 = BitVec.ofNat 64 (groupOf o.desc) ∧ e.w1 = o.step)

/-! Events of cores, lines and packets. -/

namespace Sys2Proof.Claims

open Sys2Proof.Machine

/-- The event answers `t`. -/
def Goes (i : Instr) (s t : State) : Prop := exec i s = .next t

/-- The event changes nothing. -/
def Nothing (i : Instr) (s : State) : Prop := exec i s = .next s

/-- The slot at which core `n` waits runs again, and the agent that had moved moves on. -/
def Wakes (i j : Instr) (s : State) (n : Nat) : Prop :=
  (s.focus n).core.run = .blocked → (s.focus n).core.slipped = [] → (s.focus n).current = some j →
    ∀ u, exec j (s.focus n) = .next u → Goes i s ((u.advanceSlot n (s.focus n).core.issued).focus s.cur)

/-- Core `n` waits at slot `j`, with no slot held by a port and no protected word in error. -/
def WaitsAt (s : State) (n : Nat) (j : Instr) : Prop :=
  (s.focus n).core.run = .blocked ∧ (s.focus n).core.slipped = [] ∧ (s.focus n).core.upsets = [] ∧ (s.focus n).current = some j

/-- The slot at which core `n` waited has had its effect, which leaves `u`: the core goes on after it, and the agent that had moved
moves on. -/
def GoesOn (i : Instr) (s u : State) (n : Nat) : Prop :=
  Goes i s ((u.running.advanceSlot n (s.focus n).core.issued).focus s.cur)

/-- The slot at which core `n` waited, in `u`, waits on. -/
def StaysAt (i : Instr) (s u : State) : Prop := Goes i s (u.block.focus s.cur)

/-- An effect on each line of a request in order, with the line's place; the highest status and the data. -/
def eachLine (f : State → Nat → Nat → State × Nat × List Byte) : List Nat → Nat → State → State × Nat × List Byte
  | [], _, s => (s, 0, [])
  | l :: ls, k, s =>
    let a := f s l k
    let b := eachLine f ls (k + 1) a.1
    (b.1, Nat.max a.2.1 b.2.1, a.2.2 ++ b.2.2)

/-- The reply to a request, with the lines that come back poisoned. -/
def Replied (s t : State) (h : BitVec 128) (st : Nat) (data : List Byte) (bad : List Nat) : Prop :=
  t = { s with st := { s.st with
    replies := s.st.replies ++ [{ src := hdrSrc h, tag := hdrTag h, len := hdrLen h, status := st, data := data, bad := bad }]
    tags := s.st.tags ++ [(hdrSrc h, hdrTag h)] } }

/-- The places of the lines of a read that are poisoned, or encrypted under a key that is no longer live. -/
def poisonedLines (s : State) (ls : List Nat) : List Nat :=
  (List.range ls.length).filter fun k => (s.line (ls.getD k 0)).poison || s.staleKey (ls.getD k 0)

/-- A request of an operation at a place: it stalls while its tag is in use, answers BADREQ when it is malformed, and otherwise
has its effect on each line and answers the highest status. -/
def Requests (i : Instr) (s : State) (p op : Nat) (h : BitVec 128)
    (f : State → Nat → Nat → State × Nat × List Byte) : Prop :=
  ((hdrSrc h, hdrTag h) ∈ s.st.tags → Nothing i s) ∧
  ((hdrSrc h, hdrTag h) ∉ s.st.tags → p < 16 + 64 * 24 →
    (s.requestLines p op h = none → ∃ t, Goes i s t ∧ Replied s t h 5 [] []) ∧
    (∀ ls, s.requestLines p op h = some ls → ∃ t, Goes i s t ∧
      Replied (eachLine f ls 0 s).1 t h (eachLine f ls 0 s).2.1 (eachLine f ls 0 s).2.2
        (if op = 0 then poisonedLines (eachLine f ls 0 s).1 ls else [])))

end Sys2Proof.Claims

/-- What a fence or a wait of a bundle writes before it issues. -/
def Sys2Proof.Claims.flushed (s : Sys2Proof.Machine.State) (w : BitVec 128) : Sys2Proof.Machine.State :=
  if flushesBefore w then s.members.foldl (fun t n => t.withCore n State.flushStreams) s else s

/-- R142, R400, R34, R35, R37-R39: the lead of a gang fetches and decodes for all: its members wait for each other, a member
that strays or reads another trip count raises DIVERGE; a bundle that passes its checks and waits for nothing is latched by
every member, and nothing else changes but what its fence or wait writes; one that begins a take commits the takes before it
first, and does not issue when they cannot commit; a fetch ahead changes only the caches and errors that a fetch changes; slots
that ports hold are tried before a dispatch (log 98), and the boundary of a gang is one (log 32). -/
def Sys2Proof.Claims.BundleEvents : Prop :=
  ∀ s : State,
    (s.core.gang = none → s.lead = s.cur ∧ s.strays = none ∧
      (s.behind = true ↔ s.core.run ≠ .running ∨ s.core.bundle.isSome = true)) ∧
    (s.lead ≠ s.cur → Nothing .bundleFetch s ∧ Nothing .takeCommit s ∧
      ((s.focus s.lead).lead = s.lead → (s.focus s.lead).core.slipped = [] → s.core.slipped = [] →
        ∀ t, Goes .bundleDispatch (s.focus s.lead) t → Goes .bundleDispatch s (t.focus s.cur))) ∧
    (s.trySlippedAll.core.run ≠ s.core.run ∨ s.trySlippedAll.core.pc ≠ s.core.pc → Goes .bundleDispatch s s.trySlippedAll) ∧
    (s.lead = s.cur → s.core.slipped = [] →
      (s.behind = true → Nothing .bundleDispatch s ∧ Nothing .bundleFetch s ∧ Nothing .takeCommit s) ∧
      (s.behind = false → ∀ i, s.strays = some i →
        Goes .bundleDispatch s (s.raiseAt { cause := .diverge, w0 := BitVec.ofNat 64 i } 6 0) ∧ Nothing .bundleFetch s ∧
          Nothing .takeCommit s) ∧
      (s.behind = false → s.strays = none →
        (∀ t a, s.fetch = .error (.trap t a) →
          Goes .bundleDispatch s (s.stop (.trap t a)) ∧ Nothing .bundleFetch s ∧ Nothing .takeCommit s) ∧
        (∀ u w, s.fetch = .ok (u, w) →
          let replay := u.core.loop.any fun l => l.head == u.core.pc
          let f := flushed u w
          let commits := beginsTakeAt w = true ∧ f.core.take.started = true ∧ f.skipsLoop w replay = false
          Goes .bundleFetch s u ∧
          (∀ t k, u.refuses w = some (t, k) → Goes .bundleDispatch s (u.raiseAt t 6 k)) ∧
          (u.refuses w = none → ∀ i, u.diverges w replay = some i →
            Goes .bundleDispatch s (u.raiseAt { cause := .diverge, w0 := BitVec.ofNat 64 i } 6 0)) ∧
          (u.refuses w = none → u.diverges w replay = none →
            (u.anyHeld w = true → Goes .bundleDispatch s u ∧ Nothing .takeCommit s) ∧
            (u.anyHeld w = false →
              (¬ commits → Goes .bundleDispatch s (f.latch w replay)) ∧
              (commits →
                (∀ v, f.boundaryAll = .ok v → (v.anyHeld w = true → Goes .bundleDispatch s v) ∧
                  (v.anyHeld w = false → Goes .bundleDispatch s (v.latch w replay))) ∧
                (f.boundaryAll = .error .wait → Goes .bundleDispatch s f) ∧
                (f.boundaryAll = trap .bundle 6 → Goes .bundleDispatch s (f.raiseAt { cause := .bundle, detail := 6 } 6 0)) ∧
                (∀ x n y, f.boundaryAll = .error (.flaw x) → f.badImage = some (n, y) →
                  Goes .bundleDispatch s (f.withCore n (State.replay · y)))) ∧
              (s.core.take.started = true → beginsTakeAt w = true → u.skipsLoop w replay = false →
                (∀ v, u.boundaryAll = .ok v → Goes .takeCommit s v) ∧
                (u.boundaryAll = .error .wait → Nothing .takeCommit s)))) ∧
          (beginsTakeAt w = false ∨ s.core.take.started = false → Nothing .takeCommit s)))) ∧
    (∀ w b, s.core.gang = none →
      (s.latch w b).core.bundle = some { word := w, slot := 0, skip := false, replay := b, target := none } ∧
      (s.latch w b).core.issued = s.core.issued + 1 ∧ (s.latch w b).core.x = s.core.x ∧ (s.latch w b).st = s.st) ∧
    (∀ w b, s.Canonical → ∀ n ∈ s.members,
      ((s.latch w b).coreAt n).bundle = some { word := w, slot := 0, skip := false, replay := b, target := none }) ∧
    (∀ v, s.core.gang = none → s.qLeft = false → s.boundaryAll = .ok v → v.core.takepc = s.core.pc ∧ v.core.take.log = [] ∧
      v.core.tser = s.core.tser + 1 ∧ v.core.x = s.core.x ∧ v.core.v = s.core.v) ∧
    (s.core.gang = none → s.qLeft = true → s.boundaryAll = trap .bundle 6) ∧
    (s.core.gang = none → s.qLeft = false → s.watchedOut = true → s.boundaryAll = .error .wait)

/-- R44, R54, R63, R65, R36, R142, R224, R89, R301: a walk that succeeds fills the caches; a slot that waits runs again when its
condition may hold: a tinv ends when no access of its ASID is open, a consuming load when its granule is FULL and unclaimed, a
cwait when its counter has reached the target, a cbal when a slot is free, and waits on else; and so does a cwait that its port
holds, as it stood at its own bundle (log 98); a committed reservation of a core that is awake takes the blocks granted there
and not its context's (log 25) and starts its shot; streams move ahead one entry; the youngest holder of a full line, and its
gang (log 32), yield to an older reader that has stalled there. -/
def Sys2Proof.Claims.CoreEvents : Prop :=
  ∀ (s : State) (n k e : Nat) (va : W64),
    (canonical va = true → va.toNat < padBase →
      (∀ t, s.walk s.asid va = .ok t → Goes (.translationWalk va) s
        (s.cache [{ va := va, len := 0, raw := 0, watched := false, leaf := some t }])) ∧
      (∀ f, s.walk s.asid va = .error f → Nothing (.translationWalk va) s)) ∧
    (canonical va = false ∨ padBase ≤ va.toNat → Nothing (.translationWalk va) s) ∧
    (∀ a b, Wakes (.tinvAck n) (.tinv a b) s n) ∧ (∀ d a i f, Wakes (.consumingLoadWake n) (.ldw d a i f) s n) ∧
    (∀ d a i q, Wakes (.consumingLoadWake n) (.vldw d a i q) s n) ∧ (∀ h v c, Wakes (.cwaitWake n) (.cwait h v c) s n) ∧
    (∀ h v x, Wakes (.cbalWake n) (.cbal h v x) s n) ∧
    (let c := s.focus n
     (∀ a b, WaitsAt s n (.tinv a b) → (c.x a).toNat % 4096 = 0 →
      let asid := (c.x b).toNat % 65536
      let t := c.dropTlb asid (c.x a) ((c.x b).toNat / 65536)
      (t.accessesOpen asid = false → GoesOn (.tinvAck n) s t n) ∧ (t.accessesOpen asid = true → StaysAt (.tinvAck n) s t)) ∧
     (∀ d a i f o, WaitsAt s n (.ldw d a i f) → Sys2Proof.Claims.OwnPad c → c.Canonical →
      let size := 2 ^ (f.toNat % 4)
      let g := granuleOf (n * 2 ^ 49 + o)
      c.x a + i.signExtend 64 * BitVec.ofNat 64 size = BitVec.ofNat 64 (0xFFFFFF0000000000 + o) → o % size = 0 →
      o + size ≤ 0x200000 →
      (c.isEmpty g = false → c.claimer g = none → GoesOn (.consumingLoadWake n) s
        ((if f.getLsbD 2 then c.claim g else c).setX d (BitVec.ofNat 64 (padWord c o size))) n) ∧
      (c.isEmpty g = true ∨ (c.claimer g).isSome = true → StaysAt (.consumingLoadWake n) s c)) ∧
     (∀ d a i f u bs, WaitsAt s n (.ldw d a i f) → let size := 2 ^ (f.toNat % 4)
      c.consume (c.x a + i.signExtend 64 * BitVec.ofNat 64 size) size (f.getLsbD 2) = .ok (u, bs) →
      GoesOn (.consumingLoadWake n) s (u.setX d (BitVec.ofNat 64 (leNat bs))) n) ∧
     (∀ h v p q, WaitsAt s n (.cwait h v p) → c.counterKey c.asid (c.x h) = some q → c.counterBad q = false →
      ((c.x v).toNat ≤ (c.counter q).toNat → GoesOn (.cwaitWake n) s (c.settleCounter q) n) ∧
      ((c.counter q).toNat < (c.x v).toNat → StaysAt (.cwaitWake n) s c)) ∧
     (∀ h v x q, WaitsAt s n (.cbal h v x) → c.streamKey (c.x h) = some q → (c.cstream q).configured = true →
      (∀ u j, c.allocate q (c.v x.toNat) = .ok (u, some j) →
        GoesOn (.cbalWake n) s (u.setX v (BitVec.ofNat 64 j)) n) ∧
      (∀ u, c.allocate q (c.v x.toNat) = .ok (u, none) → StaysAt (.cbalWake n) s c))) ∧
    ((s.focus n).core.run ≠ .blocked → (s.focus n).core.slipped = [] →
      ∀ i ∈ [Instr.tinvAck n, .consumingLoadWake n, .cwaitWake n, .cbalWake n], Goes i s ((s.focus n).focus s.cur)) ∧
    (∀ r, (s.coreAt n).reserved = some r → r.ready = true → (s.coreAt n).gated = false → s.mod.phase = .normal →
      (s.padsReady r.asid n = false → Nothing (.spawnShotStart n) s) ∧
      (s.padsReady r.asid n = true →
        (∀ u, s.restoreCounters r.asid = some u →
          let us := (u.grantedBlocks r.asid (dieOf n) [n]).filter fun raw => levelOf raw == 0 && u.ownerOf raw != r.asid
          (∀ t, us.foldlM (fun t raw => t.takeBlock r.asid raw) u = some t →
            Goes (.spawnShotStart n) s (t.startShot n r.asid r.entry (startX r.args [])
              { launch := r.launch, index := 0, kind := .spawned } none)) ∧
          (us.foldlM (fun t raw => t.takeBlock r.asid raw) u = none →
            Goes (.spawnShotStart n) s (s.endContext r.asid 0x1F))) ∧
        (s.restoreCounters r.asid = none → Goes (.spawnShotStart n) s (s.endContext r.asid 0x1F)))) ∧
    ((∀ r, (s.coreAt n).reserved = some r → r.ready = false) → Nothing (.spawnShotStart n) s) ∧
    ((s.focus n).core.run = .running ∨ (s.focus n).core.run = .blocked → k < 16 →
      Goes (.streamFetch n k) s (((s.focus n).prefetch k).focus s.cur)) ∧
    ((∀ p ∈ (s.focus n).core.pushed, p.q ≠ k) → Goes (.streamEntryWrite n k e) s ((s.focus n).focus s.cur)) ∧
    (∀ before p after, (s.focus n).core.pushed = before ++ p :: after → p.q = k → (∀ q ∈ before, q.q ≠ k) →
      (p.committed = true ∨ (s.focus n).core.slipped = []) →
      Goes (.streamEntryWrite n k 0) s (((s.focus n).writeEntry before.length).focus s.cur)) ∧
    ((s.coreAt n).run = .running ∨ (s.coreAt n).run = .blocked → s.woundable n = true →
      Goes (.wound n) s (((s.compared n).focus n).members.foldl (fun t m => t.withCore m fun u => u.discard.restart)
        (s.compared n))) ∧
    (s.woundable n = false → Nothing (.wound n) s) ∧
    (∀ r, (s.coreAt n).run = r → r ≠ .running → r ≠ .blocked → Nothing (.wound n) s) ∧
    (∀ h v c x q, s.core.slipped = [x] → x.instr = .cwait h v c → s.core.upsets = [] → let a := s.atHeld x
      a.counterKey a.asid (a.x h) = some q → a.counterBad q = false → (v ≠ 0 → a.x v = x.x[v.toNat]) ∧
      ((a.x v).toNat ≤ (a.counter q).toNat → let t := s.trySlippedAll
        t.core.slipped = [] ∧ t.core.pc = s.core.pc ∧ t.core.bundle = s.core.bundle ∧ t.core.run = s.core.run ∧
        t.core.x = s.core.x ∧ t.st = s.st ∧ t.sync = (s.settleCounter q).sync))

/-- R70-R75, R77, R79, R80: the requests of base dies and LPDDR6 controllers: each acts on its 1 to 64 lines in order and
answers the highest status, a read with the lines that are poisoned; a masked write of a poisoned line is dropped with status 4;
a masked write of another changes the bytes of its mask; a raw write leaves the line that its symbols give; a line that is
scrubbed is encrypted under the newest key; a zeroed line reads as zeros without an error, and waits for an open slot; the reply
frees the tag. That a nonzero MASK of another operation than WRM, and a RAWWR of no control core, answer BADREQ is the model's
choice (log 89); the numbers of the places (log 23) and the order of a line's symbols (log 22) are its readings. -/
def Obligations.LineRequests : Prop :=
  ∀ (s : State) (p k : Nat) (h : BitVec 128) (data : List Byte),
    Requests (.rdLines p h) s p 0 h (fun t l _ => t.readLine l) ∧
    (data.length = 64 * (hdrLen h + 1) → Requests (.wrLines p h data) s p 1 h
      (fun t l k => (t.writeBytes (runOf l ((data.drop (64 * k)).take 64)), 0, []))) ∧
    (data.length = 64 → Requests (.wrmLine p h data) s p 2 h (fun t l _ => t.writeMasked l (h.toNat % 2 ^ 64) data)) ∧
    Requests (.scrubLines p h) s p 3 h (fun t l _ => t.scrubLine l) ∧
    (data.length = 80 * (hdrLen h + 1) → Requests (.rawWr p h data) s p 4 h
      (fun t l k => (t.rawLine l ((data.drop (80 * k)).take 80), 0, []))) ∧
    (∀ ls, s.requestLines p 5 h = some ls → (∃ l ∈ ls, s.openSlot l = true) → Nothing (.zeroLines p h) s) ∧
    (s.zeroWaits p h = false → Requests (.zeroLines p h) s p 5 h (fun t l _ => (t.zeroLine l, 0, []))) ∧
    (∀ before r after, s.st.replies = before ++ r :: after → before.length = k → Goes (.replyLines k) s
      { s with st := { s.st with replies := before ++ after, tags := s.st.tags.erase (r.src, r.tag) } }) ∧
    (s.st.replies.length ≤ k → Nothing (.replyLines k) s) ∧
    (∀ op, (h.toNat / 2 ^ 124 ≠ 0 ∨ h.toNat / 2 ^ 94 % 8 ≠ 0 ∨ h.toNat / 2 ^ 114 % 16 ≠ op ∨
        (op ≠ 2 ∧ h.toNat % 2 ^ 64 ≠ 0) ∨ (op = 2 ∧ h.toNat / 2 ^ 118 % 64 ≠ 0) ∨
        (op = 4 ∧ h.toNat / 2 ^ 110 % 2 = 0) ∨ 64 ≤ h.toNat / 2 ^ 64 % 64 + h.toNat / 2 ^ 118 % 64) →
      s.requestLines p op h = none) ∧
    (∀ l m, (s.line l).poison = true → s.writeMasked l m data = (((s.settleWord l).markPoison l).countDaily l 2, 4, [])) ∧
    (∀ l t, s.Canonical → levelOf l = 4 → s.flaws l = 0 → (s.line l).zeroed = false → s.lineStatus l < 2 → t = (s.scrubLine l).1 →
      (t.line l).keyv = t.newestKey l ∧ (s.scrubLine l).2 = (s.lineStatus l, [])) ∧
    (∀ l, (s.zeroLine l).line l = { poison := false, zeroed := true, keyv := 0 } ∧
      (s.zeroLine l).lineBytes l = List.replicate 64 0 ∧ (s.zeroLine l).core = s.core) ∧
    (∀ l, s.st.flaws = [] → s.flaws l = 0 ∧ ((s.line l).poison = false → s.staleKey l = false → s.lineStatus l = 0)) ∧
    -- which lines a good request of a stack names
    (∀ op, let len := h.toNat / 2 ^ 118 % 64
      let line := h.toNat / 2 ^ 64 % 2 ^ 30
      let src := h.toNat / 2 ^ 97 % 2 ^ 14
      p < 16 → h.toNat / 2 ^ 124 = 0 → h.toNat / 2 ^ 94 % 8 = 0 → h.toNat / 2 ^ 114 % 16 = op → (op = 2 ∨ h.toNat % 2 ^ 64 = 0) →
      (op = 2 → len = 0) → (op = 4 → src / 2 ^ 13 = 1 ∧ (src % 2 ^ 10 = 2 ∨ src % 2 ^ 10 = 3)) → line % 64 + len < 64 →
      line + len < 48 * 2 ^ 30 / 64 →
      s.requestLines p op h = some ((List.range (len + 1)).map fun k => 3 * 2 ^ 60 + p * (48 * 2 ^ 30) + 64 * (line + k))) ∧
    -- what an operation on one line does
    (∀ l, l % 64 = 0 → (levelOf l = 3 ∨ levelOf l = 4) → s.Canonical →
      ((s.line l).poison = true → (s.readLine l).2.1 = 2) ∧
      ((s.line l).poison = false → s.staleKey l = false →
        (s.flaws l = 0 → s.readLine l = (s, 0, if (s.line l).zeroed then List.replicate 64 0 else (List.range 64).map fun k => s.stored (l + k))) ∧
        (s.flaws l = 1 → (s.readLine l).2.1 = 1 ∧ (s.readLine l).1.flaws l = 0 ∧ (s.readLine l).1.st.mem = s.st.mem) ∧
        (s.flaws l = 2 → (s.readLine l).2.1 = 3 ∧ ((s.readLine l).1.line l).poison = true) ∧
        (s.st.flaws = [] → s.unlocked l = true → ((s.line l).zeroed = true → ∀ k, k < 64 → s.memByte (l + k) = 0) →
          ∀ m, m < 2 ^ 64 → (s.writeMasked l m data).2 = (0, []) ∧
          (m ≠ 0 → ((s.writeMasked l m data).1.line l).zeroed = false) ∧
          ∀ k, k < 64 → (s.writeMasked l m data).1.memByte (l + k) = if m / 2 ^ k % 2 = 1 then data.getD k 0 else s.memByte (l + k))) ∧
      (levelOf l = 3 → s.scrubLine l = (s.settleWord l, s.lineStatus l, []) ∧
        let w := (List.range 80).map fun k => (data.getD k 0).toNat
        ((∀ x ∈ syndromes 12 w, x = 0) → let t := s.rawLine l data
          t.flaws l = 0 ∧ ((t.line l).poison = true ↔ w.getD 67 0 / 128 % 2 = 1) ∧ ((t.line l).zeroed = true ↔ w.getD 67 0 / 64 % 2 = 1) ∧
          ∀ k, k < 64 → t.memByte (l + k) = if w.getD 67 0 / 64 % 2 = 1 then 0 else data.getD k 0)))

/-! The dispatcher. -/

/-- R310, R317, R318, R322: a selection first ends the malformed heads of the die's queues and disables those that are not
served; where a head is ready it starts one: of the queues that have waited 64 selections if any, else of the highest priority,
the next in turn after the one that was last, which becomes the last of its level; AGE of its queue becomes 0 and that of every
other ready queue rises; READ of its queue increments; with none ready nothing starts. The turn of equal numbers and the pointer
before the first selection are the model's reading (log 66). -/
def Sys2Proof.Claims.Selection : Prop :=
  ∀ (s : State) (die : Nat),
    (s.dispatching = false ∨ (Store.get none s.sched.selected die).isSome = true → Nothing (.selection die) s) ∧
    (s.dispatching = true → Store.get none s.sched.selected die = none →
      let u := s.serveHeads die
      let ready := fun (q : Queue) (pri : Nat) (p : List Byte) => q ∈ u.homed die ∧ u.head q = .ready pri p
      let aged := ∃ q pri p, ready q pri p ∧ 64 ≤ q.age
      (s.st.flaws = [] → u = (s.homed die).foldl State.clearHead s) ∧
      ((∀ q pri p, ¬ ready q pri p) → Goes (.selection die) s u) ∧
      (((u.homed die).map Queue.turn).Nodup → (∃ q pri p, ready q pri p) → ∃ t q pri p lvl, Goes (.selection die) s t ∧
        ready q pri p ∧ (aged → 64 ≤ q.age ∧ lvl = 4) ∧
        (¬ aged → lvl = pri ∧ ∀ r pri' p', ready r pri' p' → pri' ≤ pri) ∧
        (let last := Store.get 65535 u.sched.rr (8 * die + lvl)
          ∀ r pri' p', ready r pri' p' → (aged → 64 ≤ r.age) → (¬ aged → pri' = pri) →
            (last < r.turn → last < q.turn ∧ q.turn ≤ r.turn) ∧ (q.turn ≤ last → q.turn ≤ r.turn)) ∧
        Store.get none t.sched.selected die = some { asid := q.asid, num := q.num, index := u.readIndex q, packet := p } ∧
        t.st = (u.setHeader q 8 (leBytes 8 (u.readIndex q + 1).toNat)).st ∧
        t.sched.rr = Store.set 65535 u.sched.rr (8 * die + lvl) q.turn ∧ t.sched.queues.length = u.sched.queues.length ∧
        (∀ (j : Nat) (r : Queue), u.sched.queues[j]? = some r → ∃ age, t.sched.queues[j]? = some { r with age := age } ∧
          (r.turn = q.turn → age = 0) ∧ (r.turn ≠ q.turn → (∃ pri' p', ready r pri' p') → age = r.age + 1) ∧
          (r.turn ≠ q.turn → (∀ r' pri' p', ready r' pri' p' → r'.turn ≠ r.turn) → age = r.age)) ∧
        { asid := q.asid, num := q.num, index := u.readIndex q, launch := none, op := none } ∈ t.sched.started)) ∧
    (∀ q st, s.head q = .notServed st → s.clearHead q = (s.recordError q (s.readIndex q) st).disable q) ∧
    (∀ q st p, s.head q = .malformed st p → s.clearHead q = ((s.recordError q (s.readIndex q) st).bumpRead q).owe q.asid p) ∧
    (∀ q p, s.head q = .waiting ∨ s.head q = .none ∨ (∃ pri, s.head q = .ready pri p) → s.clearHead q = s)

/-- R91, R316, R317, R322-R324: the packets: an ADD makes its add, WAIT and BARRIER have none, CONTROL ends the context's slice
on every die of its device where another context has ready work, or disables the queue, and each finishes with the completion
add that it names; a COPY whose block is bad, or names bytes that it may not reach, ends with its status, a good one issues an
operation that names its bytes; a completion add that is owed is made once; an add that a full log holds up gives firmware its
chance to extend it (log 42). -/
def Sys2Proof.Claims.PacketEffects : Prop :=
  ∀ (s : State) (die k : Nat),
    (∀ p, s.picked die 3 = some p →
      let key := s.counterKey p.asid (pktAh p.packet)
      (s.logStalls key = true → Goes (.addPacket die) s (s.makeRoom key)) ∧
      (∀ c, key = some c → s.logStalls key = false → Goes (.addPacket die) s
        (((s.outsideAdd c (pktB p.packet) (dieAgent die 4)).unpick die).finishPacket p))) ∧
    (∀ p, s.picked die 4 = some p → Goes (.waitPacket die) s ((s.unpick die).finishPacket p)) ∧
    (∀ p, s.picked die 5 = some p → Goes (.barrierPacket die) s ((s.unpick die).finishPacket p)) ∧
    (∀ p, s.picked die 6 = some p →
      (leAt p.packet 40 1 = 1 → Nothing (.controlYield die) s ∧ ∀ q, s.queue p.asid p.num = some q →
        (s.headerBusy q = true → Nothing (.controlDisable die) s) ∧
        (s.headerBusy q = false → Goes (.controlDisable die) s (((s.disable q).unpick die).finishPacket p))) ∧
      (leAt p.packet 40 1 = 0 → Nothing (.controlDisable die) s ∧
        let c := s.context p.asid
        let ds := ((List.range (s.dies c).2).map ((s.dies c).1 + ·)).filter (s.othersReady p.asid)
        let ended := s.mod.clk - BitVec.ofNat 64 (1000 * (c.prio.toNat / 2 ^ 32 % 2 ^ 16))
        Goes (.controlYield die) s (((s.setContext p.asid { c with
          sliceAt := ds.foldl (fun m d => Store.set 0 m d ended) c.sliceAt }).unpick die).finishPacket p))) ∧
    (∀ a d, s.othersReady a d = true ↔
      ∃ e ∈ s.sched.contexts, e.1 ≠ a ∧ (s.context e.1).halted = false ∧
        ((∃ l ∈ s.sched.launches, l.asid = e.1 ∧ (s.nextUnit d l).isSome = true) ∨
        (∃ v ∈ s.returning d e.1, (s.coreAt v.core).resident ≠ e.1) ∨
        (∃ k ∈ s.sched.events, k.asid = e.1 ∧ s.eventDie k = d ∧ k.given = false))) ∧
    (∀ i ∈ [Instr.addPacket die, .waitPacket die, .barrierPacket die, .controlDisable die, .controlYield die, .copyPacket die,
      .launchPacket die], Store.get none s.sched.selected die = none → Nothing i s) ∧
    (∀ p, s.picked die 2 = some p →
      (s.queueBusy p = true ∨ s.readBusy p.asid (pktA p.packet) 128 = true → Nothing (.copyPacket die) s) ∧
      (s.queueBusy p = false → s.readBusy p.asid (pktA p.packet) 128 = false →
        let u := s.meetFor p.asid (pktA p.packet) 128
        (s.st.flaws = [] → u = s) ∧
        ((pktA p.packet).toNat % 64 ≠ 0 ∨ u.readFor p.asid (pktA p.packet) 128 = none →
          Goes (.copyPacket die) s (u.failStart die p 0x13)) ∧
        ((pktA p.packet).toNat % 64 = 0 → ∀ b, u.readFor p.asid (pktA p.packet) 128 = some b →
          let d := BitVec.ofNat 512 (leAt b 0 64)
          let src := u.touchesFor p.asid {} (srcRows d (w64 (leAt b 64 8)))
          let dst := u.touchesFor p.asid { write := true } (dstRows d (w64 (leAt b 72 8)))
          (leAt b 80 48 ≠ 0 ∨ descGood d false = false ∨ (∀ ta, src ≠ .ok ta) ∨ (∀ tb, dst ≠ .ok tb) →
            Goes (.copyPacket die) s (u.failStart die p 0x14)) ∧
          (leAt b 80 48 = 0 → descGood d false = true → ∀ ta tb, src = .ok ta → dst = .ok tb →
            ∃ t o, Goes (.copyPacket die) s t ∧ t.eng.ops = u.eng.ops ++ [o] ∧ o.id = u.eng.next ∧ o.kind = .copy ∧
              o.agent = 4096 + die ∧ o.committed = true ∧ o.amount = pktValue p.packet 2 ∧
              o.reads = ta.map (fun c => (c.raw, c.watched)) ∧ o.writes = tb.map (fun c => (c.raw, c.watched)) ∧
              t.st = u.st ∧ t.sync = u.sync ∧ t.sched.selected = Store.set none u.sched.selected die none ∧
              ∀ x ∈ t.sched.started, x.is p = true → x.op = some o.id)))) ∧
    (∀ p (t : State), t = s.finishPacket p → (∀ x ∈ t.sched.started, x.is p = false) ∧
      (pktFlag p.packet 2 = false → t.sched.adds = s.sched.adds) ∧
      (pktFlag p.packet 2 = true → ∀ c, s.counterKey p.asid (pktHandle p.packet 2) = some c →
        t.sched.adds = s.sched.adds ++ [{ asid := p.asid, key := c, value := pktValue p.packet 2 }])) ∧
    (∀ before a after, s.sched.adds = before ++ a :: after → before.length = k →
      (s.logStalls (some a.key) = true → Goes (.completionAdd k) s (s.makeRoom (some a.key))) ∧
      (s.logStalls (some a.key) = false → Goes (.completionAdd k) s (({ s with sched := { s.sched with adds := before ++ after } } : State).outsideAdd a.key a.value
        (dieAgent (s.dies (s.context a.asid)).1 4)))) ∧
    (s.sched.adds.length ≤ k → Nothing (.completionAdd k) s)

/-- R55, R90, R91, R92, R100, R279, R285: a copy of a core completes once its source is free of open writes, no earlier
operation has a part to perform on its granules, and no earlier one of its port with its counter is in flight: its bytes move,
its add is applied when its take has committed and is held for the commit otherwise, and it leaves the engine. A copy of a
dispatcher waits for the open slots on its lines, moves its bytes, and finishes its packet. -/
def Sys2Proof.Claims.CopyCompletes : Prop :=
  (∀ (s : State) (op : Nat) (o : EngineOp), s.eng.ops.find? (fun o => o.id == op && o.kind == .copy) = some o → o.agent < 4096 →
    let earlier := fun p : EngineOp => p.id < o.id ∧ p.agent = o.agent
    let near := fun (a b : Nat × Bool) => granuleOf a.1 = granuleOf b.1
    let waits := (∃ p ∈ s.eng.ops, earlier p ∧ p.port = o.port ∧ o.key.isSome = true ∧ p.key = o.key) ∨
      (∃ p ∈ s.eng.ops, earlier p ∧ ((∃ w ∈ p.writes, (∃ v ∈ o.writes, near v w) ∨ ∃ r ∈ o.reads, near r w) ∨
        ∃ r ∈ p.reads, ∃ v ∈ o.writes, near v r)) ∨
      (∃ r ∈ o.reads, r.2 = true ∧ ∃ x, (s.watchOf (lineOf r.1)).writer = some x ∧ x.1 ≠ o.agent)
    let u := s.moveCopy o
    (waits ∨ s.logStalls o.key = true → Goes (.copyComplete op) s (s.makeRoom o.key)) ∧
    (¬ waits → s.logStalls o.key = false → ∃ t, Goes (.copyComplete op) s t ∧ (∀ p ∈ t.eng.ops, p.id ≠ op) ∧
      (o.committed = false → t.st = u.st ∧ t.core = u.core ∧ t.sync.value = u.sync.value ∧ t.sync.held =
        u.sync.held.map fun h => if h.op = some op then { h with op := none } else h) ∧
      (o.committed = true → (∀ h ∈ t.sync.held, h.op ≠ some op) ∧
        ∀ h, u.sync.held.filter (fun e => e.op == some op) = [h] → h.tested = true → u.arrivalsOf h.key = none →
          u.counterBad h.key = false → u.Canonical → t.st = u.st ∧ t.counter h.key = u.counter h.key + h.amount))) ∧
  (∀ (s : State) (op : Nat) (o : EngineOp), s.eng.ops.find? (fun o => o.id == op && o.kind == .copy) = some o → 4096 ≤ o.agent →
    let waits := (∃ r ∈ o.reads, r.2 = true ∧ (s.watchOf (lineOf r.1)).writer.isSome = true) ∨
      (∃ w ∈ o.writes, w.2 = true ∧ s.openSlot (lineOf w.1) = true)
    (waits → Goes (.copyComplete op) s (s.makeRoom o.key)) ∧
    (¬ waits → o.committed = true → Goes (.copyComplete op) s (((s.moveOut o).dropOp op).finishCopy o)) ∧
    (s.st.canonical → s.st.flaws = [] → (o.writes.map (·.1)).Nodup →
      (∀ c ∈ o.writes ++ o.reads, s.poisoned c.1 = false ∧ s.unlocked (lineOf c.1) = true) →
      ∀ j, j < o.writes.length → j < o.reads.length →
        (s.moveOut o).memByte ((o.writes.map (·.1)).getD j 0) = s.stored ((o.reads.map (·.1)).getD j 0))) ∧
  ∀ (s : State) (k : Nat), (∀ p ∈ s.eng.ops, p.id ≠ k) → Nothing (.copyComplete k) s

/-! Launches and shots. -/

/-- R26, R27, R91, R316, R317, R322: a launch packet waits for the open slots on what it reads; one whose blocks cannot be read
or hold a reserved field ends with its status; otherwise the launch stands in the module under the next number, with the status
that the checks of its descriptor give, in their order. -/
def Sys2Proof.Claims.LaunchStarts : Prop :=
  (∀ (s : State) (die : Nat) (p : Picked), s.picked die 1 = some p →
    s.queueBusy p = true ∨ s.inputsBusy p = true → Nothing (.launchPacket die) s) ∧
  (∀ (s : State) (die : Nat) (p : Picked), s.picked die 1 = some p → s.queueBusy p = false → s.inputsBusy p = false →
    let u := s.meetInputs p
    (s.st.flaws = [] → u = s) ∧
    (∀ st, u.launchInputs p = .error st → Goes (.launchPacket die) s (u.failStart die p st)) ∧
    (∀ b h es, u.launchInputs p = .ok (b, h, es) → ∃ t l, Goes (.launchPacket die) s t ∧
      t.sched.launches = u.sched.launches ++ [l] ∧ t.sched.next = u.sched.next + 1 ∧
      t.sched.selected = Store.set none u.sched.selected die none ∧ l.id = u.sched.next ∧ l.asid = p.asid ∧
      l.span = u.dies (u.context p.asid) ∧
      l.entry = w64 (leAt h 0 8) ∧ l.record = w64 (leAt b 96 8) ∧ l.handler = w64 (leAt b 104 8) ∧ l.retired = false ∧
      l.status = launchStatus (u.context p.asid) h es l.levels ∧
      l.args = (List.range (leAt p.packet 56 1)).map (fun k => w64 (leAt b (8 * k) 8)) ∧ t.st = u.st ∧ t.core = u.core)) ∧
  (∀ (c : Context) (h : List Byte) (es : List (List Byte)) (ls : List Level),
    (badTable h es ls = true → launchStatus c h es ls = 1) ∧
    (badTable h es ls = false → ls.any (·.gang) = true → (c.det = false ∨ c.feat.getLsbD 6 = false) → launchStatus c h es ls = 3) ∧
    (badTable h es ls = false → ls.any (·.gang) = false → (launchStatus c h es ls = 2 ↔ noFit c ls = true)) ∧
    (8 < leAt h 8 1 % 16 → badTable h es ls = true) ∧ (2 ^ 32 ≤ dRange ls * cRange ls → badTable h es ls = true))

/-- R28-R33: the dies of a device share the D indices in blocks that differ by at most one and cover them; a shot that starts
holds its arguments in x2 to x9 and its level registers, runs at the entry, and holds no configured tile, parked row or stream;
the other cores of the die keep their registers. -/
def Sys2Proof.Claims.ShotStarts : Prop :=
  (∀ (ls : List Level) (n : Nat), 0 < n →
    ((List.range n).map fun d => (dBlock ls n d).2).sum = dRange ls ∧
    (∀ d, (dBlock ls n (d + 1)).1 = (dBlock ls n d).1 + (dBlock ls n d).2) ∧ (dBlock ls n 0).1 = 0 ∧
    ∀ d e, d < n → e < n → (dBlock ls n d).2 ≤ (dBlock ls n e).2 + 1) ∧
  (∀ (args : List W64) (k : Nat), 2 ≤ k → k ≤ 9 → (startX args [])[k]?.getD 0 = args.getD (k - 2) 0) ∧
  (∀ (args : List W64) (k : Nat), k < 2 ∨ 9 < k → (startX args [])[k]?.getD 0 = 0) ∧
  (∀ (args : List W64) (ls : List (Nat × W64)) (r : Nat) (v : W64), 0 < r → r < 32 →
    (startX args (ls ++ [(r, v)]))[r]?.getD 0 = v) ∧
  (∀ (s : State) (n a : Nat) (entry : W64) (x : Vector W64 32) (sh : Shot) (g : Option Gang), s.Canonical →
    let c := (s.startShot n a entry x sh g).coreAt n
    c.x = x ∧ c.pc = entry ∧ c.takepc = entry ∧ c.run = .running ∧ c.shot = some sh ∧ c.gang = g ∧ c.rows = Vector.replicate 8 0 ∧
    c.parked = [] ∧ c.q = Vector.replicate 16 [] ∧ c.fmt = 0x88880000#64 ∧ c.mom = 0x3F800000#64 ∧ c.tser = 0 ∧
    (c.ctx.toNat % 65536 = a % 65536) ∧ (s.startShot n a entry x sh g).st = s.st ∧
    ∀ m, m ≠ n → ((s.startShot n a entry x sh g).coreAt m).x = (s.coreAt m).x ∧
      ((s.startShot n a entry x sh g).coreAt m).run = (s.coreAt m).run)

/-- R318-R321, R33, R105: a placement starts units in the order of priority until none fits, counters that firmware has saved
being restored and the U-pad blocks that the context is granted on those cores taken first, each as log 25 says; poison among
what is restored ends the context; the cores that a unit takes are distinct, of the die, free, resident for the context, within
its quota, kept for no displaced shot, and have no U-pad block to take that an engine operation still writes; no shot is placed
before a waiting event has its core (log 93). -/
def Sys2Proof.Claims.Placement : Prop :=
  ∀ (s : State) (d : Nat),
    (s.dispatching = false ∨ s.eventFirst d = true → Nothing (.shotPlacement d) s) ∧
    (s.dispatching = true → s.eventFirst d = false → s.placeOne d = none → Nothing (.shotPlacement d) s) ∧
    (s.dispatching = true → s.eventFirst d = false → ∀ t, s.placeOne d = some t → t.placeOne d = none →
      Goes (.shotPlacement d) s t) ∧
    (∀ t, s.placeOne d = some t → ∃ l u ks, l ∈ s.sched.launches ∧ l.live = true ∧ s.nextUnit d l = some u ∧
      s.leaving d l.asid = false ∧ s.coresFor d l u = some ks ∧
      (∀ v, s.restoreCounters l.asid = some v →
        (∀ w, (v.padsOf l.asid d ks).foldlM (fun (x : State) raw => x.takeBlock l.asid raw) v = some w → t = w.placeUnit d l u ks) ∧
        ((v.padsOf l.asid d ks).foldlM (fun (x : State) raw => x.takeBlock l.asid raw) v = none → t = s.endContext l.asid 0x1F)) ∧
      (s.restoreCounters l.asid = none → t = s.endContext l.asid 0x1F) ∧
      ((s.context l.asid).arrivals = [] → s.restoreCounters l.asid = some s) ∧
      ∀ m ∈ s.sched.launches, l.prio < m.prio → m.prio ≤ 3 → ∀ v, s.nextUnit d m = some v → s.leaving d m.asid = false →
        s.coresFor d m v = none) ∧
    (∀ l u ks, s.Canonical → s.coresFor d l u = some ks → ks.length = (unitShots l.levels u).length ∧ ks.Nodup ∧
      s.held d l.asid + ks.length ≤ (s.context l.asid).quota ∧
      ∀ n ∈ ks, n / 256 = d ∧ s.free_ n = true ∧ (s.coreAt n).resident = l.asid ∧ (s.coreAt n).evicting = false ∧
        n ∉ s.savedOn d l.asid ∧ s.padsReady l.asid n = true)

/-- R42, R43, R323: a launch completes when its shots have ended or its status is not 0, and no open slot stands in the way of
its record or of its queue's header; it retires, its status goes to the queue's error fields, and the add that it names is owed.
-/
def Sys2Proof.Claims.LaunchCompletes : Prop :=
  ∀ (s : State) (id : Nat) (l : Launch), s.launch id = some l →
    let busy := ∃ q, s.queue l.asid l.num = some q ∧ s.headerBusy q = true
    (l.retired = true ∨ (l.status = 0 ∧ s.launchOver l = false) ∨ busy → Nothing (.launchCompletion id) s) ∧
    (l.retired = false → l.status ≠ 0 ∨ s.launchOver l = true → ¬ busy →
      (l.record = 0 → Goes (.launchCompletion id) s (s.retire l)) ∧
      (l.record ≠ 0 → ∀ ts, s.touchesFor l.asid { write := true } [(l.record, 128)] = .ok ts →
        (s.writeWaits ts = true → Nothing (.launchCompletion id) s) ∧
        (s.writeWaits ts = false → Goes (.launchCompletion id) s ((s.writeBytes (writesOf ts (s.recordOf l))).retire l)))) ∧
    (s.recordOf l).length = 128 ∧ leAt (s.recordOf l) 0 1 = l.status % 256 ∧ leAt (s.recordOf l) 8 8 = l.ended % 2 ^ 64 ∧
    leAt (s.recordOf l) 24 8 = s.mod.clk.toNat ∧
    (∀ c v, l.comp = some (c, v) → (s.retire l).sched.adds = s.sched.adds ++ [{ asid := l.asid, key := c, value := v }]) ∧
    (∀ m ∈ (s.retire l).sched.launches, m.id = l.id → m.retired = true)

/-! Traps, handlers, events. -/

/-- R183, R325, R331-R336, R350, R357: a trap of a shot with a handler is delivered to it, once no power-fail warning stands:
PEND is set, the shot is saved with its frame, and the handler starts with the frame's address and CAUSE; without one the launch
ends with the code; ACTION then resumes, supplies or ends; a latch error that is pending is met. Which value firmware supplies,
if any (log 46), and that a scratchpad fault is delivered as it was raised (log 47), are the model's choices. -/
def Sys2Proof.Claims.TrapDelivery : Prop :=
  ∀ (s : State) (n : Nat),
    Goes (.trapRecord n) s ((s.focus n).takePending.focus s.cur) ∧
    (s.undelivered n = none → Nothing (.trapDelivery n) s ∧ Nothing (.faultResolution n) s) ∧
    (∀ h, s.undelivered n = some h →
      let code := (s.coreAt n).cause.toNat % 256
      let pend := (s.coreAt n).cause.toNat / 2 ^ 24 % 2 = 1
      (code = 7 ∨ code = 8 → ¬ pend →
        Goes (.trapDelivery n) s (s.resolveFault n h) ∧ Goes (.faultResolution n) s (s.resolveFault n h)) ∧
      ((code ≠ 7 ∧ code ≠ 8) ∨ pend → Nothing (.faultResolution n) s) ∧
      (pend ∨ (code ≠ 7 ∧ code ≠ 8 ∧ code ≠ 0x12) → Goes (.trapDelivery n) s (s.deliverTrap n h)) ∧
      (code = 0x12 → ¬ pend →
        (Config.supplies (field (s.coreAt n).ctx 15 0) s.fresh = none → Goes (.trapDelivery n) s (s.deliverTrap n h)) ∧
        (∀ v, Config.supplies (field (s.coreAt n).ctx 15 0) s.fresh = some v →
          Goes (.trapDelivery n) s (s.supplyPolicy n v h.launch)))) ∧
    (s.mod.phase ≠ .normal → s.undelivered n = none ∧ s.action n = none) ∧
    (∀ h l, s.launch h.launch = some l →
      let full := (s.coreAt n).cause.toNat % 256 = 0x12 ∧ s.latchFull n = true
      (l.handler = 0 ∨ h.kind = .handler ∨ h.kind = .event ∨ full →
        s.deliverTrap n h = s.endLaunch l.id ((s.coreAt n).cause.toNat % 256)) ∧
      (l.handler ≠ 0 → h.kind ≠ .handler → h.kind ≠ .event → ¬ full → s.deliverTrap n h = s.runHandler n l.asid l)) ∧
    (∀ a l, s.Canonical → (s.coreAt n).gang = none → (s.coreAt n).shot.isSome = true → (s.context a).arrivals = [] →
      s.padsOf a (dieOf n) [n] = [] →
      let t := s.runHandler n a l
      let c := t.coreAt n
      c.pc = l.handler ∧ c.run = .running ∧ c.shot = some { launch := l.id, index := 0, kind := .handler } ∧
      c.x[2] = (s.context a).frameVa + BitVec.ofNat 64 (512 * n) ∧ c.x[3] = (s.coreAt n).cause ||| 0x1000000#64) ∧
    (∀ h v, s.action n = some (h, 0, v) → Goes (.actionResume n) s (s.actResume n h none) ∧ Nothing (.actionSupply n) s ∧
      Nothing (.actionTerminate n) s) ∧
    (∀ h v, s.action n = some (h, 1, v) → Nothing (.actionResume n) s ∧ Nothing (.actionTerminate n) s ∧
      (h.kind ≠ .handler → Goes (.actionSupply n) s (s.actTerminate n h)) ∧
      (causeCode (s.savedCause n (field (s.coreAt n).ctx 15 0)) ≠ 0x12 → Goes (.actionSupply n) s (s.actTerminate n h)) ∧
      (h.kind = .handler → causeCode (s.savedCause n (field (s.coreAt n).ctx 15 0)) = 0x12 →
        (latchOf (((s.readAt ((s.context (field (s.coreAt n).ctx 15 0)).imageAt n) 1024).2.1).drop 784)).length < 8 →
        Goes (.actionSupply n) s (s.actResume n h (some v)))) ∧
    (∀ h k v, 2 ≤ k → s.action n = some (h, k, v) → Goes (.actionTerminate n) s (s.actTerminate n h) ∧
      Nothing (.actionResume n) s ∧ Nothing (.actionSupply n) s) ∧
    (s.action n = none → Nothing (.actionResume n) s ∧ Nothing (.actionSupply n) s ∧ Nothing (.actionTerminate n) s)

/-- A message of the host is the one whose turn it is in its session: it is taken up now (spec/31 R380, R381). -/
def Sys2Proof.Claims.Heard (s : State) (r : Req) (x : Session) (q : Ask) : Prop :=
  s.mod.boot = .up ∧ s.session r.sid = some x ∧ r.seq = x.next ∧ q.received r = true

/-- R59, R60, R65, R68, R69, R80, R106, R345, R380, R389: a fault waits while a tinv of its ASID is open or its page is on its
way; walked afresh, an access that is allowed resumes; a host-owned page is fetched, once, and again after 1 ms without a reply;
other faults are delivered, and so are those in a scratchpad window, as they were raised (log 47); the reply is a message of its
session in its turn, held while it waits: a page's arrival is written and the faults that wait for it are walked afresh, a
refusal has them walked afresh and delivered once no tinv of the ASID is open; a page of more than 4 KiB moves part by part, OWN
being set once the device holds all its parts (log 92); a page move copies each block to its frame under the context's key,
writes the entries, and drops the translations, and waits for every access of the context and for the open slots of both frames.
-/
def Sys2Proof.Claims.FaultsAndPages : Prop :=
  ∀ (s : State) (n frame : Nat) (h : Shot) (r : Req) (va : W64) (granted : Bool) (data : List Byte),
    let a := r.asid.toNat
    let c := s.coreAt n
    let m := field c.ctx 15 0
    let page := va &&& 0xFFFFFFFFFFFFF000#64
    let fetching := ∃ e ∈ s.peers.moves, e.asid = a ∧ e.va = page
    (s.tinvOpen m = true → s.resolveFault n h = s) ∧
    (s.tinvOpen m = false → (s.moving m c.dw0 = false ∨ c.cause.toNat % 65536 ≠ 0x0507) →
      (padBase ≤ c.dw0.toNat → s.resolveFault n h = s.deliverTrap n h) ∧
      (c.dw0.toNat < padBase → (s.focus n).freshFail (accOf c) c.dw0 = none → s.resolveFault n h = s.resumeAll n) ∧
      (c.dw0.toNat < padBase → ∀ f, (s.focus n).freshFail (accOf c) c.dw0 = some f →
        let t := (s.stoppedWith n).foldl (fun u k => u.onCore k (·.recaused f)) s
        (f = Fail.hostOwned → s.resolveFault n h = t.fetchPage m c.dw0) ∧
        (f ≠ Fail.hostOwned → s.resolveFault n h = t.deliverTrap n h))) ∧
    (s.moving a va = true → s.fetchPage a va = s) ∧
    (∀ x, s.moving a va = false → s.hostOf a = some x → let part := s.missingPart a va
      ((s.context a).parts.contains page.toNat = false → part = page) ∧ ∃ t, s.fetchPage a va = t ∧
      t.peers.moves = s.peers.moves ++ [{ asid := a, va := part, sid := x.sid, seq := x.sent, since := s.mod.clk }] ∧
      t.peers.outbox = s.peers.outbox ++
        [.fetch x.sid x.sent a (pageOf part) (x.datagram x.sent (fetchBody a (pageOf part)))]) ∧
    (¬ fetching → s.fetched a va granted data = some s) ∧
    (fetching → granted = true →
      (s.pageWaits a va = true → s.fetched a va granted data = none) ∧
      (s.pageWaits a va = false → let t := (s.takePage a va data).endMove a va
        s.fetched a va granted data = some ((t.waitingFor a va).foldl (fun u e => u.resolveFault e.1 e.2) t))) ∧
    (fetching → granted = false →
      (s.tinvOpen a = true → s.fetched a va granted data = none) ∧
      (s.tinvOpen a = false → let t := s.endMove a va
        s.fetched a va granted data = some ((t.waitingFor a va).foldl
          (fun u e => u.walkedAfresh e.1 fun _ v => v.deliverTrap e.1 e.2) t))) ∧
    (∀ act, ((s.focus n).freshFail (accOf c) c.dw0 = none → s.walkedAfresh n act = s.resumeAll n) ∧
      ∀ f, (s.focus n).freshFail (accOf c) c.dw0 = some f →
        s.walkedAfresh n act = act f ((s.stoppedWith n).foldl (fun u k => u.onCore k (·.recaused f)) s)) ∧
    (s.Canonical → ∀ e ∈ s.waitingFor a va, (s.coreAt e.1).run = .stopped ∧ (s.coreAt e.1).why = .trap ∧ (s.coreAt e.1).shot = some e.2 ∧
      (s.coreAt e.1).cause.toNat % 65536 = 0x0507 ∧ s.samePage a va (s.coreAt e.1).dw0 = true) ∧
    (∀ raw, s.pageRaw a va = some raw → let ps := s.partsOfPage a va
      let t := s.writeLinesAt raw data false
      let u := t.onContext a fun k => { k with parts := page.toNat :: k.parts }
      ((∀ p ∈ ps, p ∈ (u.context a).parts) → s.takePage a va data =
        (u.onContext a fun k => { k with parts := k.parts.filter fun p => !ps.contains p }).setOwn a va true) ∧
      ((∃ p ∈ ps, p ∉ (u.context a).parts) → s.takePage a va data = u)) ∧
    (∀ pa e own, s.leafEntries a va = ([(pa, e)], 4096) → s.setOwn a va own =
      (s.setEntry a pa (if own then e ||| 64#64 else e &&& ~~~64#64)).dropTlb a (leafBase va 4096) 1) ∧
    (∀ x, Sys2Proof.Claims.Heard s r x (.fetched va granted data) →
      let held := Goes (.fetchReply r va granted data) s (State.respondHeld r.sid 256
        (s.onSession x.sid fun z => z.hold r (.fetched va granted data)))
      (s.mod.phase ≠ .normal → held) ∧
      (s.mod.phase = .normal → (s.context a).session = some x.sid → (granted = true → data.length = 4096) →
        Ask.wellFormed (.fetched va granted data) r = true →
        (s.fetched a va granted data = none → held) ∧
        (∀ t, s.fetched a va granted data = some t → Goes (.fetchReply r va granted data) s (State.respondHeld r.sid 256
          ((t.onSession x.sid fun z => z.passed r.seq).exhaust x.sid))))) ∧
    (∀ x k, x.taken = [] → Session.passed x k =
      { x with next := x.next + 1, waiting := x.waiting.filter fun e => e.1.seq != k }) ∧
    (∀ mv x, s.peers.moves.find? (fun e => e.asid == a && e.va == pageOf va) = some mv → s.hostOf a = some x →
      ((s.mod.clk - mv.since).toNat < 1000000 → Nothing (.fetchResend r.asid va) s) ∧
      (1000000 ≤ (s.mod.clk - mv.since).toNat → mv.sid = x.sid → ∃ t, Goes (.fetchResend r.asid va) s t ∧ t.st = s.st ∧
        t.core = s.core ∧
        t.peers.outbox = s.peers.outbox ++ [.fetch x.sid mv.seq a page (x.datagram mv.seq (fetchBody a page))]) ∧
      (1000000 ≤ (s.mod.clk - mv.since).toNat → mv.sid ≠ x.sid →
        Goes (.fetchResend r.asid va) s ((s.endMove a va).fetchPage a va))) ∧
    (¬ fetching → Nothing (.fetchResend r.asid va) s) ∧
    (s.accessesOpen a = true ∨ s.mod.phase ≠ .normal → Nothing (.pageMove r.asid va frame) s) ∧
    (∀ es size w, s.leafEntries a va = (es, size) →
      (frame % size ≠ 0 → Nothing (.pageMove r.asid va frame) s) ∧
      (s.accessesOpen a = false → s.mod.phase = .normal → frame % size = 0 → s.walk a (pageOf va) = .ok w →
        (∀ k, k < size / 4096 → (s.place (s.context a) (w.frame + 4096 * k)).isSome = true ∧
          (s.place (s.context a) (frame + 4096 * k)).isSome = true) →
        let old := fun k => (s.place (s.context a) (w.frame + 4096 * k)).getD 0
        let new := fun k => (s.place (s.context a) (frame + 4096 * k)).getD 0
        ((∃ k, k < size / 4096 ∧ (s.blockOpen (old k) = true ∨ s.blockOpen (new k) = true)) →
          Nothing (.pageMove r.asid va frame) s) ∧
        ((∀ k, k < size / 4096 → s.blockOpen (old k) = false ∧ s.blockOpen (new k) = false) →
          let t := (List.range (size / 4096)).foldl (fun u k => u.moveBlock a (old k) (new k)) s
          Goes (.pageMove r.asid va frame) s ((t.setFrame a es frame).dropTlb a (leafBase va size) (size / 4096))))) ∧
    (∀ old new u bs, s.readAt old 4096 = (u, bs, false) →
      s.moveBlock a old new = (((u.setKey new a).writeLinesAt new bs false).setKey old 0)) ∧
    (∀ pa e, s.setFrame a [(pa, e)] frame =
      s.setEntry a pa ((e &&& 0xFFF0000000000FFF#64) ||| (BitVec.ofNat 64 frame &&& 0x000FFFFFFFFFF000#64)))

/-- R337, R356: an event of a launch that is over goes to the event log; without a handler it ends its launch, but for SCREEN;
with one, the handler starts on the first candidate core with the frame's address and CAUSE, which its core holds too; when none
has come free for the grace period since the event first found none, the shot on the highest-numbered core is displaced. -/
def Sys2Proof.Claims.EventDelivery : Prop :=
  ∀ (s : State) (k : Nat) (e : Event), s.sched.events[k]? = some e →
    (s.launch e.launch = none → Goes (.eventDelivery k) s (s.dropEvent k)) ∧
    (∀ l, s.launch e.launch = some l →
      (l.live = false → Goes (.eventDelivery k) s ((s.logEvent e).dropEvent k)) ∧
      (l.live = true → l.handler = 0 →
        (e.cause = .screen → Goes (.eventDelivery k) s ((s.logEvent e).dropEvent k)) ∧
        (e.cause ≠ .screen → Goes (.eventDelivery k) s ((s.dropEvent k).endLaunch l.id e.cause.code))) ∧
      (l.live = true → l.handler ≠ 0 →
        (s.deliverable k e = false ∨ s.dispatching = false → Nothing (.eventDelivery k) s) ∧
        (s.deliverable k e = true → s.dispatching = true →
          (s.eventCore e = none → Goes (.eventDelivery k) s { s with sched := { s.sched with
            events := s.sched.events.mapIdx fun i f => if i = k then { f with waits := some (f.waits.getD s.mod.clk) } else f } }) ∧
          (∀ n, s.eventCore e = some n →
            let t := s.runEvent k e n l
            Goes (.eventDelivery k) s t ∧ (s.Canonical → (s.context e.asid).arrivals = [] →
              s.padsOf e.asid (dieOf n) [n] = [] → (t.sched.events[k]?).map (·.given) = some true ∧ (t.coreAt n).pc = l.handler ∧
              (t.coreAt n).x[2] = (s.context e.asid).frameVa + BitVec.ofNat 64 (512 * n) ∧
              (t.coreAt n).x[3] = BitVec.ofNat 64 (e.cause.code % 2 ^ 16 + 6 * 65536 + 0x800000 + 0x1000000) ∧
              (t.coreAt n).cause = (t.coreAt n).x[3])))) ∧
      (∀ w, s.deliverable k e = true → s.dispatching = true → s.eventCore e = none → e.waits = some w →
        s.mod.grace ≤ (s.mod.clk - w).toNat →
        s.isOut (s.eventDie e) e.asid = false → s.tinvOpen e.asid = false → ∀ n, s.highestCore (s.eventDie e) e.asid = some n →
        let r := s.displace (s.stopSet n)
        Goes (.eventWaitExpiry k) s (if r.2 then r.1.runEvent k e n l else r.1)) ∧
      ((s.eventCore e).isSome = true ∨ (∀ w, e.waits = some w → (s.mod.clk - w).toNat < s.mod.grace) → Nothing (.eventWaitExpiry k) s)) ∧
    (∀ j, s.sched.events.length ≤ j → Nothing (.eventDelivery j) s ∧ Nothing (.eventWaitExpiry j) s) ∧
    (s.dropEvent k).sched.events = s.sched.events.eraseIdx k

/-- R41, R103, R324, R338-R341: PREEMPT tells the crews of the outgoing context to stop and, once every one of its cores has
stopped and its copies have ended, saves and releases them; then the incoming one takes its cores; at the end of a slice the
next context with ready work in turn comes in, the lowest ASID above that of the first whose slice is over, else the lowest:
beside the others where the die has free cores, else in the place of a context whose slice is over; that it comes in at these
two events alone is the model's choice (log 9); the grace period, which firmware may set (log 27), ends a launch whose protected
or atomic take has kept its core. -/
def Sys2Proof.Claims.Switching : Prop :=
  ∀ (s : State) (d n : Nat) (o i : BitVec 16),
    Goes (.preempt d o i) s (s.setGrace.switch d o.toNat i.toNat) ∧
    (Config.graceSet s.fresh = none → s.setGrace = s) ∧
    (∀ g, Config.graceSet s.fresh = some g → s.setGrace = { s with mod := { s.mod with grace := g } }) ∧
    (s.tinvOpen o.toNat = true → o ≠ 0 → o ≠ i → (s.context o.toNat).live = true → s.switch d o.toNat i.toNat = s) ∧
    (s.tinvOpen o.toNat = false →
      let t := (s.crewOn d o.toNat).foldl State.evict s
      let done := (t.crewOn d o.toNat).all fun k => t.quiet k && t.copiesDone k && (t.coreAt k).reserved.isNone
      (done = true → s.leave d o.toNat = (t.switchOut d o.toNat, true)) ∧ (done = false → s.leave d o.toNat = (t, false))) ∧
    (∀ a, a ≠ 0 → (s.context a).live = true → (s.context a).halted = false → (s.dies (s.context a)).1 ≤ d →
      d < (s.dies (s.context a)).1 + (s.dies (s.context a)).2 → s.dispatching = true → (s.die d).shed = false →
      (s.isOut d a = true → s.mayReturn d a = true → s.blocksReady d a (s.coresTaken d a) = true →
        s.switch d 0 a = s.switchIn d a) ∧
      (s.isOut d a = false → (∀ k ∈ s.coresGained d a, s.padsReady a k = true) → s.switch d 0 a = s.grow d a)) ∧
    (s.core.evicting = true → s.core.gang = none → s.core.run = .running → s.core.bundle = none → s.core.take.preempts < 2 →
      s.core.take.atomic = false → s.cur < 2048 → let t := s.stopPreempted
      t.core.run = .stopped ∧ t.core.why = .preempt ∧ t.core.pc = s.core.takepc ∧
      t.core.take.preempts = s.core.take.preempts + 1 ∧ s.yields = true) ∧
    (2 ≤ s.core.take.preempts ∨ s.core.take.atomic = true → s.core.gang = none → s.yields = false) ∧
    (let c := s.coreAt n
     let due := c.evicting = true ∧ (2 ≤ c.take.preempts ∨ c.take.atomic = true) ∧
       s.mod.grace ≤ (s.mod.clk - c.evictAt).toNat ∧ (c.run = .running ∨ c.run = .blocked)
     (∀ h, due → c.shot = some h → Goes (.graceExpiry n) s (s.endLaunch h.launch 0x20)) ∧ (¬ due → Nothing (.graceExpiry n) s)) ∧
    ((∀ e ∈ s.sched.contexts, s.wantsDie d e.1 = false) → Nothing (.timeSliceEnd d) s) ∧
    (let asids := s.sched.contexts.map (·.1)
     let wanting := asids.filter fun a => s.wantsDie d a
     let past := asids.filter fun a => !s.isOut d a &&
       decide ((s.context a).slice.toNat ≤ (s.mod.clk - Store.get 0 (s.context a).sliceAt d).toNat)
     ∀ x, nextContext ((nextContext 0 past).getD 0) wanting = some x →
      let room := (s.isOut d x = false ∨ s.mayReturn d x = true) ∧ ∃ k ∈ coresOfDie d, (s.coreAt k).resident = 0 ∧ s.free_ k = true
      (room → Goes (.timeSliceEnd d) s (s.switch d 0 x)) ∧
      (¬ room → ∀ y, nextContext 0 (past.filter (· != x)) = some y → Goes (.timeSliceEnd d) s (s.switch d y x)) ∧
      (¬ room → (∀ y ∈ past, y = x) → Nothing (.timeSliceEnd d) s)) ∧
    (∀ after l x, nextContext after l = some x ↔
      x ∈ l ∧ ((after < x ∧ ∀ y ∈ l, after < y → x ≤ y) ∨ ∀ y ∈ l, y ≤ after ∧ x ≤ y)) ∧
    (∀ a, s.isOut d a = true → s.wantsDie d a = s.readyOn a d)

/-! Reliability. -/

/-- R347, R350-R353, R371: an upset of a code word or a counter leaves it in error until it is read, corrected or overwritten,
and two wrong bits of a counter poison it; that LEVEL 7 names a counter and LEVEL 8 a latch, and that wrong bits add up, is the
model's choice (log 26); a word of a combine buffer, whose layout is free (log 67), is met at the release of its slot, and one
that is uncorrectable then spoils the elements of its granule; one of a latch replays the take; a patrol scrub corrects a unit
and counts it, and passes over poisoned and zeroed ones; an uncorrectable word that is read replays the take twice, then raises
SOFTERR. -/
def Sys2Proof.Claims.UpsetsAndPatrol : Prop :=
  ∀ (s : State) (raw : W64) (bits die : Nat),
    let l := raw.toNat / 2 ^ 60
    let n := raw.toNat / 2 ^ 49 % 2 ^ 11
    Nothing (.upset raw 0) s ∧
    (bits ≠ 0 →
      (l = 7 → let key := raw.toNat % 2 ^ 25
        ∃ t, Goes (.upset raw bits) s t ∧ t.counterFlaws key = s.counterFlaws key + bits ∧ t.sync.value = s.sync.value ∧
          (t.counterBad key = true ↔ Store.get false s.sync.poisoned key = true ∨ 2 ≤ s.counterFlaws key + bits)) ∧
      (l = 8 → Goes (.upset raw bits) s
        (s.onCore n fun c => { c with pending := some { cause := .softerr, detail := 2, w1 := w64 (raw.toNat % 2 ^ 16) } })) ∧
      (l ≠ 7 → l ≠ 8 → s.rawValid raw = false → Nothing (.upset raw bits) s) ∧
      (l ≠ 5 → l < 7 → s.rawValid raw = true → ∃ t, Goes (.upset raw bits) s t ∧
        t.flaws raw.toNat = s.flaws raw.toNat + bits ∧ t.st.mem = s.st.mem ∧ t.core = s.core ∧ t.eng = s.eng) ∧
      (l = 5 → s.rawValid raw = true → Goes (.upset raw bits) s ((s.struck raw.toNat).onCore n fun c =>
        { c with upsets := Store.set 0 c.upsets (raw.toNat % 2 ^ 20) (Store.get 0 c.upsets (raw.toNat % 2 ^ 20) + bits) }))) ∧
    (∀ k i, s.meetRows k i = ((s.st.flaws.map (·.1)).filter fun w =>
      s.isCombine w && (combineAt w).1 == k && (combineAt w).2.1 == i).foldl State.settlePad s) ∧
    (s.Canonical → s.isCombine raw.toNat = true → s.flaws raw.toNat = 2 → let t := s.settlePad raw.toNat
      t.flaws raw.toNat = 0 ∧ Store.get false t.st.poison (unitOf raw.toNat) = true ∧ t.eng = s.eng) ∧
    (∀ u x, s.isCombine u = true → Store.get false s.st.poison u = true → let at_ := combineAt u
      let size := (s.cstream at_.1).inBytes
      x < 16 / size → (at_.2.2.1, at_.2.2.2 / size + x) ∈ s.spoiled at_.1 at_.2.1) ∧
    ((s.rawValid raw = false ∨ l = 5 ∨ s.retained raw.toNat = true ∨ s.patrolDie raw.toNat ≠ die ∨
      s.mod.scrub.toList.getD l 0 = 0) → Nothing (.patrolScrub die raw) s) ∧
    (s.rawValid raw = true → l ≠ 5 → s.retained raw.toNat = false → s.patrolDie raw.toNat = die → s.mod.scrub.toList.getD l 0 ≠ 0 →
      Goes (.patrolScrub die raw) s ((s.patrol raw.toNat).noteLag die l)) ∧
    (3 ≤ l → l ≠ 6 → (s.line raw.toNat).poison = true ∨ (s.line raw.toNat).zeroed = true → s.patrol raw.toNat = s) ∧
    (l < 3 ∨ l = 6 → s.flaws raw.toNat = 0 → s.patrol raw.toNat = s) ∧
    (l < 3 → s.flaws raw.toNat = 1 → Store.get false s.st.poison (unitOf raw.toNat) = false → s.Canonical →
      (s.patrol raw.toNat).flaws raw.toNat = 0 ∧ (s.patrol raw.toNat).st.mem = s.st.mem) ∧
    (∀ w, s.core.take.atomic = false → s.core.take.replays < 2 → s.core.gang = none → s.core.run = .running →
      let t := s.replay w
      t.core.pc = s.core.takepc ∧ t.core.run = .running ∧ t.core.take.replays = s.core.take.replays + 1) ∧
    (∀ w, (∃ m ∈ s.members, (s.coreAt m).take.atomic = true) ∨ 2 ≤ s.core.take.replays → ∃ a b d, s.replay w =
      (s.countEvent (regRaw s.cur w) 2).raise { cause := .softerr, detail := d, w0 := a, w1 := b })

/-- R354-R356: a screen test takes the next core of a cluster that is not fenced; a shot in a group is skipped at most three
times in succession; a pass counts and lets the core go on, a failure fences it and raises SCREEN for every launch that ran on
it. -/
def Sys2Proof.Claims.ScreenTests : Prop :=
  ∀ (s : State) (k n : Nat),
    let order := (List.range 16).map fun j => 16 * k + ((s.cluster k).screen + j) % 16
    (s.dispatching = false ∨ (s.die (k / 16)).shed = true ∨ (∃ m ∈ order, (s.coreAt m).testing = true) ∨
      (∀ m ∈ order, (s.coreAt m).fenced = true) → Nothing (.screenTestStart k) s) ∧
    (s.dispatching = true → (s.die (k / 16)).shed = false → (∀ m ∈ order, (s.coreAt m).testing = false) →
      s.Canonical → ∀ before m after, order = before ++ m :: after → (∀ j ∈ before, (s.coreAt j).fenced = true) → (s.coreAt m).fenced = false →
      ∃ t, Goes (.screenTestStart k) s t ∧ (t.coreAt m).testing = true ∧ (t.coreAt m).ballast = none ∧ t.st = s.st) ∧
    (let c := s.coreAt n
     (c.testing = false ∨ c.shot = none ∨ s.tinvOpen (field c.ctx 15 0) = true → Nothing (.screenPreempt n) s) ∧
     (c.testing = true → c.shot.isSome = true → s.tinvOpen (field c.ctx 15 0) = false →
      (s.grouped n = true → c.skips < 3 → Goes (.screenPreempt n) s
        (s.onCore n fun j => { j with testing := false, skips := j.skips + 1 })) ∧
      (s.grouped n = false ∨ 3 ≤ c.skips → Goes (.screenPreempt n) s (s.displace (s.stopSet n)).1)) ∧
     let open_ := (s.die (dieOf n)).shed = false ∧ s.dispatching = true
     (c.testing = false ∨ c.shot.isSome = true ∨ c.reserved.isSome = true ∨ ¬ open_ →
      Nothing (.screenTest n true) s ∧ Nothing (.screenTest n false) s) ∧
     (c.testing = true → c.shot = none → c.reserved = none → open_ →
      (c.resident = 0 → Goes (.screenTest n true) s (s.passTest n)) ∧
      (c.resident ≠ 0 → Goes (.screenTest n true) s ((s.passTest n).returnShots n c.resident)) ∧
      Goes (.screenTest n false) s (s.failTest n) ∧
      (s.Canonical → ((s.failTest n).coreAt n).fenced = true ∧ ((s.failTest n).coreAt n).testing = false) ∧
      (∀ l ∈ s.sched.launches, l.ranOn.contains n = true → ∃ e ∈ (s.failTest n).sched.events, e.cause = .screen ∧ e.launch = l.id ∧
        e.w0 = BitVec.ofNat 64 n)))

/-! Hibernation, power, boot, links. -/

/-- R357, R358, R360, R362, R363, R365, R373-R376: the warning stops every core at a take start, once a commit that has begun,
which is one whose copies still write watched memory (log 111), has completed; quiescence completes what is in flight, and
carries collectives, which the model takes to be in flight still (log 69), and what a full arrival log holds up; the drain saves
and writes a slate of the next generation, which is the valid one, the regions in their order and within the budget; a restart
without a valid slate begins cold, with a rejected one begins cold and keeps it, and otherwise restores it: a region of which
nothing was saved is poisoned, one whose pages fail the tier's code is corrupt. What of firmware's own records the drain keeps
beside the tier is the model's choice (log 53). -/
def Sys2Proof.Claims.Hibernation : Prop :=
  ∀ s : State,
    (s.mod.boot ≠ .up → Nothing .powerFailWarning s) ∧
    (s.mod.boot = .up → s.mod.phase = .normal → Goes .powerFailWarning s
      (let t := s.powerStopAll
       { t with mod := { t.mod with phase := .warned, stepw := t.mod.step } })) ∧
    ((∀ n ∈ s.shotCores, s.commitBegun n = false) → s.powerStopAll = s.shotCores.foldl State.powerStop s) ∧
    (∀ n, s.shotCores = [n] → s.commitBegun n = true → (s.focus n).members = [n] →
      s.powerStopAll = (s.finishCommit n).powerStop n) ∧
    (∀ n, (s.focus n).watchedOut = false → s.commitBegun n = false) ∧
    (∀ n h, (s.coreAt n).shot = some h → h.kind = .placed ∨ h.kind = .spawned → (s.coreAt n).reserved = none →
      (s.coreAt n).run = .running ∨ (s.coreAt n).run = .blocked →
      ((s.powerStop n).coreAt n).run = .stopped ∧ ((s.powerStop n).coreAt n).why = .power) ∧
    (s.mod.boot = .up → s.mod.phase = .restarting → Goes .powerFailWarning s { s with mod := { s.mod with boot := .off } }) ∧
    (s.mod.phase ≠ .normal → s.mod.phase ≠ .restarting → Nothing .powerFailWarning s) ∧
    (s.mod.phase ≠ .warned → Nothing .quiescence s) ∧
    (s.mod.phase = .warned →
      let u := s.shotCores.foldl (fun t n => t.withCore n State.flushStreams) s
      let v := u.eng.ops.foldl State.settleOp u
      Goes .quiescence s { v with
        sched := { v.sched with events := v.sched.events.filter (·.given) }
        peers := { v.peers with moves := [] }
        mod := { v.mod with phase := .quiet,
                            report := some { regions := [], stopped := [], pages := v.peers.moves.map fun m => (m.asid, m.va) } } }) ∧
    (∀ o, (s.logStalls o.key = true ∨ o.kind = .coll → s.settleOp o = s) ∧
      (s.logStalls o.key = false → o.kind = .copy → s.settleOp o = s.endCopy o ∧ ∀ p ∈ (s.settleOp o).eng.ops, p.id ≠ o.id) ∧
      (s.logStalls o.key = false → o.kind = .put → s.settleOp o = (s.takeSource o).1.depositPut (s.takeSource o).2)) ∧
    (s.mod.phase ≠ .quiet → Nothing .drain s) ∧
    (s.mod.phase = .quiet →
      let gen := s.mod.genmax + 1
      let r := ({ s with mod := { s.mod with genmax := gen, hibheld := true } } : State).drainSteps gen
      let b := r.1.slateBytes gen (4096 * r.2.1.blocks.length) r.2.2
      ∃ t, Goes .drain s t ∧ t.mod.phase = .drained ∧ t.mod.genmax = gen ∧ t.mod.hibheld = true ∧ t.mod.rejected = false ∧
        t.mod.kept = some r.2.1 ∧
        (s.Canonical → gen < 2 ^ 64 → b.length ≤ 2 ^ 29 → t.validSlate = some (gen % 2, b))) ∧
    (∀ gen es left block, (((State.drainRegions gen es left block s).2.map (·.index)) = es.map (·.1)) ∧
      ((State.drainRegions gen es left block s).2.map (·.done)).sum ≤ left) ∧
    (s.mod.boot ≠ .up ∨ s.mod.phase ≠ .restarting → Nothing .restart s) ∧
    (s.mod.boot = .up → s.mod.phase = .restarting →
      let u := (s.readSlot 0).readSlot 1
      (s.st.flaws = [] → u = s) ∧
      (s.validSlate = none ∨ s.mod.kept = none → Goes .restart s u.coldStart) ∧
      (∀ k b x, s.validSlate = some (k, b) → s.mod.kept = some x →
        (s.slateRejected b = true → ∃ t, Goes .restart s t ∧ t.mod.rejected = true ∧ t.mod.phase = .normal ∧
          t.mod.kept = u.mod.kept ∧ t.sched = u.sched ∧ t.st = u.st ∧ t.peers.outbox = u.peers.outbox ++ [.report]) ∧
        (s.slateRejected b = false → Goes .restart s (u.restoreFrom k b x)))) ∧
    s.coldStart.mod.phase = .normal ∧ s.coldStart.st = s.st ∧
    (∀ b, s.slateRejected b = true ↔ (b.drop 32).take 48 ≠ sized 48 Config.identity ∨ (b.drop 80).take 48 ≠ sized 48 s.mod.bootm ∨
      w64 (leAt b 24 8) &&& ~~~offered ≠ 0) ∧
    (∀ gen r, (r.state = 0 ∨ r.state = 3 →
        s.restoreRegion gen r = (s.poisonLines r.entry.raw.toNat (64 * r.entry.pages), r.state)) ∧
      (r.state = 1 → r.done ≠ 0 → s.tierBad r.block r.done = true → (s.restoreRegion gen r).2 = 4)) ∧
    (∀ k, s.slateAt k ≠ none → leAt ((s.readSlot k).tierBytes 0 (131072 * k) 4096) 0 8 = 0x53544C31 ∧
      leAt ((s.readSlot k).tierBytes 0 (131072 * k) 4096) 8 8 = (s.readSlot k).mod.genmax)

/-- R370-R372, R394, R395, R397, R398: the power levels run 8 − 2 × level dies; a lost phase lowers the die's limit; an
imbalance lowers the heavier layer's cap by a step, a die over its limit, which no input of the model shows (log 72), both, and
10 µs of calm raise both (log 33), a layer's cap being the lower of the dispatcher's and the sensor's (log 91); heat sets the
hot flag from 95 degrees and clears it at 90, and steps the clock; an idle core is gated after its hold, and one of the first
four that wait on its pair wakes. -/
def Sys2Proof.Claims.PowerEvents : Prop :=
  ∀ (s : State) (level die pair up lo cl temp n : Nat),
    (s.dispatching = false ∨ level < s.mod.level ∨ 4 < level → Nothing (.powerLevelDrop level) s) ∧
    (s.dispatching = true → s.mod.level ≤ level → level ≤ 4 →
      let t : State := { s with mod := { s.mod with level := level, levelAt := s.mod.clk } }
      let stay := Min.min s.liveDies (8 - 2 * level)
      Goes (.powerLevelDrop level) s (((List.range (s.liveDies - stay)).map fun k => s.liveDies - 1 - k).foldl State.shed t)) ∧
    (s.dispatching = false ∨ s.mod.level ≤ level ∨ (s.mod.clk - s.mod.levelAt).toNat < 100000000 →
      Nothing (.powerLevelRaise level) s) ∧
    (s.dispatching = true → level < s.mod.level → 100000000 ≤ (s.mod.clk - s.mod.levelAt).toNat →
      let t : State := { s with mod := { s.mod with level := level } }
      Goes (.powerLevelRaise level) s ((List.range (Min.min s.liveDies (8 - 2 * level))).foldl State.unshed t)) ∧
    Goes (.phaseLoss die) s (s.setDie die { s.die die with lost := Min.min 12 ((s.die die).lost + 1) }) ∧
    (let p := s.pair pair
     let upper := Min.min p.capUp p.needUp
     let lower := Min.min p.capLo p.needLo
     let beyond := Config.overCurrent (pair / 8) s.fresh
     let small := 20 * up ≤ 20 * lo + Max.max up lo ∧ 20 * lo ≤ 20 * up + Max.max up lo
     let since := if small then some (p.calm.getD s.mod.clk) else none
     (beyond = true → Goes (.imbalanceSample pair up lo) s
      (s.setPair pair { p with capUp := Max.max 1 (upper - 1), capLo := Max.max 1 (lower - 1), calm := none })) ∧
     (beyond = false →
      (10 * up ≤ 10 * lo + Max.max up lo → 10 * lo ≤ 10 * up + Max.max up lo → Goes (.imbalanceSample pair up lo) s
        (s.setPair pair { p with calm := since })) ∧
      (10 * lo + up < 10 * up → lo < up → Goes (.imbalanceSample pair up lo) s
        (s.setPair pair { p with capUp := Max.max 1 (upper - 1), calm := none })) ∧
      (10 * up + lo < 10 * lo → up < lo → Goes (.imbalanceSample pair up lo) s
        (s.setPair pair { p with capLo := Max.max 1 (lower - 1), calm := none }))) ∧
     (∀ t, p.calm = some t → 10000 ≤ (s.mod.clk - t).toNat → Goes (.imbalanceCapRaise pair) s (s.setPair pair
      { p with capUp := Min.min 10 (p.capUp + 1), capLo := Min.min 10 (p.capLo + 1), needUp := Min.min 10 (p.needUp + 1),
               needLo := Min.min 10 (p.needLo + 1), calm := some s.mod.clk })) ∧
     ((∀ t, p.calm = some t → (s.mod.clk - t).toNat < 10000) → Nothing (.imbalanceCapRaise pair) s)) ∧
    (let c := s.cluster cl
     (95 ≤ temp → Goes (.hotFlag cl temp) s (s.setCluster cl { c with hot := true })) ∧
     (temp ≤ 90 → Goes (.hotFlag cl temp) s (s.setCluster cl { c with hot := false })) ∧
     (90 < temp → temp < 95 → Nothing (.hotFlag cl temp) s) ∧
     (100 ≤ temp ∨ (95 ≤ temp ∧ ∀ k < 16, (s.cluster (cl / 16 * 16 + k)).hot = true) →
      Goes (.thermalStep cl temp) s (s.setCluster cl { c with steps := Min.min 7 (c.steps + 1) })) ∧
     (temp ≤ 90 → Goes (.thermalStep cl temp) s (s.setCluster cl { c with steps := c.steps - 1 })) ∧
     (90 < temp → temp < 95 → Nothing (.thermalStep cl temp) s) ∧
     (95 ≤ temp → temp < 100 → (∃ k < 16, (s.cluster (cl / 16 * 16 + k)).hot = false) → Nothing (.thermalStep cl temp) s)) ∧
    (let c := s.coreAt n
     let waits := 2048 ≤ n ∨ c.run ≠ .idle ∨ c.reserved.isSome = true ∨ c.ballast.isSome = true ∨ c.testing = true ∨
       (s.mod.clk - c.holdAt).toNat < 20000
     (waits → Nothing (.gatingHoldExpiry n) s) ∧
     (¬ waits → c.shot = none → Goes (.gatingHoldExpiry n) s (s.onCore n fun k => { k with gated := true, ballast := none })) ∧
     (n ∈ (s.pair (pairOf n)).wakes.take 4 → Goes (.wakeComplete n) s ((s.setPair (pairOf n)
        { s.pair (pairOf n) with wakes := (s.pair (pairOf n)).wakes.erase n }).onCore n fun k =>
          { k with gated := false, holdAt := s.mod.clk })) ∧
     (n ∉ (s.pair (pairOf n)).wakes.take 4 → Nothing (.wakeComplete n) s))

/-- R377-R379, R390, R391: a boot without genuine images or with fewer than two dies ends in recovery, where images may be
written; otherwise the module is up, measured over its images in load order, with at most eight dies, and waits for a restart
where the tier holds a valid slate; a port that trains sends STEP and brings it to the largest value seen, a link that is lost
retrains and after 10 ms goes down; a boundary, 4096 clk after the last, takes the written STEP, or the next. The phase of the
first boundary after a training is free (log 105); that a written STEP below the present one is ignored is the model's reading
(log 55). -/
def Obligations.BootAndLinks : Prop :=
  ∀ (s : State) (passed : List Nat) (budget peer : W64) (port k : Nat) (images : List (List Byte)),
    let lives := ((List.range 9).filter fun d => passed.contains d && d != Config.harvested).take 8
    (s.loads = [] ∨ lives.length < 2 → ∃ t, Goes (.boot passed budget) s t ∧ t.mod.boot = .recovery ∧ t.mod.lives = []) ∧
    (s.loads ≠ [] → 2 ≤ lives.length → ∃ t, Goes (.boot passed budget) s t ∧ t.mod.boot = .up ∧ t.mod.lives = lives ∧
      t.mod.hibbud.toNat % 2 ^ 32 = budget.toNat % 2 ^ 32 ∧ t.mod.hibbud.toNat / 2 ^ 56 = budget.toNat / 2 ^ 56 ∧
      t.mod.hibbud.toNat / 2 ^ 32 % 2 ^ 24 = (Config.reservedMiB + 17) % 2 ^ 24 ∧
      t.mod.phase = (if (s.focus 0).validSlate.isSome then .restarting else .normal) ∧ t.mod.clk = 0 ∧ t.mod.bootm = s.loads.foldl (fun m i => Config.sha384 (m ++ Config.sha384 i)) (List.replicate 48 0) ∧
      t.peers.sessions = [] ∧
      (s.Canonical → ∀ n, (t.coreAt n).run = .idle ∧ (t.coreAt n).shot = none)) ∧
    (s.mod.boot = .recovery → Goes (.recoveryImageWrite k images) s
      { s with mod := { s.mod with images := s.mod.images.setIfInBounds k images } }) ∧
    (s.mod.boot ≠ .recovery → Nothing (.recoveryImageWrite k images) s) ∧
    (s.mod.boot = .up → port < 16 → ∃ t, Goes (.linkTraining port peer) s t ∧ t.peers.ports.toList.getD port 0 = 1 ∧
      t.mod.step.toNat = Max.max s.mod.step.toNat peer.toNat ∧ t.peers.outbox = s.peers.outbox ++ [.step port s.mod.step] ∧
      (s.mod.clk - t.mod.stepAt).toNat < 4096) ∧
    (s.mod.boot ≠ .up ∨ 16 ≤ port → Nothing (.linkTraining port peer) s) ∧
    (let at' := s.peers.ports.toList.getD port 0
     (at' = 1 → ∃ t, Goes (.linkRetrain port) s t ∧ t.peers.ports.toList.getD port 0 = 2 ∧
      t.peers.portAt.toList.getD port 0 = s.mod.clk) ∧
     (at' ≠ 1 → Nothing (.linkRetrain port) s) ∧
     (at' = 2 → 10000000 ≤ (s.mod.clk - s.peers.portAt.toList.getD port 0).toNat → ∃ t, Goes (.linkRetrainTimeout port) s t ∧
      t.peers.ports.toList.getD port 0 = 0) ∧
     (at' ≠ 2 ∨ (s.mod.clk - s.peers.portAt.toList.getD port 0).toNat < 10000000 → Nothing (.linkRetrainTimeout port) s)) ∧
    (s.mod.boot ≠ .up ∨ (s.mod.clk - s.mod.stepAt).toNat < 4096 → Nothing .stepBoundary s) ∧
    (s.mod.boot = .up → 4096 ≤ (s.mod.clk - s.mod.stepAt).toNat → ∃ t, Goes .stepBoundary s t ∧ t.mod.stepNext = none ∧
      t.mod.stepAt = s.mod.stepAt + 4096 ∧
      (s.mod.stepNext = none → t.mod.step = s.mod.step + 1) ∧
      (∀ v, s.mod.stepNext = some v → s.mod.step.toNat ≤ v.toNat → t.mod.step = v) ∧
      (∀ v, s.mod.stepNext = some v → v.toNat < s.mod.step.toNat → t.mod.step = s.mod.step + 1))

/-! Sessions. -/

namespace Sys2Proof.Claims

open Sys2Proof.Machine

/-- The events of the session requests, each with what it asks (spec/31 R388). -/
def Asks (r : Req) (v w x : W64) (b : List Byte) (c : Bool) (i : Instr) (q : Ask) : Prop :=
  (i = .sessionOpen r v ∧ q = .open_ v) ∨ (i = .create r v ∧ q = .create v) ∨ (i = .destroy r ∧ q = .destroy) ∨
  (i = .reclaim r b ∧ q = .reclaim b) ∨ (i = .expose r v w c ∧ q = .expose v w c) ∨
  (i = .remoteAppend r v b ∧ q = .append v b) ∨ (i = .remoteRead r v w ∧ q = .read v w) ∨
  (i = .remoteWrite r v b ∧ q = .write v b) ∨ (i = .remoteAdd r v w ∧ q = .add v w) ∨ (i = .recall r v ∧ q = .recall v) ∨
  (i = .give r v b ∧ q = .give v b) ∨ (i = .attestReport r b ∧ q = .report b) ∨ (i = .attestCert r ∧ q = .cert) ∨
  (i = .mread r v w x ∧ q = .mread v w x) ∨ (i = .mwriteScrubRate r v b ∧ q = .scrubRate v b) ∨
  (i = .slateDisposal r b ∧ q = .disposal b) ∨ (i = .sessionClose r ∧ q = .close)

end Sys2Proof.Claims

/-- R380, R381, R383, R310, R311, R16: a HELLO of the form of R381 opens a session, answered with ACCEPT, and in recovery
NOTREADY; another form is dropped; a request that is authentic and whose turn it is is performed and answered, an early one is
held, as is one that waits in its turn (and a reply to a FETCH behind it may be taken up, log 106), an old one answered again
from its stored reply, and one of no session dropped; a detached context whose window has passed ends; a registered queue takes
the lowest number that is free on its device. -/
def Sys2Proof.Claims.Sessions : Prop :=
  ∀ (s : State) (r : Req) (v w x : W64) (b : List Byte) (c : Bool) (asid : BitVec 16) (header : W64),
    (s.mod.boot = .recovery → Goes (.hello b) s (s.send .notReady)) ∧
    (s.mod.boot = .up → b.length = 145 → leAt b 0 2 = 1 → leAt b 4 12 = 0 → ∃ t y half sig, Goes (.hello b) s t ∧
      t.peers.sessions = s.peers.sessions ++ [y] ∧
      y.sid = s.peers.nextSid ∧ y.alive = true ∧ y.opened = false ∧ y.next = 0 ∧ y.sent = 0 ∧
      t.peers.outbox = s.peers.outbox ++ [.accept s.peers.nextSid
        (leBytes 4 1 ++ leBytes 4 s.peers.nextSid ++ leBytes 8 0 ++ half ++ sig)] ∧ half.length = 129 ∧ sig.length = 96) ∧
    (s.mod.boot = .up → b.length ≠ 145 ∨ leAt b 0 2 ≠ 1 ∨ leAt b 4 12 ≠ 0 → Nothing (.hello b) s) ∧
    (∀ i q, Asks r v w x b c i q →
      (s.mod.boot = .recovery → Goes i s (s.send .notReady)) ∧
      (s.mod.boot = .off → Nothing i s) ∧
      (s.mod.boot = .up → s.session r.sid = none ∨ r.ver ≠ 1 ∨ r.kind ≠ 1 ∨ r.authentic = false ∨ 9152 < q.data.length →
        Nothing i s) ∧
      (∀ y, s.mod.boot = .up → r.ver = 1 → r.kind = 1 → r.authentic = true → q.data.length ≤ 9152 → s.session r.sid = some y →
        (r.seq = y.next → ∀ t, s.respond y r q = some t → Goes i s (State.respondHeld r.sid 256 t)) ∧
        ((r.seq = y.next ∧ s.respond y r q = none) ∨ (y.next < r.seq ∧ r.seq < y.next + 256) →
          Goes i s (State.respondHeld r.sid 256 (s.onSession y.sid fun z => z.hold r q))) ∧
        (y.next + 256 ≤ r.seq → Nothing i s) ∧
        (r.seq < y.next → ∀ e, y.replies.find? (fun e => e.1 == r.seq) = some e → y.next ≤ r.seq + 257 →
          Goes i s (s.send (.reply y.sid e.2.1 e.2.2 (y.datagram e.2.1 e.2.2)))) ∧
        (r.seq < y.next → (∀ e ∈ y.replies, e.1 ≠ r.seq) → Nothing i s))) ∧
    (∀ (y : Session) (q : Ask), ((∀ e ∈ y.waiting, e.1.seq ≠ r.seq) → r.seq ∉ y.taken →
        y.hold r q = { y with waiting := y.waiting ++ [(r, q)] }) ∧
      ((∃ e ∈ y.waiting, e.1.seq = r.seq) ∨ r.seq ∈ y.taken → y.hold r q = y)) ∧
    (∀ (k : Nat) (y : Session), s.session r.sid = some y →
      (y.waiting = [] → State.respondHeld r.sid k s = s) ∧
      (∀ e t, y.waiting.find? (fun e => e.1.seq == y.next) = some e → s.takeTurn y e.1 e.2 = some t →
        State.respondHeld r.sid (k + 1) s = State.respondHeld r.sid k t)) ∧
    (∀ (y : Session) (q : Ask) (t : State) (a : Answer), s.perform y r q = some (t, a) → ∃ body u, s.respond y r q = some u ∧
      body.drop 24 = leBytes 8 0 ++ a.data ∧ body.take 2 = leBytes 1 (r.op.getD q.op % 128 + 128) ++ leBytes 1 a.status ∧
      ((∀ z ∈ t.peers.sessions, z.sid = y.sid → z = y) → y ∈ t.peers.sessions →
        u.peers.outbox = t.peers.outbox ++ [.reply y.sid y.sent body (y.datagram y.sent body)])) ∧
    (∀ (y : Session) (q : Ask), s.perform y r q = none → s.respond y r q = none) ∧
    (let k := s.context asid.toNat
     let taken := fun n : Nat => ∃ q ∈ s.sched.queues, q.num = n ∧ (s.context q.asid).pres = k.pres ∧ (s.context q.asid).dev = k.dev
     let limit := if k.pres = 0 then 4096 else if k.pres = 1 then 2048 else 512
     (k.live = true → s.mod.boot = .up → s.mod.phase = .normal → ∀ t, k.detached = some t →
      s.mod.window * 1000000000 ≤ (s.mod.clk - t).toNat → Goes (.reclaimWindowExpiry asid) s (s.endContext asid.toNat 0x21)) ∧
     (k.detached = none → Nothing (.reclaimWindowExpiry asid) s) ∧
     (k.live = false ∨ header.toNat % 64 ≠ 0 ∨ (∀ n, n < limit → taken n) → Nothing (.queueRegistration asid header) s) ∧
     (∀ n, k.live = true → s.dispatching = true → header.toNat % 64 = 0 → n < limit → ¬ taken n → (∀ m, m < n → taken m) →
      let q : Queue := { asid := asid.toNat, num := n, header := header, age := 0 }
      (s.header q).isSome = true →
      (s.headerBusy q = true → Nothing (.queueRegistration asid header) s) ∧
      (s.headerBusy q = false → ∃ t, Goes (.queueRegistration asid header) s t ∧ t.sched.queues = s.sched.queues ++ [q] ∧
        t.st = (s.resetHeader q).st ∧ t.core = s.core)))

/-- R312, R382-R389, R352: what each request is answered: OPEN, CREATE, RECLAIM, EXPOSE, APPEND, READ, WRITE, ADD, RECALL and
GIVE, the attestation report, MREAD, the scrub rates, the slate disposal, CLOSE; a request that R388 does not form so, and a
context request of another session, is BADREQ, one during hibernation HIBERNATING; OPEN gives the session its features, CLOSE
ends it with its contexts, the rates that are written are those of the levels from then on. The model's readings and choices
(log 56): BADREQ of a second OPEN and of a CREATE that cannot be formed, finds no ASID or would make the reserved memory outgrow
FIXED; an EXPOSE takes the place of a range of the same start; a RECALL of what the host holds is DENIED; a larger page moves
part by part (log 92). -/
def Sys2Proof.Claims.RequestAnswers : Prop :=
  ∀ (s : State) (x : Session) (r : Req) (v w : W64) (b : List Byte) (c : Bool),
    let a := r.asid.toNat
    let k := s.context a
    let go := fun q : Ask => s.perform x r q
    let bad : Option (State × Answer) := some (s, status 6)
    let inContext := [Ask.destroy, .expose v w c, .append v b, .read v w, .write v b, .add v w, .recall v, .give v b]
    let every := inContext ++ [.create v, .reclaim b, .report b, .cert, .mread v w w, .scrubRate v b, .disposal b, .close]
    let formed := r.op = none ∧ r.sub = none ∧ r.spare = 0 ∧ r.len = none
    (r.op.isSome = true ∨ r.sub.isSome = true ∨ r.spare ≠ 0 → ∀ q ∈ .open_ v :: every, go q = bad) ∧
    (∀ q n, r.len = some n → n ≠ q.data.length → go q = bad) ∧
    (formed → x.opened = false → ∀ q ∈ every, go q = bad) ∧
    (formed → x.opened = true → s.mod.phase ≠ .normal → ∀ q ∈ inContext ++ [.create v, .reclaim b], go q = some (s, status 2)) ∧
    (formed → x.opened = true → s.mod.phase = .normal → s.mod.level = 4 → go (.append v b) = some (s, status 2)) ∧
    (formed → x.opened = true → s.mod.phase = .normal → s.mod.level ≠ 4 → (k.live = false ∨ k.session ≠ some x.sid) →
      ∀ q ∈ inContext, go q = bad) ∧
    (formed → x.opened = false → v.toNat / 2 ^ 56 ≠ 1 →
      go (.open_ v) = some (s.onSession x.sid fun y => { y with alive := false }, status 4)) ∧
    (formed → x.opened = false → v.toNat / 2 ^ 56 = 1 →
      go (.open_ v) = some (s.onSession x.sid fun y => { y with opened := true, feat := s.grant v }, { res := s.grant v }) ∧
      s.grant v &&& 0xDFF#64 = v &&& Config.offer &&& 0xDFF#64) ∧
    (x.opened = true → go (.open_ v) = bad) ∧
    (formed → x.opened = true → s.mod.phase = .normal → s.mod.level ≠ 4 →
      (s.formed (v.toNat % 4) (v.toNat / 4 % 8) = false → go (.create v) = bad) ∧
      (s.formed (v.toNat % 4) (v.toNat / 4 % 8) = true → v.getLsbD 5 = true → x.feat.getLsbD 4 = false →
        go (.create v) = some (s, status 4)) ∧
      (v.getLsbD 5 = false → s.freeAsid = none → go (.create v) = bad) ∧
      (∀ n, s.formed (v.toNat % 4) (v.toNat / 4 % 8) = true → (v.getLsbD 5 = true → x.feat.getLsbD 4 = true) →
        s.freeAsid = some n →
        ∃ t ticket, (t.reservedBytes ≤ 2 ^ 20 * Config.reservedMiB → go (.create v) = some (t, { res := w64 n, data := ticket })) ∧
          (2 ^ 20 * Config.reservedMiB < t.reservedBytes → go (.create v) = bad) ∧ ticket.length = 32 ∧ (t.context n).live = true ∧
          (t.context n).pres = v.toNat % 4 ∧ (t.context n).dev = v.toNat / 4 % 8 ∧ (t.context n).session = some x.sid ∧ (t.context n).feat = x.feat ∧
          (t.context n).ticket = Config.sha384 ticket) ∧
      (k.live = true → k.session = none → b.length = 32 → Config.sha384 b = k.ticket → k.feat &&& ~~~x.feat = 0 →
        go (.reclaim b) = some (s.setContext a { k with session := some x.sid, detached := none, feat := x.feat }, status 0)) ∧
      (k.live = true → k.session = none → b.length = 32 → Config.sha384 b ≠ k.ticket → k.wrong < 15 →
        go (.reclaim b) = some (s.setContext a { k with wrong := k.wrong + 1 }, status 4)) ∧
      (k.live = true → k.session = none → b.length = 32 → Config.sha384 b ≠ k.ticket → 15 ≤ k.wrong →
        go (.reclaim b) = some ((s.setContext a { k with wrong := k.wrong + 1 }).endContext a 0x21, status 4)) ∧
      (k.live = true → k.session = some x.sid →
        go .destroy = some (s.endContext a 0x21, status 0) ∧
        (v.toNat % 4096 ≠ 0 → go (.expose v w c) = bad) ∧
        (v.toNat % 4096 = 0 → w ≠ 0 → (k.exposed.filter fun e => e.1 != v).length < 64 → go (.expose v w c) = some
          (s.setContext a { k with exposed := (k.exposed.filter fun e => e.1 != v) ++ [(v, w, c)] }, status 0)) ∧
        (v.toNat % 4096 = 0 → go (.expose v 0 c) = some
          (s.setContext a { k with exposed := k.exposed.filter fun e => e.1 != v }, status 0)) ∧
        (w.toNat = 0 ∨ 4096 < v.toNat % 4096 + w.toNat → go (.read v w) = bad) ∧
        (w.toNat ≠ 0 → v.toNat % 4096 + w.toNat ≤ 4096 → k.exposes v false = false → go (.read v w) = some (s, status 4)) ∧
        (∀ ts, w.toNat ≠ 0 → v.toNat % 4096 + w.toNat ≤ 4096 → k.feat.getLsbD 11 = true → k.exposes v false = true →
          let u := s.meetTables a [(v, w.toNat)]
          (s.st.flaws = [] → u = s) ∧ (u.touchesFor a {} [(v, w.toNat)] = .ok ts →
          (u.readWaits ts = true → go (.read v w) = none) ∧
          (u.readWaits ts = false → go (.read v w) = some ((u.readOut ts).1,
            { status := if (u.readOut ts).2.any (·.2) then 5 else 0,
              data := (u.readOut ts).2.map fun y => if y.2 then 0 else y.1 })))) ∧
        (∀ ts, b ≠ [] → v.toNat % 4096 + b.length ≤ 4096 → k.feat.getLsbD 11 = true → k.exposes v true = true →
          let u := s.meetTables a [(v, b.length)]
          (s.st.flaws = [] → u = s) ∧ (u.touchesFor a { write := true } [(v, b.length)] = .ok ts →
          (u.writeWaits ts = true → go (.write v b) = none) ∧
          (u.writeWaits ts = false → go (.write v b) = some (u.writeOut ts (b.map fun y => (y, false)), status 0)))) ∧
        (s.counterKey a (v &&& 0xFFFFFFFF) = none → go (.add v w) = bad) ∧
        (∀ n, s.counterKey a (v &&& 0xFFFFFFFF) = some n → s.logStalls (some n) = true → go (.add v w) = some (s, status 1)) ∧
        (∀ n, s.counterKey a (v &&& 0xFFFFFFFF) = some n → s.logStalls (some n) = false →
          (s.wouldOverflow n w = true → go (.add v w) = some (s, status 8)) ∧
          (s.wouldOverflow n w = false → go (.add v w) = some (s.applyAdd n w 0 1, status 0))) ∧
        (v.toNat % 4096 = 0 → (s.shared a v).1 = false → go (.recall v) = some (s, status 4)) ∧
        (v.toNat % 4096 = 0 → (s.shared a v).1 = true → s.moving a v = true → go (.recall v) = none) ∧
        (v.toNat % 4096 = 0 → (s.shared a v).1 = true → s.moving a v = false → s.holdsPart a v = false →
          go (.recall v) = some (s, status 4)) ∧
        ((s.shared a v).2 = true → s.holdsPart a v = true) ∧
        ((s.shared a v).2 = false → (s.holdsPart a v = true ↔ (pageOf v).toNat ∈ k.parts)) ∧
        ((s.shared a v).2 = true → s.givePage a v = (s.onContext a fun y => { y with
          parts := (y.parts ++ s.partsOfPage a v).filter (· != (pageOf v).toNat) }).setOwn a v false) ∧
        ((s.shared a v).2 = false → s.givePage a v = s.onContext a fun y => { y with
          parts := y.parts.filter (· != (pageOf v).toNat) }) ∧
        (∀ raw u vs, v.toNat % 4096 = 0 → (s.shared a v).1 = true → s.holdsPart a v = true → s.pageRaw a v = some raw →
          s.moving a v = false →
          s.accessesOpen a = false → (∀ j, j < 64 → (s.watchOf (lineOf (raw + 64 * j))).writer = none) → raw % 64 = 0 →
          (s.givePage a v).readOut ((List.range 4096).map fun j => { va := v, raw := raw + j, watched := true }) = (u, vs) →
          go (.recall v) = some (u, { status := if vs.any (·.2) then 5 else 0, data := vs.map fun y => if y.2 then 0 else y.1 })) ∧
        (∀ q, b.length = 64 → s.queue a v.toNat = some q →
          (s.headerBusy q = true → go (.append v b) = none) ∧
          (s.headerBusy q = false → let u := s.meetFor q.asid q.header 64
            (s.st.flaws = [] → u = s) ∧
            (∀ f, u.touchesFor q.asid {} [(q.header, 64)] = .error f → go (.append v b) = some (u, status 4)) ∧
            (∀ ts, u.touchesFor q.asid {} [(q.header, 64)] = .ok ts → u.header q = none → go (.append v b) = some (u, status 5)) ∧
            (∀ h us, u.header q = some (us, h) →
              (hdrLg h < 4 ∨ 16 < hdrLg h ∨ (hdrRing h).toNat % 64 ≠ 0 → go (.append v b) = some (u, status 4)) ∧
              (4 ≤ hdrLg h → hdrLg h ≤ 16 → (hdrRing h).toNat % 64 = 0 →
                ∀ ts, u.touchesFor a { write := true } [(hdrRing h, 64 * 2 ^ hdrLg h)] = .ok ts →
                let at' := w64 (leAt h 0 8)
                let slot := (ts.drop (64 * (at'.toNat % 2 ^ hdrLg h))).take 64
                (2 ^ hdrLg h ≤ (at' - hdrRead h).toNat → go (.append v b) = some (u, status 3)) ∧
                ((at' - hdrRead h).toNat < 2 ^ hdrLg h → u.writeWaits slot = true → go (.append v b) = none) ∧
                ((at' - hdrRead h).toNat < 2 ^ hdrLg h → u.writeWaits slot = false → go (.append v b) =
                  some ((u.setHeader q 0 (leBytes 8 (at' + 1).toNat)).writeOut slot
                    ((b.take 63 ++ leBytes 1 (1 + at'.toNat / 2 ^ hdrLg h)).map fun y => (y, false)), { res := at' })))))) ∧
        (b.length = 4096 → v.toNat % 4096 = 0 → s.moving a v = true ∨ s.pageWaits a v = true → go (.give v b) = none) ∧
        (v.toNat % 4096 = 0 → b.length = 4096 → s.moving a v = false → s.pageWaits a v = false →
          ((s.shared a v).1 = false ∨ s.holdsPart a v = true → go (.give v b) = some (s, status 4)) ∧
          ((s.shared a v).1 = true → s.holdsPart a v = false → let t := s.takePage a v b
            go (.give v b) = some ((t.waitingFor a v).foldl (fun u e => u.resolveFault e.1 e.2) t, status 0))))) ∧
    (b.length = 48 → leAt (s.attestation b) 144 8 = offered.toNat ∧ offered.toNat / 2 ^ 56 = 1) ∧
    (formed → x.opened = true →
      (b.length = 48 → go (.report b) = some (s, { data := s.attestation b })) ∧ (b.length ≠ 48 → go (.report b) = bad) ∧
      go .cert = some (s, { data := Config.certificate.take 8192 }) ∧
      (∀ o d, s.object x a o = some d → o < 2 ^ 64 → v.toNat + w.toNat ≤ d.length → w.toNat ≤ 9152 →
        go (.mread (w64 o) v w) = some (s, { data := (d.drop v.toNat).take w.toNat })) ∧
      (56 < v.toNat + b.length → go (.scrubRate v b) = bad) ∧
      (v.toNat + b.length ≤ 56 → ∃ sc : Vector Nat 7,
        go (.scrubRate v b) = some ({ s with mod := { s.mod with scrub := sc } }, status 0) ∧
        let old := s.mod.scrub.toList.flatMap (leBytes 8)
        ∀ l, l < 7 → sc.toList.getD l 0 = leAt (old.take v.toNat ++ b ++ old.drop (v.toNat + b.length)) (8 * l) 4) ∧
      (b ≠ [1] → go (.disposal b) = bad) ∧
      (b = [1] → ∃ t, go (.disposal b) = some (t, status 0) ∧ t.mod.rejected = false ∧ t.core = s.core ∧
        ∀ n sl, s.mod.rejected = true → s.validSlate = some (n, sl) → t.mod.kept = none ∧
          t.st = (s.writeTier 0 (131072 * n) (List.replicate 4096 0)).st) ∧
      go .close = some (((s.contextsOf x.sid).foldl (fun t e => t.endContext e 0x21) s).onSession x.sid
        (fun y => { y with alive := false }), status 0))

/-! The statements that join several of the above. -/

/-- A step in which a core moves: time passes; a core whose gang has an earlier slot to issue does nothing else (R34); the slots
that its ports hold are tried first (none where none is held), and a core that this stops or restarts does nothing else; a slot
at which the core is blocked may be held by its port instead of being tried (which, is a free choice: log 98), and a slot that
waits for a held one is not tried; else the step runs the instruction that the latched bundle issues next, and goes on to the
next slot. That one slot moves at a step, and that a blocking slot is held by its port, are the model's choices (logs 3 and 98).
A step at an event that the agenda holds next runs that event; that one moves at a step is the model's choice (log 3). -/
def Obligations.StepRunsTheSlot : Prop := Sys2Proof.Claims.StepRunsTheSlot ∧ Sys2Proof.Claims.StepRunsTheEvent

/-- R132, R142, R400, R37, R94: a core that runs, with no bundle latched and in no gang or loop, whose bundle at the pc can be
fetched, breaks no check of dispatch and is not held back: what stands pushed is written first where the bundle asks for it, the
take boundary stands before it where it begins a take, and the step latches the bundle and runs its first slot, decoded from the
16 bytes at the pc. That one slot moves at a step is the model's choice (log 3). R137: the failures at dispatch in their order:
ILLEGAL of the lowest slot, then PRIV of a firmware-only slot of a context, then the BUNDLE conditions; each is raised with PORT
6 and the slot. -/
def Obligations.StepFetchesAndRuns : Prop := Sys2Proof.Claims.StepFetchesAndRuns ∧ Sys2Proof.Claims.DispatchChecks

/-- R164: the two-operand results of opcodes 0x00 to 0x15, taken modulo 2^64, with the count in bits 5:0 of x[xb]; the guard of
R161; a write to x0 is ignored (`setX`). R164: mulh gives bits 127:64 of the exact product under the three choices of
signedness; min and max compare signed or unsigned. -/
def Obligations.ScalarArithmeticResults : Prop := Sys2Proof.Claims.ScalarTwoOperandResults ∧ Sys2Proof.Claims.ScalarHighProductAndExtremes

/-- R164: clz, ctz and popc count over 64 bits or over bits 31:0; sext and zext take the low 8, 16 or 32 bits. R166, R167: the
immediate forms, with an imm12 or the imm20 that an EXT byte makes of it, sign-extended, and lih with an imm17 or imm25. -/
def Obligations.ScalarUnaryAndImmediateResults : Prop := Sys2Proof.Claims.ScalarUnaryResults ∧ Sys2Proof.Claims.ScalarImmediateResults

/-- R147, R161, R164-R169: what the scalar register instructions leave: a next state differs from the state before at most in x
register `d` and in the core's wait. R350: a scalar slot that reads no word in error has its effect although other words of the
core hold errors, and a word that it overwrites whole holds no error after it. -/
def Obligations.ScalarFrame : Prop := Sys2Proof.Claims.ScalarFrame ∧ Sys2Proof.Claims.ScalarResultOverUpset

/-- R132, R139, R140, R143, R172: nop and the take mark have no effect of their own; an EXT, REP or LOOP header with SYNC waits
while copies of earlier bundles have accesses to perform, then writes what stands pushed to write streams and drops the held
operands; without it an EXT or REP header has no effect of its own. R141: a LOOP header that begins a loop latches the
trip-count register, the length and the bundle; with a trip count of 0 it skips the body; replayed, it has no effect. -/
def Obligations.HeadersAndLoops : Prop := Sys2Proof.Claims.HeadersAndNop ∧ Sys2Proof.Claims.LoopHeader

/-- R36, R173: a spawn that meets no failing check reserves the core for the take, with the entry and x2 to x9 as they are read
then, and makes it resident for the context; onto a gated core it waits for the wake. R173: the checks of a spawn, in the order
written; a core at whose shot a returning group or a waiting event aims counts as one that holds a shot (log 25). -/
def Obligations.SpawnReserves : Prop := Sys2Proof.Claims.SpawnReserves ∧ Sys2Proof.Claims.SpawnChecks

/-- R175: trap raises USER when x[xa] is nonzero, with its code zero-extended and x[xa] as detail words, and does nothing
otherwise. R325, R327, R328, R40: a trap of a shot in no gang stops its core: CAUSE holds the code, detail, port and slot, TINFO
the bundle's address; TAKEPC and TSER are those of the take; the take's log, held adds and claims are gone, its bytes are not
published, and x, p, v and m registers keep their values, but a loop's trip count is restored. -/
def Obligations.TrapEntry : Prop := Sys2Proof.Claims.TrapInstruction ∧ Sys2Proof.Claims.TrapEntry

/-- R178, R149, R126, R181, R229, R361: what ctlr reads of each of the 20 registers outside deterministic mode, HIBLST on a
control core; an unlisted number raises ILLEGAL with detail RESFIELD. That the PRIO of a control core is that of the context
named by its CTX is the model's reading (log 36). R180-R183: rdclk, rdid, rdstep and the timed ctlr read outside deterministic
mode; in it they take the first unused entry of the supply latch for their bundle and slot, and raise DETREAD where there is
none; rdstep.next waits until STEP is another. -/
def Obligations.ControlRegisterReads : Prop := Sys2Proof.Claims.ControlRegisterReads ∧ Sys2Proof.Claims.TimingReads

/-- R126, R128, R129, R179: a setfmt of a valid value puts it in flight behind the bundle's own and four more, with its flag
bits as the flags; setmom likewise; an invalid value raises FMT and writes nothing. In a gang the lead's value is every
member's: a member waits until the lead's slot has written it (log 88). That a K of minus zero is invalid is the model's reading
(log 21). R128, R129: a mode write takes effect five bundles after its own bundle began, the latest of several in force; the
flags that a bundle raises join those of the bundles before it, but those raised in a setfmt's own bundle are lost. -/
def Obligations.ModeWrites : Prop := Sys2Proof.Claims.ModeWrites ∧ Sys2Proof.Claims.ModeTiming

/-- R65, R187: tinv drops every cached translation of the ASID that the range meets, in the caches of every core and cluster,
and ends when no access of the ASID is outstanding, an open take's watched writes among them, whatever page they touch (the
model's reading, log 61); a start that is not a multiple of 4096 raises ALIGN. R188: retake of a stopped core of the die
restarts it at TAKEPC with its restart image and returns 0; of another core, or one that is not stopped, it returns 1 and has no
effect. R188: ctxsv and ctxld return 1 for a core of another die (the model's reading, log 60) or in the wrong state and 2 for
an address that is not a multiple of 64, with no effect; ctxsv of a part whose destination passes its checks writes the part's
bytes and returns 0; ctxld loads them and returns 0, or 3 and loads nothing where a source granule is poisoned. -/
def Obligations.FirmwareCoreControl : Prop := Sys2Proof.Claims.TranslationInvalidate ∧ Sys2Proof.Claims.RetakeRestarts ∧ Sys2Proof.Claims.CoreImageTransfers

/-- R186, R189, R190, R353: dstw, also of a core that holds a running shot, and scrb return 1 and all ones for an invalid raw
address, with no effect; dstw of a valid one writes the code word that the image at x[xb] gives; scrb returns the number of
uncorrectable words. A pad of a shed die is answered as an invalid address, and a range past the end of its level by all ones
(the model's choices, log 94). R191, R320, R393, R395: pwrw writes PWRCAP of a live context, SHARE 0 reading as 1 and CLKCAP
held to 1 to 10, and balances anew the pairs on which the context has a shot, so that a NOBAL holds at once: no core of such a
pair has ballast after it; it is ignored for another ASID; it writes CURLIM of the die that x[xa] names. R192, R360: the three
edits of the hibernation list, by OP: an entry set, an entry cleared, all cleared; 1 for reserved bits, OP 11 or a set of no
pages, 2 for a bad range, 3 while the list is held, in that order (the model's reading, log 59). -/
def Obligations.FirmwareDeviceWrites : Prop := Sys2Proof.Claims.RawWritesAndScrubs ∧ Sys2Proof.Claims.PowerRegisterWrites ∧ Sys2Proof.Claims.HibernationListEdits

/-- R148, R151, R145: what a V source operand reads: a v register; a linked q register, popped, with QUNF where it is empty; the
same peeked; the zero vector; the operand held on the port, with ILLEGAL NOLATCH where there is none; with h, operand a is held
on the port. R193, R148: what a V destination receives under a lane mask: the active lanes of a v register; one pushed entry of
a linked q register, with zero in the inactive lanes, and QOVF where it holds eight; the discard destination nothing. -/
def Obligations.VectorOperands : Prop := Sys2Proof.Claims.VectorSources ∧ Sys2Proof.Claims.VectorDestinations

/-- R199, R200: the integer, logic and shift lanes, modulo 2^32 and with no flag; the immediate shifts act on every lane. R202,
R203: the comparisons of lanes under each condition; vsel takes its lanes by the selector in every lane of d. -/
def Obligations.VectorIntegerLanes : Prop := Sys2Proof.Claims.VectorIntegerLanes ∧ Sys2Proof.Claims.VectorCompareSelect

/-- R204, R122: vpfx writes the inclusive prefix: the i32 form the sum modulo 2^32 of the active lanes so far; the f32 form that
of the tree of R122, in which an inactive lane enters as −0. R205, R121: vred of the active lanes: the integer sums modulo 2^32
and the integer extremes, the f32 forms by the tree of R121; x[xd] receives the result widened, and d holds it in lane 0 and
zero elsewhere. -/
def Obligations.VectorPrefixAndReduce : Prop := Sys2Proof.Claims.VectorPrefix ∧ Sys2Proof.Claims.VectorReduce

/-- R210, R211, R118: the conversions: the rounding ones by FMT.RM and FMT.SAT, with operand b read only under the random mode,
and the exact ones from the low bits of each lane, which never read operand b (the model's reading, log 18). R108, R109,
R116-R118: the code of every f32 value is what rounding that value gives, with no flag; a NaN gives the canonical one; every
bf16, e5m2, e4m3 and e2m1 code that is no NaN converts to f32 and back to itself under every mode; and a sum does not depend on
the order of its operands. -/
def Obligations.VectorConversions : Prop := Sys2Proof.Claims.VectorConversions ∧ Sys2Proof.Claims.FloatCodesRoundTrip

/-- R176, R177: ld, st, ldw, stf and pclr compute their address from x[xa] and the scaled offset and have the effect that the
checks let through: the value loaded goes to xd sign- or zero-extended, the low bytes of x[xs] are stored; a failing check, or a
wait of ldw, ends the slot with no write of a register. R49, R51, R52, R177, R1: a scalar load or store of the core's own U-pad,
in a granted block, aligned, with no error standing there, no entry of a write stream waiting, no slot held and no copy
outstanding: the load returns the bytes least significant first and changes nothing; the store changes exactly its bytes; a
misaligned one within a block that lets it raises ALIGN, one whose first block is not granted or not writable PROT, where no
later block of its bytes is worse. R49-R56, R176, R177: ld, ldw, st, stf and pclr complete at an aligned address of the core's
own U-pad: ld writes the bytes, zero- or sign-extended, to xd; ldw, once its granule is FULL and no take has claimed it, does so
and with .clr claims it, and waits else; st and stf change exactly their bytes, stf leaving its granule FULL and st every
presence bit as it was; pclr leaves the granules of its range EMPTY, and no other granule and no byte changed. -/
def Obligations.ScalarLoadsAndStores : Prop := Sys2Proof.Claims.ScalarLoadsAndStores ∧ Sys2Proof.Claims.UPadLoadAndStore ∧ Sys2Proof.Claims.OwnPadAccesses

/-- R177, R62, R84: what a store leaves: where its checks pass and no entry of a write stream waits, the only bytes of storage
that change are those that the checks resolved (where a word in error or a line under another key is met, those of its line, and
where a walk meets a table line in error, those of that line), and of the core only its caches, its take and the code it
remembers. R177, R84: what a load leaves: no byte of storage changes where no entry of a write stream waits and no word is in
error (a word that the decoder miscorrects stands as what it gave), and of the core only its translation cache and its take. -/
def Obligations.LoadAndStoreFrame : Prop := Sys2Proof.Claims.StoreFrame ∧ Sys2Proof.Claims.LoadFrame

/-- R221, R224: a pop of a read stream takes the entry of up to 64 elements at CURSOR, fetched ahead or now, and advances CURSOR
by them; a pop of a write stream raises STREAM DIR, one at the end STREAM END; a push to a write stream queues the low bytes of
its elements at their addresses and advances CURSOR, and waits while eight entries stand or a copy of the core still has a
granule of them to read or write. R229, R230: vpark writes the row that x[xr] names and marks it parked; vunpark reads a parked
row; the freeing form frees it with the take's commit; a row beyond 511, of a configured tile, or not parked raises PARK. -/
def Obligations.StreamEntriesAndParking : Prop := Sys2Proof.Claims.StreamEntries ∧ Sys2Proof.Claims.Parking

/-- R254, R258, R260-R262: an X operand below 32 is a v register without variance, and is not tested; the variance test passes
where no active lane is negative, and reads -0 as +0, a NaN of sign bit 1 as the canonical one and a variance of sign bit 0 as
it is; the lowest negative active lane raises NEGVAR with the operand, the lane and the kind in detail word 0, or under CLAMP is
read as +0 with NVCLAMP set; a correlation outside -1 to +1 in an active lane raises NEGVAR of kind 3. R263, R264, R259: the
moves: mld and mst of means and variances in lane order, the low half of each word the mean; mset joins two v registers, mget
parts them; mcorr tests a correlation and copies it into v31; each completes on operands whose active variances have sign bit 0,
the loads and stores at an aligned address of the core's own U-pad. -/
def Obligations.MomentMoves : Prop := Sys2Proof.Claims.MomentTests ∧ Sys2Proof.Claims.MomentMoves

/-- R265-R269, R275: madd, msub, mmul, mfma, mscl, msq and mclip: the steps of each lane with one rounding each, and the flags
of every step. The lanes of an mfma of two v operands are the model's reading (log 100). R270-R274, R276: mrelu, msig, mtanh and
mexp: the steps of each lane; mcol: the mean, and the mean with the deviation times K, -K, or the draw of b. That mcol.smp is
tested under MOM.NV is the model's reading (log 99). -/
def Obligations.MomentResults : Prop := Sys2Proof.Claims.MomentArithmetic ∧ Sys2Proof.Claims.MomentActivations

/-- R240, R241, R242, R243: mma, mmt, mmas and mmap outside a REP bundle: under accepted formats, each tile row of z receives
the loop over its four groups, the stored A transposed for mmt, the groups scaled by the columns col and col + 1 of the scale
memories for mmas, sums of plane integers for mmap; then the offset registers that pi selects advance. A slot waits while a copy
still fills a buffer or scale memory that it reads (R234). Other formats raise FMT COMBO, a z register that is not configured
PARK NOTILE. R140, R237, R241: what follows an M.A operation and each repetition of it: every offset register that MASK selects,
and with pi every one that is a source, advances once; the repetitions that are left stand in the core, and REPETITION runs the
next one. R244: mmm outside a REP bundle: the means of the pair z, z + 1 receive the loop over the products of the means, the
variances the loop over μa²·σb² + μb²·σa² + σa²·σb², which adds in negated mode too; a pair that is not configured with equal
ROWS raises PARK NOTILE; a negative variance element that enters the result raises NEGVAR, or under CLAMP is used as +0. -/
def Obligations.MatrixProducts : Prop := Sys2Proof.Claims.MatrixProducts ∧ Sys2Proof.Claims.Repetitions ∧ Sys2Proof.Claims.MomentProduct

/-- R245-R248, R253: tcfg configures the selected registers with ROWS rows of +0, and loses parked rows among them only under
force; tfree releases them; tzero clears their tile rows; tgen fills a tile or a buffer with its pattern, and waits while a copy
still fills that buffer (R234). That tgen completes under ACC = 1 is the model's reading (log 57). R249: tadd adds or subtracts,
and tscl scales, every element of the tile rows, with one rounding; R251: trd and twr move a tile row; R237, R238: ofs and ofsr
write and read an offset register; the failing checks raise FMT COMBO and PARK NOTILE in order. R250: tcvt writes the converted
tile rows row after row at ADDR of its offset register, which PI advances, and raises the flags of the conversions; it raises
FMT COMBO, PARK NOTILE, ALIGN or BANK SPANS where a check fails, and waits for copies of the core that still have a granule of
the rows to read or write. -/
def Obligations.TileOperations : Prop := Sys2Proof.Claims.TileConfiguring ∧ Sys2Proof.Claims.TileArithmetic ∧ Sys2Proof.Claims.TileConversion

/-- R281-R284: cdesc loads 64 aligned bytes into its descriptor register, and nothing else; a descriptor is good when E is at
most 16, no count is 0, the reserved fields are 0 and B is below 2^40; its rows are visited with dimension 1 fastest. R279,
R286-R290: the copies: with room on the port and a good descriptor each issues the copy of its rows: cpy, cpys and cpyo row by
row; cpyg from, and cpyx to, the rows that the index list at x(xs + 1) names; cpyg.ob into an operand buffer; cpyb to the U-pads
of the cores of BMASK; pfill with the low E bytes of x[xs]. A bad descriptor, and a nonzero BMASK in any of them but cpyb,
raises STREAM BADCOPY; a full port, and a copy into a buffer or scale memory that another copy still fills, wait (R234). R279,
R284, R285, R53: a copy that issues stands in flight with its counter and B to be added and the bytes that it resolved, reads no
register after that, and leaves storage as it is; when it moves its bytes, with no word in error and its destination bytes
distinct, unwatched, of no poisoned unit and of lines that can be decrypted, each destination byte holds its source byte as it
stands then, and no other byte of storage changes; each granule of a pad that it writes is FULL; a copy into an operand buffer
fills its bytes there. (At which step the bytes move is the model's free choice: log 15.) -/
def Obligations.CopyInstructions : Prop := Sys2Proof.Claims.CopyDescriptors ∧ Sys2Proof.Claims.CopyInstructions ∧ Sys2Proof.Claims.CopyIssue

/-- R292, R102: an atomic reads the word at its address, writes the new one at once, and returns the old one, sign-extended for
min and max; the take counts as having performed an atomic; on the core's own U-pad each completes at an aligned address, and a
misaligned one raises ALIGN. R293: qapp of a good header: a full ring answers all ones and a bad LG all ones but bit 0, with
nothing written; otherwise WRITE advances by one, the slot that it named receives bytes 0 to 62 of the packet and the lap byte,
and xv its index. R293: a qapp completes where its header and its ring stand aligned in the core's own U-pad: a full ring
answers all ones, and storage keeps its bytes; else the slot that WRITE names receives the packet and the lap byte, WRITE
advances by one, xv receives its index, and no other byte of storage changes. -/
def Obligations.AtomicsAndQueueAppend : Prop := Sys2Proof.Claims.Atomics ∧ Sys2Proof.Claims.QueueAppend ∧ Sys2Proof.Claims.QueueAppendCompletes

/-- R298-R301, R306, R307: cbcfg configures a stream, or unconfigures it where S is 0, and raises CBFIT in its order; cbal gives
the slot of a live token with the same pairs, or a free slot, and waits or answers all ones where none is free; cbst reads a
statistic; cbdrop frees a token's slot and counts it; a bad handle raises CBMISS NOSTREAM. That a stream configured by any
context counts for all (log 29), which slot is taken (log 65), and that cbcfg checks and takes effect when it issues (log 40)
are the model's readings. R302-R305, R90: cbput is accepted, repeated, late or refused as the home decides, and its row is read
once no open write of another agent stands on it; its row replaces contribution j, whose bit the put that holds it sets; a
complete slot is released, in token order only the oldest; the released sum is formed in ascending position with one rounding a
term; a deadline completes a slot, or under FAULT makes it leave with CBTIME. -/
def Obligations.CombineBuffers : Prop := Sys2Proof.Claims.CombineStreams ∧ Sys2Proof.Claims.CombineDeposits

/-- R142, R400, R34, R35, R37-R39: the lead of a gang fetches and decodes for all: its members wait for each other, a member
that strays or reads another trip count raises DIVERGE; a bundle that passes its checks and waits for nothing is latched by
every member, and nothing else changes but what its fence or wait writes; one that begins a take commits the takes before it
first, and does not issue when they cannot commit; a fetch ahead changes only the caches and errors that a fetch changes; slots
that ports hold are tried before a dispatch (log 98), and the boundary of a gang is one (log 32). R44, R54, R63, R65, R36, R142,
R224, R89, R301: a walk that succeeds fills the caches; a slot that waits runs again when its condition may hold: a tinv ends
when no access of its ASID is open, a consuming load when its granule is FULL and unclaimed, a cwait when its counter has
reached the target, a cbal when a slot is free, and waits on else; and so does a cwait that its port holds, as it stood at its
own bundle (log 98); a committed reservation of a core that is awake takes the blocks granted there and not its context's (log
25) and starts its shot; streams move ahead one entry; the youngest holder of a full line, and its gang (log 32), yield to an
older reader that has stalled there. -/
def Obligations.BundleAndCoreEvents : Prop := Sys2Proof.Claims.BundleEvents ∧ Sys2Proof.Claims.CoreEvents

/-- R310, R317, R318, R322: a selection first ends the malformed heads of the die's queues and disables those that are not
served; where a head is ready it starts one: of the queues that have waited 64 selections if any, else of the highest priority,
the next in turn after the one that was last, which becomes the last of its level; AGE of its queue becomes 0 and that of every
other ready queue rises; READ of its queue increments; with none ready nothing starts. The turn of equal numbers and the pointer
before the first selection are the model's reading (log 66). R91, R316, R317, R322-R324: the packets: an ADD makes its add, WAIT
and BARRIER have none, CONTROL ends the context's slice on every die of its device where another context has ready work, or
disables the queue, and each finishes with the completion add that it names; a COPY whose block is bad, or names bytes that it
may not reach, ends with its status, a good one issues an operation that names its bytes; a completion add that is owed is made
once; an add that a full log holds up gives firmware its chance to extend it (log 42). R55, R90, R91, R92, R100, R279, R285: a
copy of a core completes once its source is free of open writes, no earlier operation has a part to perform on its granules, and
no earlier one of its port with its counter is in flight: its bytes move, its add is applied when its take has committed and is
held for the commit otherwise, and it leaves the engine. A copy of a dispatcher waits for the open slots on its lines, moves its
bytes, and finishes its packet. -/
def Obligations.PacketsAndCopies : Prop := Sys2Proof.Claims.Selection ∧ Sys2Proof.Claims.PacketEffects ∧ Sys2Proof.Claims.CopyCompletes

/-- R26, R27, R91, R316, R317, R322: a launch packet waits for the open slots on what it reads; one whose blocks cannot be read
or hold a reserved field ends with its status; otherwise the launch stands in the module under the next number, with the status
that the checks of its descriptor give, in their order. R28-R33: the dies of a device share the D indices in blocks that differ
by at most one and cover them; a shot that starts holds its arguments in x2 to x9 and its level registers, runs at the entry,
and holds no configured tile, parked row or stream; the other cores of the die keep their registers. R318-R321, R33, R105: a
placement starts units in the order of priority until none fits, counters that firmware has saved being restored and the U-pad
blocks that the context is granted on those cores taken first, each as log 25 says; poison among what is restored ends the
context; the cores that a unit takes are distinct, of the die, free, resident for the context, within its quota, kept for no
displaced shot, and have no U-pad block to take that an engine operation still writes; no shot is placed before a waiting event
has its core (log 93). R42, R43, R323: a launch completes when its shots have ended or its status is not 0, and no open slot
stands in the way of its record or of its queue's header; it retires, its status goes to the queue's error fields, and the add
that it names is owed. -/
def Obligations.LaunchesAndShots : Prop := Sys2Proof.Claims.LaunchStarts ∧ Sys2Proof.Claims.ShotStarts ∧ Sys2Proof.Claims.Placement ∧ Sys2Proof.Claims.LaunchCompletes

/-- R183, R325, R331-R336, R350, R357: a trap of a shot with a handler is delivered to it, once no power-fail warning stands:
PEND is set, the shot is saved with its frame, and the handler starts with the frame's address and CAUSE; without one the launch
ends with the code; ACTION then resumes, supplies or ends; a latch error that is pending is met. Which value firmware supplies,
if any (log 46), and that a scratchpad fault is delivered as it was raised (log 47), are the model's choices. R59, R60, R65,
R68, R69, R80, R106, R345, R380, R389: a fault waits while a tinv of its ASID is open or its page is on its way; walked afresh,
an access that is allowed resumes; a host-owned page is fetched, once, and again after 1 ms without a reply; other faults are
delivered, and so are those in a scratchpad window, as they were raised (log 47); the reply is a message of its session in its
turn, held while it waits: a page's arrival is written and the faults that wait for it are walked afresh, a refusal has them
walked afresh and delivered once no tinv of the ASID is open; a page of more than 4 KiB moves part by part, OWN being set once
the device holds all its parts (log 92); a page move copies each block to its frame under the context's key, writes the entries,
and drops the translations, and waits for every access of the context and for the open slots of both frames. -/
def Obligations.TrapDelivery : Prop := Sys2Proof.Claims.TrapDelivery ∧ Sys2Proof.Claims.FaultsAndPages

/-- R337, R356: an event of a launch that is over goes to the event log; without a handler it ends its launch, but for SCREEN;
with one, the handler starts on the first candidate core with the frame's address and CAUSE, which its core holds too; when none
has come free for the grace period since the event first found none, the shot on the highest-numbered core is displaced. R41,
R103, R324, R338-R341: PREEMPT tells the crews of the outgoing context to stop and, once every one of its cores has stopped and
its copies have ended, saves and releases them; then the incoming one takes its cores; at the end of a slice the next context
with ready work in turn comes in, the lowest ASID above that of the first whose slice is over, else the lowest: beside the
others where the die has free cores, else in the place of a context whose slice is over; that it comes in at these two events
alone is the model's choice (log 9); the grace period, which firmware may set (log 27), ends a launch whose protected or atomic
take has kept its core. -/
def Obligations.EventsAndSwitching : Prop := Sys2Proof.Claims.EventDelivery ∧ Sys2Proof.Claims.Switching

/-- R347, R350-R353, R371: an upset of a code word or a counter leaves it in error until it is read, corrected or overwritten,
and two wrong bits of a counter poison it; that LEVEL 7 names a counter and LEVEL 8 a latch, and that wrong bits add up, is the
model's choice (log 26); a word of a combine buffer, whose layout is free (log 67), is met at the release of its slot, and one
that is uncorrectable then spoils the elements of its granule; one of a latch replays the take; a patrol scrub corrects a unit
and counts it, and passes over poisoned and zeroed ones; an uncorrectable word that is read replays the take twice, then raises
SOFTERR. R354-R356: a screen test takes the next core of a cluster that is not fenced; a shot in a group is skipped at most
three times in succession; a pass counts and lets the core go on, a failure fences it and raises SCREEN for every launch that
ran on it. -/
def Obligations.Reliability : Prop := Sys2Proof.Claims.UpsetsAndPatrol ∧ Sys2Proof.Claims.ScreenTests

/-- R357, R358, R360, R362, R363, R365, R373-R376: the warning stops every core at a take start, once a commit that has begun,
which is one whose copies still write watched memory (log 111), has completed; quiescence completes what is in flight, and
carries collectives, which the model takes to be in flight still (log 69), and what a full arrival log holds up; the drain saves
and writes a slate of the next generation, which is the valid one, the regions in their order and within the budget; a restart
without a valid slate begins cold, with a rejected one begins cold and keeps it, and otherwise restores it: a region of which
nothing was saved is poisoned, one whose pages fail the tier's code is corrupt. What of firmware's own records the drain keeps
beside the tier is the model's choice (log 53). R370-R372, R394, R395, R397, R398: the power levels run 8 − 2 × level dies; a
lost phase lowers the die's limit; an imbalance lowers the heavier layer's cap by a step, a die over its limit, which no input
of the model shows (log 72), both, and 10 µs of calm raise both (log 33), a layer's cap being the lower of the dispatcher's and
the sensor's (log 91); heat sets the hot flag from 95 degrees and clears it at 90, and steps the clock; an idle core is gated
after its hold, and one of the first four that wait on its pair wakes. -/
def Obligations.HibernationAndPower : Prop := Sys2Proof.Claims.Hibernation ∧ Sys2Proof.Claims.PowerEvents

/-- R380, R381, R383, R310, R311, R16: a HELLO of the form of R381 opens a session, answered with ACCEPT, and in recovery
NOTREADY; another form is dropped; a request that is authentic and whose turn it is is performed and answered, an early one is
held, as is one that waits in its turn (and a reply to a FETCH behind it may be taken up, log 106), an old one answered again
from its stored reply, and one of no session dropped; a detached context whose window has passed ends; a registered queue takes
the lowest number that is free on its device. R312, R382-R389, R352: what each request is answered: OPEN, CREATE, RECLAIM,
EXPOSE, APPEND, READ, WRITE, ADD, RECALL and GIVE, the attestation report, MREAD, the scrub rates, the slate disposal, CLOSE; a
request that R388 does not form so, and a context request of another session, is BADREQ, one during hibernation HIBERNATING;
OPEN gives the session its features, CLOSE ends it with its contexts, the rates that are written are those of the levels from
then on. The model's readings and choices (log 56): BADREQ of a second OPEN and of a CREATE that cannot be formed, finds no ASID
or would make the reserved memory outgrow FIXED; an EXPOSE takes the place of a range of the same start; a RECALL of what the
host holds is DENIED; a larger page moves part by part (log 92). -/
def Obligations.SessionRequests : Prop := Sys2Proof.Claims.Sessions ∧ Sys2Proof.Claims.RequestAnswers

end
end

