-- ==== Sys2Proof/Laws/PerInstr.lean ====
section
/-! SUPPORT. One lemma for each instruction: an instruction without a slot word is an event of the table; no encoding rule
refuses it, no EXT byte belongs to it, and it is no firmware instruction of a bundle. -/

namespace Sys2Proof.Laws

open Sys2Proof

/-- An instruction without a slot word is well-formed, has no EXT byte and is never refused as a firmware instruction. -/
def Wordless.Statement (i : Instr) : Prop := encode i = none → i.wf = true ∧ extByte i = none ∧ firmwareOnly i = false

theorem Wordless.ext (s : BitVec 1) (c b a : BitVec 8) : Wordless.Statement (.ext s c b a) := nofun
theorem Wordless.rep (s : BitVec 1) (n : BitVec 16) (m : BitVec 8) : Wordless.Statement (.rep s n m) := nofun
theorem Wordless.loop (s : BitVec 1) (l : BitVec 6) (t : BitVec 5) : Wordless.Statement (.loop s l t) := nofun
theorem Wordless.nop : Wordless.Statement .nop := nofun
theorem Wordless.add (d a b : BitVec 5) (g : BitVec 3) : Wordless.Statement (.add d a b g) := nofun
theorem Wordless.sub (d a b : BitVec 5) (g : BitVec 3) : Wordless.Statement (.sub d a b g) := nofun
theorem Wordless.mul (d a b : BitVec 5) (g : BitVec 3) : Wordless.Statement (.mul d a b g) := nofun
theorem Wordless.mulh (d a b : BitVec 5) (g : BitVec 3) (f : BitVec 4) : Wordless.Statement (.mulh d a b g f) := nofun
theorem Wordless.div (d a b : BitVec 5) (g : BitVec 3) (f : BitVec 4) : Wordless.Statement (.div d a b g f) := nofun
theorem Wordless.rem (d a b : BitVec 5) (g : BitVec 3) (f : BitVec 4) : Wordless.Statement (.rem d a b g f) := nofun
theorem Wordless.andR (d a b : BitVec 5) (g : BitVec 3) : Wordless.Statement (.andR d a b g) := nofun
theorem Wordless.orR (d a b : BitVec 5) (g : BitVec 3) : Wordless.Statement (.orR d a b g) := nofun
theorem Wordless.xorR (d a b : BitVec 5) (g : BitVec 3) : Wordless.Statement (.xorR d a b g) := nofun
theorem Wordless.andn (d a b : BitVec 5) (g : BitVec 3) : Wordless.Statement (.andn d a b g) := nofun
theorem Wordless.shl (d a b : BitVec 5) (g : BitVec 3) : Wordless.Statement (.shl d a b g) := nofun
theorem Wordless.shr (d a b : BitVec 5) (g : BitVec 3) : Wordless.Statement (.shr d a b g) := nofun
theorem Wordless.sra (d a b : BitVec 5) (g : BitVec 3) : Wordless.Statement (.sra d a b g) := nofun
theorem Wordless.rotl (d a b : BitVec 5) (g : BitVec 3) : Wordless.Statement (.rotl d a b g) := nofun
theorem Wordless.min (d a b : BitVec 5) (g : BitVec 3) (f : BitVec 4) : Wordless.Statement (.min d a b g f) := nofun
theorem Wordless.max (d a b : BitVec 5) (g : BitVec 3) (f : BitVec 4) : Wordless.Statement (.max d a b g f) := nofun
theorem Wordless.clz (d a : BitVec 5) (g : BitVec 3) (f : BitVec 4) : Wordless.Statement (.clz d a g f) := nofun
theorem Wordless.ctz (d a : BitVec 5) (g : BitVec 3) (f : BitVec 4) : Wordless.Statement (.ctz d a g f) := nofun
theorem Wordless.popc (d a : BitVec 5) (g : BitVec 3) (f : BitVec 4) : Wordless.Statement (.popc d a g f) := nofun
theorem Wordless.sext (d a : BitVec 5) (g : BitVec 3) (f : BitVec 4) : Wordless.Statement (.sext d a g f) := nofun
theorem Wordless.zext (d a : BitVec 5) (g : BitVec 3) (f : BitVec 4) : Wordless.Statement (.zext d a g f) := nofun
theorem Wordless.lea (d a b : BitVec 5) (g : BitVec 3) (s : BitVec 4) : Wordless.Statement (.lea d a b g s) := nofun
theorem Wordless.cmp (n : BitVec 3) (a b : BitVec 5) (g : BitVec 3) (c : BitVec 4) : Wordless.Statement (.cmp n a b g c) := nofun
theorem Wordless.sel (d a b : BitVec 5) (g n : BitVec 3) : Wordless.Statement (.sel d a b g n) := nofun
theorem Wordless.addi (d a : BitVec 5) (i : Imm 12) : Wordless.Statement (.addi d a i) := nofun
theorem Wordless.andi (d a : BitVec 5) (i : Imm 12) : Wordless.Statement (.andi d a i) := nofun
theorem Wordless.ori (d a : BitVec 5) (i : Imm 12) : Wordless.Statement (.ori d a i) := nofun
theorem Wordless.xori (d a : BitVec 5) (i : Imm 12) : Wordless.Statement (.xori d a i) := nofun
theorem Wordless.shli (d a : BitVec 5) (n : BitVec 6) : Wordless.Statement (.shli d a n) := nofun
theorem Wordless.shri (d a : BitVec 5) (n : BitVec 6) : Wordless.Statement (.shri d a n) := nofun
theorem Wordless.srai (d a : BitVec 5) (n : BitVec 6) : Wordless.Statement (.srai d a n) := nofun
theorem Wordless.lih (d : BitVec 5) (i : Imm 17) : Wordless.Statement (.lih d i) := nofun
theorem Wordless.jmp (o : Imm 17) : Wordless.Statement (.jmp o) := nofun
theorem Wordless.jal (d : BitVec 5) (o : Imm 17) : Wordless.Statement (.jal d o) := nofun
theorem Wordless.jr (d a : BitVec 5) (g : BitVec 3) : Wordless.Statement (.jr d a g) := nofun
theorem Wordless.br (p : BitVec 3) (n : BitVec 1) (o : Imm 18) : Wordless.Statement (.br p n o) := nofun
theorem Wordless.brcEq (b a : BitVec 5) (o : Imm 12) : Wordless.Statement (.brcEq b a o) := nofun
theorem Wordless.brcNe (b a : BitVec 5) (o : Imm 12) : Wordless.Statement (.brcNe b a o) := nofun
theorem Wordless.brcLt (b a : BitVec 5) (o : Imm 12) : Wordless.Statement (.brcLt b a o) := nofun
theorem Wordless.brcGe (b a : BitVec 5) (o : Imm 12) : Wordless.Statement (.brcGe b a o) := nofun
theorem Wordless.brcLtu (b a : BitVec 5) (o : Imm 12) : Wordless.Statement (.brcLtu b a o) := nofun
theorem Wordless.brcGeu (b a : BitVec 5) (o : Imm 12) : Wordless.Statement (.brcGeu b a o) := nofun
theorem Wordless.takeMark : Wordless.Statement .takeMark := nofun
theorem Wordless.spawn (a b : BitVec 5) : Wordless.Statement (.spawn a b) := nofun
theorem Wordless.doneShot : Wordless.Statement .doneShot := nofun
theorem Wordless.trapUser (a : BitVec 5) (i : Imm 12) : Wordless.Statement (.trapUser a i) := nofun
theorem Wordless.ld (d a : BitVec 5) (i : BitVec 9) (f : BitVec 3) : Wordless.Statement (.ld d a i f) := nofun
theorem Wordless.st (s a : BitVec 5) (i : BitVec 9) (z : BitVec 2) : Wordless.Statement (.st s a i z) := nofun
theorem Wordless.ldw (d a : BitVec 5) (i : BitVec 9) (f : BitVec 3) : Wordless.Statement (.ldw d a i f) := nofun
theorem Wordless.stf (s a : BitVec 5) (i : BitVec 9) (z : BitVec 2) : Wordless.Statement (.stf s a i z) := nofun
theorem Wordless.pclr (n a : BitVec 5) (i : BitVec 9) : Wordless.Statement (.pclr n a i) := nofun
theorem Wordless.ctlr (d : BitVec 5) (c : BitVec 12) : Wordless.Statement (.ctlr d c) := nofun
theorem Wordless.ctlw (a : BitVec 5) (c : BitVec 12) : Wordless.Statement (.ctlw a c) := nofun
theorem Wordless.setfmt (a : BitVec 5) : Wordless.Statement (.setfmt a) := nofun
theorem Wordless.setmom (a : BitVec 5) : Wordless.Statement (.setmom a) := nofun
theorem Wordless.fence (c : BitVec 4) (s : BitVec 3) : Wordless.Statement (.fence c s) := nofun
theorem Wordless.wait (l s c t : BitVec 4) : Wordless.Statement (.wait l s c t) := nofun
theorem Wordless.rdclk (d : BitVec 5) : Wordless.Statement (.rdclk d) := nofun
theorem Wordless.rdid (d : BitVec 5) : Wordless.Statement (.rdid d) := nofun
theorem Wordless.rdstep (d : BitVec 5) : Wordless.Statement (.rdstep d) := nofun
theorem Wordless.rdstepNext (d : BitVec 5) : Wordless.Statement (.rdstepNext d) := nofun
theorem Wordless.tinv (a b : BitVec 5) : Wordless.Statement (.tinv a b) := nofun
theorem Wordless.retake (d a : BitVec 5) : Wordless.Statement (.retake d a) := nofun
theorem Wordless.ctxsv (d a b : BitVec 5) (p : BitVec 4) : Wordless.Statement (.ctxsv d a b p) := nofun
theorem Wordless.ctxld (d a b : BitVec 5) (p : BitVec 4) : Wordless.Statement (.ctxld d a b p) := nofun
theorem Wordless.dstw (d a b : BitVec 5) : Wordless.Statement (.dstw d a b) := nofun
theorem Wordless.scrb (d a b : BitVec 5) : Wordless.Statement (.scrb d a b) := nofun
theorem Wordless.pwrwPwrcap (a b : BitVec 5) : Wordless.Statement (.pwrwPwrcap a b) := nofun
theorem Wordless.pwrwCurlim (a b : BitVec 5) : Wordless.Statement (.pwrwCurlim a b) := nofun
theorem Wordless.hibwSetEntry (d a b : BitVec 5) : Wordless.Statement (.hibwSetEntry d a b) := nofun
theorem Wordless.hibwClearEntry (d a b : BitVec 5) : Wordless.Statement (.hibwClearEntry d a b) := nofun
theorem Wordless.hibwClearAll (d a b : BitVec 5) : Wordless.Statement (.hibwClearAll d a b) := nofun
theorem Wordless.vaddF32 (d a b : BitVec 6) (g : BitVec 3) (h : BitVec 1) : Wordless.Statement (.vaddF32 d a b g h) := nofun
theorem Wordless.vsubF32 (d a b : BitVec 6) (g : BitVec 3) (h : BitVec 1) : Wordless.Statement (.vsubF32 d a b g h) := nofun
theorem Wordless.vmulF32 (d a b : BitVec 6) (g : BitVec 3) (h : BitVec 1) : Wordless.Statement (.vmulF32 d a b g h) := nofun
theorem Wordless.vfmaF32 (d a b : BitVec 6) (g : BitVec 3) (h : BitVec 1) : Wordless.Statement (.vfmaF32 d a b g h) := nofun
theorem Wordless.vfmsF32 (d a b : BitVec 6) (g : BitVec 3) (h : BitVec 1) : Wordless.Statement (.vfmsF32 d a b g h) := nofun
theorem Wordless.vminF32 (d a b : BitVec 6) (g : BitVec 3) (h : BitVec 1) : Wordless.Statement (.vminF32 d a b g h) := nofun
theorem Wordless.vmaxF32 (d a b : BitVec 6) (g : BitVec 3) (h : BitVec 1) : Wordless.Statement (.vmaxF32 d a b g h) := nofun
theorem Wordless.vabsF32 (d a : BitVec 6) (g : BitVec 3) (h : BitVec 1) : Wordless.Statement (.vabsF32 d a g h) := nofun
theorem Wordless.vnegF32 (d a : BitVec 6) (g : BitVec 3) (h : BitVec 1) : Wordless.Statement (.vnegF32 d a g h) := nofun
theorem Wordless.vclass (d a : BitVec 6) (g : BitVec 3) (h : BitVec 1) : Wordless.Statement (.vclass d a g h) := nofun
theorem Wordless.vaddI32 (d a b : BitVec 6) (g : BitVec 3) (h : BitVec 1) : Wordless.Statement (.vaddI32 d a b g h) := nofun
theorem Wordless.vsubI32 (d a b : BitVec 6) (g : BitVec 3) (h : BitVec 1) : Wordless.Statement (.vsubI32 d a b g h) := nofun
theorem Wordless.vmulI32 (d a b : BitVec 6) (g : BitVec 3) (h : BitVec 1) : Wordless.Statement (.vmulI32 d a b g h) := nofun
theorem Wordless.vminI32 (d a b : BitVec 6) (g : BitVec 3) (h : BitVec 1) : Wordless.Statement (.vminI32 d a b g h) := nofun
theorem Wordless.vmaxI32 (d a b : BitVec 6) (g : BitVec 3) (h : BitVec 1) : Wordless.Statement (.vmaxI32 d a b g h) := nofun
theorem Wordless.vminN32 (d a b : BitVec 6) (g : BitVec 3) (h : BitVec 1) : Wordless.Statement (.vminN32 d a b g h) := nofun
theorem Wordless.vmaxN32 (d a b : BitVec 6) (g : BitVec 3) (h : BitVec 1) : Wordless.Statement (.vmaxN32 d a b g h) := nofun
theorem Wordless.vabsI32 (d a : BitVec 6) (g : BitVec 3) (h : BitVec 1) : Wordless.Statement (.vabsI32 d a g h) := nofun
theorem Wordless.vnegI32 (d a : BitVec 6) (g : BitVec 3) (h : BitVec 1) : Wordless.Statement (.vnegI32 d a g h) := nofun
theorem Wordless.vrcp (d a : BitVec 6) (g : BitVec 3) (h : BitVec 1) : Wordless.Statement (.vrcp d a g h) := nofun
theorem Wordless.vrsqrt (d a : BitVec 6) (g : BitVec 3) (h : BitVec 1) : Wordless.Statement (.vrsqrt d a g h) := nofun
theorem Wordless.vsqrt (d a : BitVec 6) (g : BitVec 3) (h : BitVec 1) : Wordless.Statement (.vsqrt d a g h) := nofun
theorem Wordless.vexp2 (d a : BitVec 6) (g : BitVec 3) (h : BitVec 1) : Wordless.Statement (.vexp2 d a g h) := nofun
theorem Wordless.vlog2 (d a : BitVec 6) (g : BitVec 3) (h : BitVec 1) : Wordless.Statement (.vlog2 d a g h) := nofun
theorem Wordless.vncdf (d a : BitVec 6) (g : BitVec 3) (h : BitVec 1) : Wordless.Statement (.vncdf d a g h) := nofun
theorem Wordless.vnpdf (d a : BitVec 6) (g : BitVec 3) (h : BitVec 1) : Wordless.Statement (.vnpdf d a g h) := nofun
theorem Wordless.vtanh (d a : BitVec 6) (g : BitVec 3) (h : BitVec 1) : Wordless.Statement (.vtanh d a g h) := nofun
theorem Wordless.vand (d a b : BitVec 6) (g : BitVec 3) (h : BitVec 1) : Wordless.Statement (.vand d a b g h) := nofun
theorem Wordless.vor (d a b : BitVec 6) (g : BitVec 3) (h : BitVec 1) : Wordless.Statement (.vor d a b g h) := nofun
theorem Wordless.vxor (d a b : BitVec 6) (g : BitVec 3) (h : BitVec 1) : Wordless.Statement (.vxor d a b g h) := nofun
theorem Wordless.vnot (d a : BitVec 6) (g : BitVec 3) (h : BitVec 1) : Wordless.Statement (.vnot d a g h) := nofun
theorem Wordless.vshl (d a b : BitVec 6) (g : BitVec 3) (h : BitVec 1) : Wordless.Statement (.vshl d a b g h) := nofun
theorem Wordless.vshr (d a b : BitVec 6) (g : BitVec 3) (h : BitVec 1) : Wordless.Statement (.vshr d a b g h) := nofun
theorem Wordless.vsra (d a b : BitVec 6) (g : BitVec 3) (h : BitVec 1) : Wordless.Statement (.vsra d a b g h) := nofun
theorem Wordless.vcmpF32 (c n : BitVec 3) (a b : BitVec 6) (g : BitVec 3) (h : BitVec 1) : Wordless.Statement (.vcmpF32 c n a b g h) := nofun
theorem Wordless.vcmpI32 (c n : BitVec 3) (a b : BitVec 6) (g : BitVec 3) (h : BitVec 1) : Wordless.Statement (.vcmpI32 c n a b g h) := nofun
theorem Wordless.vcmpN32 (c n : BitVec 3) (a b : BitVec 6) (g : BitVec 3) (h : BitVec 1) : Wordless.Statement (.vcmpN32 c n a b g h) := nofun
theorem Wordless.vsel (d a b : BitVec 6) (g : BitVec 3) (h : BitVec 1) : Wordless.Statement (.vsel d a b g h) := nofun
theorem Wordless.vpfxF32 (d a : BitVec 6) (g : BitVec 3) (h : BitVec 1) : Wordless.Statement (.vpfxF32 d a g h) := nofun
theorem Wordless.vpfxI32 (d a : BitVec 6) (g : BitVec 3) (h : BitVec 1) : Wordless.Statement (.vpfxI32 d a g h) := nofun
theorem Wordless.vredF32 (d a : BitVec 6) (x : BitVec 5) (g : BitVec 3) (f : BitVec 2) : Wordless.Statement (.vredF32 d a x g f) := nofun
theorem Wordless.vredI32 (d a : BitVec 6) (x : BitVec 5) (g : BitVec 3) (f : BitVec 2) : Wordless.Statement (.vredI32 d a x g f) := nofun
theorem Wordless.vredN32 (d a : BitVec 6) (x : BitVec 5) (g : BitVec 3) (f : BitVec 2) : Wordless.Statement (.vredN32 d a x g f) := nofun
theorem Wordless.vperm (d a b : BitVec 6) (g : BitVec 3) (h : BitVec 1) : Wordless.Statement (.vperm d a b g h) := nofun
theorem Wordless.vbcast (d : BitVec 6) (x : BitVec 5) (g : BitVec 3) : Wordless.Statement (.vbcast d x g) := nofun
theorem Wordless.vbcastLane (d a : BitVec 6) (x : BitVec 5) (g : BitVec 3) : Wordless.Statement (.vbcastLane d a x g) := nofun
theorem Wordless.vmovx (l a : BitVec 6) (x : BitVec 5) : Wordless.Statement (.vmovx l a x) := nofun
theorem Wordless.vmovxS (l a : BitVec 6) (x : BitVec 5) : Wordless.Statement (.vmovxS l a x) := nofun
theorem Wordless.vmovxToLane (d l : BitVec 6) (x : BitVec 5) : Wordless.Statement (.vmovxToLane d l x) := nofun
theorem Wordless.vidx (d : BitVec 6) (g : BitVec 3) : Wordless.Statement (.vidx d g) := nofun
theorem Wordless.vcvtI32F32 (d a b : BitVec 6) (g : BitVec 3) (h : BitVec 1) : Wordless.Statement (.vcvtI32F32 d a b g h) := nofun
theorem Wordless.vcvtN32F32 (d a b : BitVec 6) (g : BitVec 3) (h : BitVec 1) : Wordless.Statement (.vcvtN32F32 d a b g h) := nofun
theorem Wordless.vcvtF32I32 (d a b : BitVec 6) (g : BitVec 3) (h : BitVec 1) : Wordless.Statement (.vcvtF32I32 d a b g h) := nofun
theorem Wordless.vcvtF32N32 (d a b : BitVec 6) (g : BitVec 3) (h : BitVec 1) : Wordless.Statement (.vcvtF32N32 d a b g h) := nofun
theorem Wordless.vcvtBf16F32 (d a b : BitVec 6) (g : BitVec 3) (h : BitVec 1) : Wordless.Statement (.vcvtBf16F32 d a b g h) := nofun
theorem Wordless.vcvtF32Bf16 (d a b : BitVec 6) (g : BitVec 3) (h : BitVec 1) : Wordless.Statement (.vcvtF32Bf16 d a b g h) := nofun
theorem Wordless.vcvtE4m3F32 (d a b : BitVec 6) (g : BitVec 3) (h : BitVec 1) : Wordless.Statement (.vcvtE4m3F32 d a b g h) := nofun
theorem Wordless.vcvtF32E4m3 (d a b : BitVec 6) (g : BitVec 3) (h : BitVec 1) : Wordless.Statement (.vcvtF32E4m3 d a b g h) := nofun
theorem Wordless.vcvtE5m2F32 (d a b : BitVec 6) (g : BitVec 3) (h : BitVec 1) : Wordless.Statement (.vcvtE5m2F32 d a b g h) := nofun
theorem Wordless.vcvtF32E5m2 (d a b : BitVec 6) (g : BitVec 3) (h : BitVec 1) : Wordless.Statement (.vcvtF32E5m2 d a b g h) := nofun
theorem Wordless.vcvtE2m1F32 (d a b : BitVec 6) (g : BitVec 3) (h : BitVec 1) : Wordless.Statement (.vcvtE2m1F32 d a b g h) := nofun
theorem Wordless.vcvtF32E2m1 (d a b : BitVec 6) (g : BitVec 3) (h : BitVec 1) : Wordless.Statement (.vcvtF32E2m1 d a b g h) := nofun
theorem Wordless.vld (d : BitVec 6) (a : BitVec 5) (i : BitVec 7) (g : BitVec 3) : Wordless.Statement (.vld d a i g) := nofun
theorem Wordless.vst (s : BitVec 6) (a : BitVec 5) (i : BitVec 7) (g : BitVec 3) : Wordless.Statement (.vst s a i g) := nofun
theorem Wordless.vldw (d : BitVec 6) (a : BitVec 5) (i : BitVec 7) (q : BitVec 1) : Wordless.Statement (.vldw d a i q) := nofun
theorem Wordless.vstf (s : BitVec 6) (a : BitVec 5) (i : BitVec 7) : Wordless.Statement (.vstf s a i) := nofun
theorem Wordless.vlds (d : BitVec 6) (r b : BitVec 5) (g : BitVec 3) (f : BitVec 2) : Wordless.Statement (.vlds d r b g f) := nofun
theorem Wordless.vldg (d a : BitVec 6) (b : BitVec 5) (g : BitVec 3) (f : BitVec 2) : Wordless.Statement (.vldg d a b g f) := nofun
theorem Wordless.vsts (s a : BitVec 6) (b : BitVec 5) (g : BitVec 3) (f : BitVec 2) : Wordless.Statement (.vsts s a b g f) := nofun
theorem Wordless.pand (d a b g : BitVec 3) : Wordless.Statement (.pand d a b g) := nofun
theorem Wordless.por (d a b g : BitVec 3) : Wordless.Statement (.por d a b g) := nofun
theorem Wordless.pxor (d a b g : BitVec 3) : Wordless.Statement (.pxor d a b g) := nofun
theorem Wordless.pnot (d a g : BitVec 3) : Wordless.Statement (.pnot d a g) := nofun
theorem Wordless.pcnt (a : BitVec 3) (x : BitVec 5) (g : BitVec 3) (f : BitVec 2) : Wordless.Statement (.pcnt a x g f) := nofun
theorem Wordless.pfirst (a : BitVec 3) (x : BitVec 5) (g : BitVec 3) (f : BitVec 2) : Wordless.Statement (.pfirst a x g f) := nofun
theorem Wordless.qcnt (q : BitVec 4) (x : BitVec 5) : Wordless.Statement (.qcnt q x) := nofun
theorem Wordless.qclr (q : BitVec 4) : Wordless.Statement (.qclr q) := nofun
theorem Wordless.qbind (q s : BitVec 4) : Wordless.Statement (.qbind q s) := nofun
theorem Wordless.qunbind (q : BitVec 4) : Wordless.Statement (.qunbind q) := nofun
theorem Wordless.sbind (s : BitVec 4) (x : BitVec 5) : Wordless.Statement (.sbind s x) := nofun
theorem Wordless.spos (s : BitVec 4) (x : BitVec 5) : Wordless.Statement (.spos s x) := nofun
theorem Wordless.vpark (a : BitVec 6) (x : BitVec 5) : Wordless.Statement (.vpark a x) := nofun
theorem Wordless.vunpark (d : BitVec 6) (x : BitVec 5) : Wordless.Statement (.vunpark d x) := nofun
theorem Wordless.vunparkFree (d : BitVec 6) (x : BitVec 5) : Wordless.Statement (.vunparkFree d x) := nofun
theorem Wordless.vshlImm (d a : BitVec 6) (n : BitVec 5) : Wordless.Statement (.vshlImm d a n) := nofun
theorem Wordless.vshrImm (d a : BitVec 6) (n : BitVec 5) : Wordless.Statement (.vshrImm d a n) := nofun
theorem Wordless.vsraImm (d a : BitVec 6) (n : BitVec 5) : Wordless.Statement (.vsraImm d a n) := nofun
theorem Wordless.vbcastImm (d : BitVec 6) (i : Imm 10) : Wordless.Statement (.vbcastImm d i) := nofun
theorem Wordless.mldM32 (d : BitVec 6) (a : BitVec 5) (i : BitVec 7) (g : BitVec 3) : Wordless.Statement (.mldM32 d a i g) := nofun
theorem Wordless.mldMb16 (d : BitVec 6) (a : BitVec 5) (i : BitVec 7) (g : BitVec 3) : Wordless.Statement (.mldMb16 d a i g) := nofun
theorem Wordless.mstM32 (s : BitVec 6) (a : BitVec 5) (i : BitVec 7) (g : BitVec 3) : Wordless.Statement (.mstM32 s a i g) := nofun
theorem Wordless.mstMb16 (s : BitVec 6) (a : BitVec 5) (i : BitVec 7) (g : BitVec 3) : Wordless.Statement (.mstMb16 s a i g) := nofun
theorem Wordless.mset (d a b : BitVec 6) (g : BitVec 3) : Wordless.Statement (.mset d a b g) := nofun
theorem Wordless.mget (d a b : BitVec 6) (g : BitVec 3) : Wordless.Statement (.mget d a b g) := nofun
theorem Wordless.mcorr (a : BitVec 6) (g : BitVec 3) : Wordless.Statement (.mcorr a g) := nofun
theorem Wordless.mclip (d a : BitVec 6) (x : BitVec 5) (g : BitVec 3) : Wordless.Statement (.mclip d a x g) := nofun
theorem Wordless.madd (d a b : BitVec 6) (g : BitVec 3) (c : BitVec 1) : Wordless.Statement (.madd d a b g c) := nofun
theorem Wordless.msub (d a b : BitVec 6) (g : BitVec 3) (c : BitVec 1) : Wordless.Statement (.msub d a b g c) := nofun
theorem Wordless.mmul (d a b : BitVec 6) (g : BitVec 3) (c : BitVec 1) : Wordless.Statement (.mmul d a b g c) := nofun
theorem Wordless.mfma (d a b : BitVec 6) (g : BitVec 3) (c : BitVec 1) : Wordless.Statement (.mfma d a b g c) := nofun
theorem Wordless.mscl (d a b : BitVec 6) (g : BitVec 3) : Wordless.Statement (.mscl d a b g) := nofun
theorem Wordless.msq (d a : BitVec 6) (g : BitVec 3) : Wordless.Statement (.msq d a g) := nofun
theorem Wordless.mrelu (d a : BitVec 6) (g : BitVec 3) : Wordless.Statement (.mrelu d a g) := nofun
theorem Wordless.msig (d a : BitVec 6) (g : BitVec 3) : Wordless.Statement (.msig d a g) := nofun
theorem Wordless.mexp (d a : BitVec 6) (g : BitVec 3) : Wordless.Statement (.mexp d a g) := nofun
theorem Wordless.mtanh (d a : BitVec 6) (g : BitVec 3) : Wordless.Statement (.mtanh d a g) := nofun
theorem Wordless.mcolMean (d a : BitVec 6) (g : BitVec 3) : Wordless.Statement (.mcolMean d a g) := nofun
theorem Wordless.mcolHi (d a : BitVec 6) (g : BitVec 3) : Wordless.Statement (.mcolHi d a g) := nofun
theorem Wordless.mcolLo (d a : BitVec 6) (g : BitVec 3) : Wordless.Statement (.mcolLo d a g) := nofun
theorem Wordless.mcolSmp (d a b : BitVec 6) (g : BitVec 3) : Wordless.Statement (.mcolSmp d a b g) := nofun
theorem Wordless.mma (z : BitVec 3) (a b : BitVec 4) (m : BitVec 2) (p : BitVec 1) : Wordless.Statement (.mma z a b m p) := nofun
theorem Wordless.mmas (z : BitVec 3) (a b : BitVec 4) (m : BitVec 2) (p : BitVec 1) (c : BitVec 6) (s : BitVec 1) : Wordless.Statement (.mmas z a b m p c s) := nofun
theorem Wordless.mmap (z : BitVec 3) (a b : BitVec 4) (m : BitVec 2) (p : BitVec 1) : Wordless.Statement (.mmap z a b m p) := nofun
theorem Wordless.mmt (z : BitVec 3) (a b : BitVec 4) (m : BitVec 2) (p : BitVec 1) : Wordless.Statement (.mmt z a b m p) := nofun
theorem Wordless.mmm (z : BitVec 3) (a b : BitVec 4) (m : BitVec 2) (p f : BitVec 1) : Wordless.Statement (.mmm z a b m p f) := nofun
theorem Wordless.repetition : Wordless.Statement .repetition := fun _ => ⟨rfl, rfl, rfl⟩
theorem Wordless.trd (z : BitVec 3) (d r : BitVec 6) : Wordless.Statement (.trd z d r) := nofun
theorem Wordless.twr (z : BitVec 3) (a r : BitVec 6) : Wordless.Statement (.twr z a r) := nofun
theorem Wordless.tcfg (m : BitVec 8) (r : BitVec 7) (f : BitVec 1) : Wordless.Statement (.tcfg m r f) := nofun
theorem Wordless.tfree (m : BitVec 8) (f : BitVec 1) : Wordless.Statement (.tfree m f) := nofun
theorem Wordless.tzero (m : BitVec 8) : Wordless.Statement (.tzero m) := nofun
theorem Wordless.tgen (t : BitVec 4) (p : BitVec 2) : Wordless.Statement (.tgen t p) := nofun
theorem Wordless.tadd (d s : BitVec 3) (n : BitVec 1) : Wordless.Statement (.tadd d s n) := nofun
theorem Wordless.tscl (z : BitVec 3) (x : BitVec 5) : Wordless.Statement (.tscl z x) := nofun
theorem Wordless.tcvt (z o t : BitVec 3) (p : BitVec 1) (r : BitVec 3) : Wordless.Statement (.tcvt z o t p r) := nofun
theorem Wordless.ofs (o : BitVec 3) (a b : BitVec 5) : Wordless.Statement (.ofs o a b) := nofun
theorem Wordless.ofsr (o : BitVec 3) (d : BitVec 5) (s : BitVec 1) : Wordless.Statement (.ofsr o d s) := nofun
theorem Wordless.cdesc (c s : BitVec 5) : Wordless.Statement (.cdesc c s) := nofun
theorem Wordless.cpy (c h s d : BitVec 5) : Wordless.Statement (.cpy c h s d) := nofun
theorem Wordless.cpyg (c h s d : BitVec 5) : Wordless.Statement (.cpyg c h s d) := nofun
theorem Wordless.cpygOb (c h s d : BitVec 5) : Wordless.Statement (.cpygOb c h s d) := nofun
theorem Wordless.cpyx (c h s d : BitVec 5) : Wordless.Statement (.cpyx c h s d) := nofun
theorem Wordless.cpyb (c h s d : BitVec 5) : Wordless.Statement (.cpyb c h s d) := nofun
theorem Wordless.cpys (c h s d : BitVec 5) : Wordless.Statement (.cpys c h s d) := nofun
theorem Wordless.cpyo (c h s d : BitVec 5) : Wordless.Statement (.cpyo c h s d) := nofun
theorem Wordless.pfill (c h s d : BitVec 5) : Wordless.Statement (.pfill c h s d) := nofun
theorem Wordless.cadd (h v : BitVec 5) (s : BitVec 3) : Wordless.Statement (.cadd h v s) := nofun
theorem Wordless.caddImm (h i : BitVec 5) (s : BitVec 3) (j : BitVec 8) : Wordless.Statement (.caddImm h i s j) := nofun
theorem Wordless.cwait (h v : BitVec 5) (s : BitVec 3) : Wordless.Statement (.cwait h v s) := nofun
theorem Wordless.ctest (h v : BitVec 5) (s n : BitVec 3) : Wordless.Statement (.ctest h v s n) := nofun
theorem Wordless.cread (h v : BitVec 5) (s : BitVec 3) : Wordless.Statement (.cread h v s) := nofun
theorem Wordless.amoAdd (d a b : BitVec 5) (w s : BitVec 2) : Wordless.Statement (.amoAdd d a b w s) := nofun
theorem Wordless.amoMin (d a b : BitVec 5) (w s : BitVec 2) : Wordless.Statement (.amoMin d a b w s) := nofun
theorem Wordless.amoMax (d a b : BitVec 5) (w s : BitVec 2) : Wordless.Statement (.amoMax d a b w s) := nofun
theorem Wordless.amoAnd (d a b : BitVec 5) (w s : BitVec 2) : Wordless.Statement (.amoAnd d a b w s) := nofun
theorem Wordless.amoOr (d a b : BitVec 5) (w s : BitVec 2) : Wordless.Statement (.amoOr d a b w s) := nofun
theorem Wordless.amoXor (d a b : BitVec 5) (w s : BitVec 2) : Wordless.Statement (.amoXor d a b w s) := nofun
theorem Wordless.amoXchg (d a b : BitVec 5) (w s : BitVec 2) : Wordless.Statement (.amoXchg d a b w s) := nofun
theorem Wordless.amocas (d a b : BitVec 5) (w s : BitVec 2) : Wordless.Statement (.amocas d a b w s) := nofun
theorem Wordless.coll (c h s d : BitVec 5) : Wordless.Statement (.coll c h s d) := nofun
theorem Wordless.qapp (h v : BitVec 5) (s : BitVec 3) (n : BitVec 5) : Wordless.Statement (.qapp h v s n) := nofun
theorem Wordless.cbcfg (h s d : BitVec 5) : Wordless.Statement (.cbcfg h s d) := nofun
theorem Wordless.cbal (h v n : BitVec 5) : Wordless.Statement (.cbal h v n) := nofun
theorem Wordless.cbalNb (h v : BitVec 5) (p : BitVec 3) (n : BitVec 5) : Wordless.Statement (.cbalNb h v p n) := nofun
theorem Wordless.cbput (c h s d : BitVec 5) : Wordless.Statement (.cbput c h s d) := nofun
theorem Wordless.cbst (h v : BitVec 5) (f : BitVec 9) : Wordless.Statement (.cbst h v f) := nofun
theorem Wordless.cbdrop (h v : BitVec 5) : Wordless.Statement (.cbdrop h v) := nofun
theorem Wordless.bundleDispatch : Wordless.Statement .bundleDispatch := fun _ => ⟨rfl, rfl, rfl⟩
theorem Wordless.bundleFetch : Wordless.Statement .bundleFetch := fun _ => ⟨rfl, rfl, rfl⟩
theorem Wordless.takeCommit : Wordless.Statement .takeCommit := fun _ => ⟨rfl, rfl, rfl⟩
theorem Wordless.translationWalk (va : W64) : Wordless.Statement (.translationWalk va) := fun _ => ⟨rfl, rfl, rfl⟩
theorem Wordless.tinvAck (core : Nat) : Wordless.Statement (.tinvAck core) := fun _ => ⟨rfl, rfl, rfl⟩
theorem Wordless.consumingLoadWake (core : Nat) : Wordless.Statement (.consumingLoadWake core) := fun _ => ⟨rfl, rfl, rfl⟩
theorem Wordless.cwaitWake (core : Nat) : Wordless.Statement (.cwaitWake core) := fun _ => ⟨rfl, rfl, rfl⟩
theorem Wordless.cbalWake (core : Nat) : Wordless.Statement (.cbalWake core) := fun _ => ⟨rfl, rfl, rfl⟩
theorem Wordless.spawnShotStart (core : Nat) : Wordless.Statement (.spawnShotStart core) := fun _ => ⟨rfl, rfl, rfl⟩
theorem Wordless.copyComplete (op : Nat) : Wordless.Statement (.copyComplete op) := fun _ => ⟨rfl, rfl, rfl⟩
theorem Wordless.streamFetch (core sd : Nat) : Wordless.Statement (.streamFetch core sd) := fun _ => ⟨rfl, rfl, rfl⟩
theorem Wordless.streamEntryWrite (core q entry : Nat) : Wordless.Statement (.streamEntryWrite core q entry) := fun _ => ⟨rfl, rfl, rfl⟩
theorem Wordless.wound (core : Nat) : Wordless.Statement (.wound core) := fun _ => ⟨rfl, rfl, rfl⟩
theorem Wordless.rdLines (place : Nat) (hdr : BitVec 128) : Wordless.Statement (.rdLines place hdr) := fun _ => ⟨rfl, rfl, rfl⟩
theorem Wordless.wrLines (place : Nat) (hdr : BitVec 128) (data : List Byte) : Wordless.Statement (.wrLines place hdr data) := fun _ => ⟨rfl, rfl, rfl⟩
theorem Wordless.wrmLine (place : Nat) (hdr : BitVec 128) (data : List Byte) : Wordless.Statement (.wrmLine place hdr data) := fun _ => ⟨rfl, rfl, rfl⟩
theorem Wordless.scrubLines (place : Nat) (hdr : BitVec 128) : Wordless.Statement (.scrubLines place hdr) := fun _ => ⟨rfl, rfl, rfl⟩
theorem Wordless.rawWr (place : Nat) (hdr : BitVec 128) (data : List Byte) : Wordless.Statement (.rawWr place hdr data) := fun _ => ⟨rfl, rfl, rfl⟩
theorem Wordless.zeroLines (place : Nat) (hdr : BitVec 128) : Wordless.Statement (.zeroLines place hdr) := fun _ => ⟨rfl, rfl, rfl⟩
theorem Wordless.replyLines (k : Nat) : Wordless.Statement (.replyLines k) := fun _ => ⟨rfl, rfl, rfl⟩
theorem Wordless.selection (die : Nat) : Wordless.Statement (.selection die) := fun _ => ⟨rfl, rfl, rfl⟩
theorem Wordless.launchPacket (die : Nat) : Wordless.Statement (.launchPacket die) := fun _ => ⟨rfl, rfl, rfl⟩
theorem Wordless.copyPacket (die : Nat) : Wordless.Statement (.copyPacket die) := fun _ => ⟨rfl, rfl, rfl⟩
theorem Wordless.addPacket (die : Nat) : Wordless.Statement (.addPacket die) := fun _ => ⟨rfl, rfl, rfl⟩
theorem Wordless.waitPacket (die : Nat) : Wordless.Statement (.waitPacket die) := fun _ => ⟨rfl, rfl, rfl⟩
theorem Wordless.barrierPacket (die : Nat) : Wordless.Statement (.barrierPacket die) := fun _ => ⟨rfl, rfl, rfl⟩
theorem Wordless.controlYield (die : Nat) : Wordless.Statement (.controlYield die) := fun _ => ⟨rfl, rfl, rfl⟩
theorem Wordless.controlDisable (die : Nat) : Wordless.Statement (.controlDisable die) := fun _ => ⟨rfl, rfl, rfl⟩
theorem Wordless.shotPlacement (die : Nat) : Wordless.Statement (.shotPlacement die) := fun _ => ⟨rfl, rfl, rfl⟩
theorem Wordless.launchCompletion (launch : Nat) : Wordless.Statement (.launchCompletion launch) := fun _ => ⟨rfl, rfl, rfl⟩
theorem Wordless.completionAdd (k : Nat) : Wordless.Statement (.completionAdd k) := fun _ => ⟨rfl, rfl, rfl⟩
theorem Wordless.trapRecord (core : Nat) : Wordless.Statement (.trapRecord core) := fun _ => ⟨rfl, rfl, rfl⟩
theorem Wordless.trapDelivery (core : Nat) : Wordless.Statement (.trapDelivery core) := fun _ => ⟨rfl, rfl, rfl⟩
theorem Wordless.actionResume (core : Nat) : Wordless.Statement (.actionResume core) := fun _ => ⟨rfl, rfl, rfl⟩
theorem Wordless.actionSupply (core : Nat) : Wordless.Statement (.actionSupply core) := fun _ => ⟨rfl, rfl, rfl⟩
theorem Wordless.actionTerminate (core : Nat) : Wordless.Statement (.actionTerminate core) := fun _ => ⟨rfl, rfl, rfl⟩
theorem Wordless.eventDelivery (k : Nat) : Wordless.Statement (.eventDelivery k) := fun _ => ⟨rfl, rfl, rfl⟩
theorem Wordless.eventWaitExpiry (k : Nat) : Wordless.Statement (.eventWaitExpiry k) := fun _ => ⟨rfl, rfl, rfl⟩
theorem Wordless.timeSliceEnd (die : Nat) : Wordless.Statement (.timeSliceEnd die) := fun _ => ⟨rfl, rfl, rfl⟩
theorem Wordless.preempt (die : Nat) (out into : BitVec 16) : Wordless.Statement (.preempt die out into) := fun _ => ⟨rfl, rfl, rfl⟩
theorem Wordless.graceExpiry (core : Nat) : Wordless.Statement (.graceExpiry core) := fun _ => ⟨rfl, rfl, rfl⟩
theorem Wordless.faultResolution (core : Nat) : Wordless.Statement (.faultResolution core) := fun _ => ⟨rfl, rfl, rfl⟩
theorem Wordless.fetchReply (req : Req) (va : W64) (granted : Bool) (data : List Byte) : Wordless.Statement (.fetchReply req va granted data) := fun _ => ⟨rfl, rfl, rfl⟩
theorem Wordless.fetchResend (asid : BitVec 16) (va : W64) : Wordless.Statement (.fetchResend asid va) := fun _ => ⟨rfl, rfl, rfl⟩
theorem Wordless.pageMove (asid : BitVec 16) (va : W64) (frame : Nat) : Wordless.Statement (.pageMove asid va frame) := fun _ => ⟨rfl, rfl, rfl⟩
theorem Wordless.patrolScrub (die : Nat) (raw : W64) : Wordless.Statement (.patrolScrub die raw) := fun _ => ⟨rfl, rfl, rfl⟩
theorem Wordless.screenTestStart (cluster : Nat) : Wordless.Statement (.screenTestStart cluster) := fun _ => ⟨rfl, rfl, rfl⟩
theorem Wordless.screenPreempt (core : Nat) : Wordless.Statement (.screenPreempt core) := fun _ => ⟨rfl, rfl, rfl⟩
theorem Wordless.screenTest (core : Nat) (pass : Bool) : Wordless.Statement (.screenTest core pass) := fun _ => ⟨rfl, rfl, rfl⟩
theorem Wordless.powerFailWarning : Wordless.Statement .powerFailWarning := fun _ => ⟨rfl, rfl, rfl⟩
theorem Wordless.quiescence : Wordless.Statement .quiescence := fun _ => ⟨rfl, rfl, rfl⟩
theorem Wordless.drain : Wordless.Statement .drain := fun _ => ⟨rfl, rfl, rfl⟩
theorem Wordless.restart : Wordless.Statement .restart := fun _ => ⟨rfl, rfl, rfl⟩
theorem Wordless.powerLevelDrop (level : Nat) : Wordless.Statement (.powerLevelDrop level) := fun _ => ⟨rfl, rfl, rfl⟩
theorem Wordless.powerLevelRaise (level : Nat) : Wordless.Statement (.powerLevelRaise level) := fun _ => ⟨rfl, rfl, rfl⟩
theorem Wordless.boot (passed : List Nat) (budget : W64) : Wordless.Statement (.boot passed budget) := fun _ => ⟨rfl, rfl, rfl⟩
theorem Wordless.phaseLoss (die : Nat) : Wordless.Statement (.phaseLoss die) := fun _ => ⟨rfl, rfl, rfl⟩
theorem Wordless.imbalanceSample (pair up lo : Nat) : Wordless.Statement (.imbalanceSample pair up lo) := fun _ => ⟨rfl, rfl, rfl⟩
theorem Wordless.imbalanceCapRaise (pair : Nat) : Wordless.Statement (.imbalanceCapRaise pair) := fun _ => ⟨rfl, rfl, rfl⟩
theorem Wordless.hotFlag (cluster temp : Nat) : Wordless.Statement (.hotFlag cluster temp) := fun _ => ⟨rfl, rfl, rfl⟩
theorem Wordless.thermalStep (cluster temp : Nat) : Wordless.Statement (.thermalStep cluster temp) := fun _ => ⟨rfl, rfl, rfl⟩
theorem Wordless.gatingHoldExpiry (core : Nat) : Wordless.Statement (.gatingHoldExpiry core) := fun _ => ⟨rfl, rfl, rfl⟩
theorem Wordless.wakeComplete (core : Nat) : Wordless.Statement (.wakeComplete core) := fun _ => ⟨rfl, rfl, rfl⟩
theorem Wordless.cbputDeposit (op : Nat) : Wordless.Statement (.cbputDeposit op) := fun _ => ⟨rfl, rfl, rfl⟩
theorem Wordless.cbDeadline (die stream slot : Nat) : Wordless.Statement (.cbDeadline die stream slot) := fun _ => ⟨rfl, rfl, rfl⟩
theorem Wordless.collComplete (op : Nat) (contributions : List (List Byte)) : Wordless.Statement (.collComplete op contributions) := fun _ => ⟨rfl, rfl, rfl⟩
theorem Wordless.collAbort (op : Nat) : Wordless.Statement (.collAbort op) := fun _ => ⟨rfl, rfl, rfl⟩
theorem Wordless.linkTraining (port : Nat) (peerStep : W64) : Wordless.Statement (.linkTraining port peerStep) := fun _ => ⟨rfl, rfl, rfl⟩
theorem Wordless.linkRetrainTimeout (port : Nat) : Wordless.Statement (.linkRetrainTimeout port) := fun _ => ⟨rfl, rfl, rfl⟩
theorem Wordless.stepBoundary : Wordless.Statement .stepBoundary := fun _ => ⟨rfl, rfl, rfl⟩
theorem Wordless.hello (datagram : List Byte) : Wordless.Statement (.hello datagram) := fun _ => ⟨rfl, rfl, rfl⟩
theorem Wordless.sessionOpen (req : Req) (proposal : W64) : Wordless.Statement (.sessionOpen req proposal) := fun _ => ⟨rfl, rfl, rfl⟩
theorem Wordless.create (req : Req) (arg : W64) : Wordless.Statement (.create req arg) := fun _ => ⟨rfl, rfl, rfl⟩
theorem Wordless.destroy (req : Req) : Wordless.Statement (.destroy req) := fun _ => ⟨rfl, rfl, rfl⟩
theorem Wordless.reclaim (req : Req) (ticket : List Byte) : Wordless.Statement (.reclaim req ticket) := fun _ => ⟨rfl, rfl, rfl⟩
theorem Wordless.expose (req : Req) (va pages : W64) (write : Bool) : Wordless.Statement (.expose req va pages write) := fun _ => ⟨rfl, rfl, rfl⟩
theorem Wordless.remoteAppend (req : Req) (queue : W64) (packet : List Byte) : Wordless.Statement (.remoteAppend req queue packet) := fun _ => ⟨rfl, rfl, rfl⟩
theorem Wordless.remoteRead (req : Req) (va bytes : W64) : Wordless.Statement (.remoteRead req va bytes) := fun _ => ⟨rfl, rfl, rfl⟩
theorem Wordless.remoteWrite (req : Req) (va : W64) (data : List Byte) : Wordless.Statement (.remoteWrite req va data) := fun _ => ⟨rfl, rfl, rfl⟩
theorem Wordless.remoteAdd (req : Req) (handle value : W64) : Wordless.Statement (.remoteAdd req handle value) := fun _ => ⟨rfl, rfl, rfl⟩
theorem Wordless.recall (req : Req) (va : W64) : Wordless.Statement (.recall req va) := fun _ => ⟨rfl, rfl, rfl⟩
theorem Wordless.give (req : Req) (va : W64) (data : List Byte) : Wordless.Statement (.give req va data) := fun _ => ⟨rfl, rfl, rfl⟩
theorem Wordless.attestReport (req : Req) (nonce : List Byte) : Wordless.Statement (.attestReport req nonce) := fun _ => ⟨rfl, rfl, rfl⟩
theorem Wordless.attestCert (req : Req) : Wordless.Statement (.attestCert req) := fun _ => ⟨rfl, rfl, rfl⟩
theorem Wordless.mread (req : Req) (object offset bytes : W64) : Wordless.Statement (.mread req object offset bytes) := fun _ => ⟨rfl, rfl, rfl⟩
theorem Wordless.mwriteScrubRate (req : Req) (offset : W64) (data : List Byte) : Wordless.Statement (.mwriteScrubRate req offset data) := fun _ => ⟨rfl, rfl, rfl⟩
theorem Wordless.slateDisposal (req : Req) (data : List Byte) : Wordless.Statement (.slateDisposal req data) := fun _ => ⟨rfl, rfl, rfl⟩
theorem Wordless.sessionClose (req : Req) : Wordless.Statement (.sessionClose req) := fun _ => ⟨rfl, rfl, rfl⟩
theorem Wordless.reclaimWindowExpiry (asid : BitVec 16) : Wordless.Statement (.reclaimWindowExpiry asid) := fun _ => ⟨rfl, rfl, rfl⟩
theorem Wordless.upset (raw : W64) (bits : Nat) : Wordless.Statement (.upset raw bits) := fun _ => ⟨rfl, rfl, rfl⟩
theorem Wordless.recoveryImageWrite (slot : Nat) (images : List (List Byte)) : Wordless.Statement (.recoveryImageWrite slot images) := fun _ => ⟨rfl, rfl, rfl⟩
theorem Wordless.linkRetrain (port : Nat) : Wordless.Statement (.linkRetrain port) := fun _ => ⟨rfl, rfl, rfl⟩
theorem Wordless.queueRegistration (asid : BitVec 16) (header : W64) : Wordless.Statement (.queueRegistration asid header) := fun _ => ⟨rfl, rfl, rfl⟩

end Sys2Proof.Laws
end

