-- ==== Sys2Proof/Laws/State.lean ====
section
/-! SUPPORT. What each plain update of the state leaves as it was, field by field, and what the accessors of a core read after
an update of one of its registers. -/

namespace Sys2Proof.Machine

@[simp] theorem State.setX_cur (s : State) (n : BitVec 5) (v : W64) : (s.setX n v).cur = s.cur := by
  unfold State.setX; split <;> rfl
@[simp] theorem State.setX_cores (s : State) (n : BitVec 5) (v : W64) : (s.setX n v).cores = s.cores := by
  unfold State.setX; split <;> rfl
@[simp] theorem State.setX_st (s : State) (n : BitVec 5) (v : W64) : (s.setX n v).st = s.st := by
  unfold State.setX; split <;> rfl
@[simp] theorem State.setX_sync (s : State) (n : BitVec 5) (v : W64) : (s.setX n v).sync = s.sync := by
  unfold State.setX; split <;> rfl
@[simp] theorem State.setX_eng (s : State) (n : BitVec 5) (v : W64) : (s.setX n v).eng = s.eng := by
  unfold State.setX; split <;> rfl
@[simp] theorem State.setX_sched (s : State) (n : BitVec 5) (v : W64) : (s.setX n v).sched = s.sched := by
  unfold State.setX; split <;> rfl
@[simp] theorem State.setX_peers (s : State) (n : BitVec 5) (v : W64) : (s.setX n v).peers = s.peers := by
  unfold State.setX; split <;> rfl
@[simp] theorem State.setX_mod (s : State) (n : BitVec 5) (v : W64) : (s.setX n v).mod = s.mod := by
  unfold State.setX; split <;> rfl
@[simp] theorem State.setX_agenda (s : State) (n : BitVec 5) (v : W64) : (s.setX n v).agenda = s.agenda := by
  unfold State.setX; split <;> rfl
@[simp] theorem State.setX_fresh (s : State) (n : BitVec 5) (v : W64) : (s.setX n v).fresh = s.fresh := by
  unfold State.setX; split <;> rfl

@[simp] theorem State.setP_cur (s : State) (n : BitVec 3) (v : W64) : (s.setP n v).cur = s.cur := by
  unfold State.setP; split <;> rfl
@[simp] theorem State.setP_cores (s : State) (n : BitVec 3) (v : W64) : (s.setP n v).cores = s.cores := by
  unfold State.setP; split <;> rfl
@[simp] theorem State.setP_st (s : State) (n : BitVec 3) (v : W64) : (s.setP n v).st = s.st := by
  unfold State.setP; split <;> rfl
@[simp] theorem State.setP_sync (s : State) (n : BitVec 3) (v : W64) : (s.setP n v).sync = s.sync := by
  unfold State.setP; split <;> rfl
@[simp] theorem State.setP_eng (s : State) (n : BitVec 3) (v : W64) : (s.setP n v).eng = s.eng := by
  unfold State.setP; split <;> rfl
@[simp] theorem State.setP_sched (s : State) (n : BitVec 3) (v : W64) : (s.setP n v).sched = s.sched := by
  unfold State.setP; split <;> rfl
@[simp] theorem State.setP_peers (s : State) (n : BitVec 3) (v : W64) : (s.setP n v).peers = s.peers := by
  unfold State.setP; split <;> rfl
@[simp] theorem State.setP_mod (s : State) (n : BitVec 3) (v : W64) : (s.setP n v).mod = s.mod := by
  unfold State.setP; split <;> rfl
@[simp] theorem State.setP_agenda (s : State) (n : BitVec 3) (v : W64) : (s.setP n v).agenda = s.agenda := by
  unfold State.setP; split <;> rfl
@[simp] theorem State.setP_fresh (s : State) (n : BitVec 3) (v : W64) : (s.setP n v).fresh = s.fresh := by
  unfold State.setP; split <;> rfl

@[simp] theorem State.setPLane0_cur (s : State) (n : BitVec 3) (b : Bool) : (s.setPLane0 n b).cur = s.cur := by
  unfold State.setPLane0; simp
@[simp] theorem State.setPLane0_cores (s : State) (n : BitVec 3) (b : Bool) : (s.setPLane0 n b).cores = s.cores := by
  unfold State.setPLane0; simp
@[simp] theorem State.setPLane0_st (s : State) (n : BitVec 3) (b : Bool) : (s.setPLane0 n b).st = s.st := by
  unfold State.setPLane0; simp
@[simp] theorem State.setPLane0_sync (s : State) (n : BitVec 3) (b : Bool) : (s.setPLane0 n b).sync = s.sync := by
  unfold State.setPLane0; simp
@[simp] theorem State.setPLane0_eng (s : State) (n : BitVec 3) (b : Bool) : (s.setPLane0 n b).eng = s.eng := by
  unfold State.setPLane0; simp
@[simp] theorem State.setPLane0_sched (s : State) (n : BitVec 3) (b : Bool) : (s.setPLane0 n b).sched = s.sched := by
  unfold State.setPLane0; simp
@[simp] theorem State.setPLane0_peers (s : State) (n : BitVec 3) (b : Bool) : (s.setPLane0 n b).peers = s.peers := by
  unfold State.setPLane0; simp
@[simp] theorem State.setPLane0_mod (s : State) (n : BitVec 3) (b : Bool) : (s.setPLane0 n b).mod = s.mod := by
  unfold State.setPLane0; simp
@[simp] theorem State.setPLane0_agenda (s : State) (n : BitVec 3) (b : Bool) : (s.setPLane0 n b).agenda = s.agenda := by
  unfold State.setPLane0; simp
@[simp] theorem State.setPLane0_fresh (s : State) (n : BitVec 3) (b : Bool) : (s.setPLane0 n b).fresh = s.fresh := by
  unfold State.setPLane0; simp

@[simp] theorem State.setV_cur (s : State) (n : Nat) (a : Lanes) : (s.setV n a).cur = s.cur := rfl
@[simp] theorem State.setV_cores (s : State) (n : Nat) (a : Lanes) : (s.setV n a).cores = s.cores := rfl
@[simp] theorem State.setV_st (s : State) (n : Nat) (a : Lanes) : (s.setV n a).st = s.st := rfl
@[simp] theorem State.setV_sync (s : State) (n : Nat) (a : Lanes) : (s.setV n a).sync = s.sync := rfl
@[simp] theorem State.setV_eng (s : State) (n : Nat) (a : Lanes) : (s.setV n a).eng = s.eng := rfl
@[simp] theorem State.setV_sched (s : State) (n : Nat) (a : Lanes) : (s.setV n a).sched = s.sched := rfl
@[simp] theorem State.setV_peers (s : State) (n : Nat) (a : Lanes) : (s.setV n a).peers = s.peers := rfl
@[simp] theorem State.setV_mod (s : State) (n : Nat) (a : Lanes) : (s.setV n a).mod = s.mod := rfl
@[simp] theorem State.setV_agenda (s : State) (n : Nat) (a : Lanes) : (s.setV n a).agenda = s.agenda := rfl
@[simp] theorem State.setV_fresh (s : State) (n : Nat) (a : Lanes) : (s.setV n a).fresh = s.fresh := rfl

@[simp] theorem State.setM_cur (s : State) (n : Nat) (a : Moment) : (s.setM n a).cur = s.cur := rfl
@[simp] theorem State.setM_cores (s : State) (n : Nat) (a : Moment) : (s.setM n a).cores = s.cores := rfl
@[simp] theorem State.setM_st (s : State) (n : Nat) (a : Moment) : (s.setM n a).st = s.st := rfl
@[simp] theorem State.setM_sync (s : State) (n : Nat) (a : Moment) : (s.setM n a).sync = s.sync := rfl
@[simp] theorem State.setM_eng (s : State) (n : Nat) (a : Moment) : (s.setM n a).eng = s.eng := rfl
@[simp] theorem State.setM_sched (s : State) (n : Nat) (a : Moment) : (s.setM n a).sched = s.sched := rfl
@[simp] theorem State.setM_peers (s : State) (n : Nat) (a : Moment) : (s.setM n a).peers = s.peers := rfl
@[simp] theorem State.setM_mod (s : State) (n : Nat) (a : Moment) : (s.setM n a).mod = s.mod := rfl
@[simp] theorem State.setM_agenda (s : State) (n : Nat) (a : Moment) : (s.setM n a).agenda = s.agenda := rfl
@[simp] theorem State.setM_fresh (s : State) (n : Nat) (a : Moment) : (s.setM n a).fresh = s.fresh := rfl

@[simp] theorem State.setZrow_cur (s : State) (z r : Nat) (a : Lanes) : (s.setZrow z r a).cur = s.cur := rfl
@[simp] theorem State.setZrow_cores (s : State) (z r : Nat) (a : Lanes) : (s.setZrow z r a).cores = s.cores := rfl
@[simp] theorem State.setZrow_st (s : State) (z r : Nat) (a : Lanes) : (s.setZrow z r a).st = s.st := rfl
@[simp] theorem State.setZrow_sync (s : State) (z r : Nat) (a : Lanes) : (s.setZrow z r a).sync = s.sync := rfl
@[simp] theorem State.setZrow_eng (s : State) (z r : Nat) (a : Lanes) : (s.setZrow z r a).eng = s.eng := rfl
@[simp] theorem State.setZrow_sched (s : State) (z r : Nat) (a : Lanes) : (s.setZrow z r a).sched = s.sched := rfl
@[simp] theorem State.setZrow_peers (s : State) (z r : Nat) (a : Lanes) : (s.setZrow z r a).peers = s.peers := rfl
@[simp] theorem State.setZrow_mod (s : State) (z r : Nat) (a : Lanes) : (s.setZrow z r a).mod = s.mod := rfl
@[simp] theorem State.setZrow_agenda (s : State) (z r : Nat) (a : Lanes) : (s.setZrow z r a).agenda = s.agenda := rfl
@[simp] theorem State.setZrow_fresh (s : State) (z r : Nat) (a : Lanes) : (s.setZrow z r a).fresh = s.fresh := rfl

@[simp] theorem State.setZ_cur (s : State) (z : Nat) (a : Vector Lanes 64) : (s.setZ z a).cur = s.cur := rfl
@[simp] theorem State.setZ_cores (s : State) (z : Nat) (a : Vector Lanes 64) : (s.setZ z a).cores = s.cores := rfl
@[simp] theorem State.setZ_st (s : State) (z : Nat) (a : Vector Lanes 64) : (s.setZ z a).st = s.st := rfl
@[simp] theorem State.setZ_sync (s : State) (z : Nat) (a : Vector Lanes 64) : (s.setZ z a).sync = s.sync := rfl
@[simp] theorem State.setZ_eng (s : State) (z : Nat) (a : Vector Lanes 64) : (s.setZ z a).eng = s.eng := rfl
@[simp] theorem State.setZ_sched (s : State) (z : Nat) (a : Vector Lanes 64) : (s.setZ z a).sched = s.sched := rfl
@[simp] theorem State.setZ_peers (s : State) (z : Nat) (a : Vector Lanes 64) : (s.setZ z a).peers = s.peers := rfl
@[simp] theorem State.setZ_mod (s : State) (z : Nat) (a : Vector Lanes 64) : (s.setZ z a).mod = s.mod := rfl
@[simp] theorem State.setZ_agenda (s : State) (z : Nat) (a : Vector Lanes 64) : (s.setZ z a).agenda = s.agenda := rfl
@[simp] theorem State.setZ_fresh (s : State) (z : Nat) (a : Vector Lanes 64) : (s.setZ z a).fresh = s.fresh := rfl

@[simp] theorem State.setO_cur (s : State) (n : Nat) (r : Oreg) : (s.setO n r).cur = s.cur := rfl
@[simp] theorem State.setO_cores (s : State) (n : Nat) (r : Oreg) : (s.setO n r).cores = s.cores := rfl
@[simp] theorem State.setO_st (s : State) (n : Nat) (r : Oreg) : (s.setO n r).st = s.st := rfl
@[simp] theorem State.setO_sync (s : State) (n : Nat) (r : Oreg) : (s.setO n r).sync = s.sync := rfl
@[simp] theorem State.setO_eng (s : State) (n : Nat) (r : Oreg) : (s.setO n r).eng = s.eng := rfl
@[simp] theorem State.setO_sched (s : State) (n : Nat) (r : Oreg) : (s.setO n r).sched = s.sched := rfl
@[simp] theorem State.setO_peers (s : State) (n : Nat) (r : Oreg) : (s.setO n r).peers = s.peers := rfl
@[simp] theorem State.setO_mod (s : State) (n : Nat) (r : Oreg) : (s.setO n r).mod = s.mod := rfl
@[simp] theorem State.setO_agenda (s : State) (n : Nat) (r : Oreg) : (s.setO n r).agenda = s.agenda := rfl
@[simp] theorem State.setO_fresh (s : State) (n : Nat) (r : Oreg) : (s.setO n r).fresh = s.fresh := rfl

@[simp] theorem State.advance_cur (s : State) (n : Nat) : (s.advance n).cur = s.cur := by
  simp only [State.advance]; (try split) <;> simp
@[simp] theorem State.advance_cores (s : State) (n : Nat) : (s.advance n).cores = s.cores := by
  simp only [State.advance]; (try split) <;> simp
@[simp] theorem State.advance_st (s : State) (n : Nat) : (s.advance n).st = s.st := by
  simp only [State.advance]; (try split) <;> simp
@[simp] theorem State.advance_sync (s : State) (n : Nat) : (s.advance n).sync = s.sync := by
  simp only [State.advance]; (try split) <;> simp
@[simp] theorem State.advance_eng (s : State) (n : Nat) : (s.advance n).eng = s.eng := by
  simp only [State.advance]; (try split) <;> simp
@[simp] theorem State.advance_sched (s : State) (n : Nat) : (s.advance n).sched = s.sched := by
  simp only [State.advance]; (try split) <;> simp
@[simp] theorem State.advance_peers (s : State) (n : Nat) : (s.advance n).peers = s.peers := by
  simp only [State.advance]; (try split) <;> simp
@[simp] theorem State.advance_mod (s : State) (n : Nat) : (s.advance n).mod = s.mod := by
  simp only [State.advance]; (try split) <;> simp
@[simp] theorem State.advance_agenda (s : State) (n : Nat) : (s.advance n).agenda = s.agenda := by
  simp only [State.advance]; (try split) <;> simp
@[simp] theorem State.advance_fresh (s : State) (n : Nat) : (s.advance n).fresh = s.fresh := by
  simp only [State.advance]; (try split) <;> simp

@[simp] theorem State.setSd_cur (s : State) (n : Nat) (d : Sd) : (s.setSd n d).cur = s.cur := rfl
@[simp] theorem State.setSd_cores (s : State) (n : Nat) (d : Sd) : (s.setSd n d).cores = s.cores := rfl
@[simp] theorem State.setSd_st (s : State) (n : Nat) (d : Sd) : (s.setSd n d).st = s.st := rfl
@[simp] theorem State.setSd_sync (s : State) (n : Nat) (d : Sd) : (s.setSd n d).sync = s.sync := rfl
@[simp] theorem State.setSd_eng (s : State) (n : Nat) (d : Sd) : (s.setSd n d).eng = s.eng := rfl
@[simp] theorem State.setSd_sched (s : State) (n : Nat) (d : Sd) : (s.setSd n d).sched = s.sched := rfl
@[simp] theorem State.setSd_peers (s : State) (n : Nat) (d : Sd) : (s.setSd n d).peers = s.peers := rfl
@[simp] theorem State.setSd_mod (s : State) (n : Nat) (d : Sd) : (s.setSd n d).mod = s.mod := rfl
@[simp] theorem State.setSd_agenda (s : State) (n : Nat) (d : Sd) : (s.setSd n d).agenda = s.agenda := rfl
@[simp] theorem State.setSd_fresh (s : State) (n : Nat) (d : Sd) : (s.setSd n d).fresh = s.fresh := rfl

@[simp] theorem State.setQ_cur (s : State) (n : Nat) (es : List Lanes) : (s.setQ n es).cur = s.cur := rfl
@[simp] theorem State.setQ_cores (s : State) (n : Nat) (es : List Lanes) : (s.setQ n es).cores = s.cores := rfl
@[simp] theorem State.setQ_st (s : State) (n : Nat) (es : List Lanes) : (s.setQ n es).st = s.st := rfl
@[simp] theorem State.setQ_sync (s : State) (n : Nat) (es : List Lanes) : (s.setQ n es).sync = s.sync := rfl
@[simp] theorem State.setQ_eng (s : State) (n : Nat) (es : List Lanes) : (s.setQ n es).eng = s.eng := rfl
@[simp] theorem State.setQ_sched (s : State) (n : Nat) (es : List Lanes) : (s.setQ n es).sched = s.sched := rfl
@[simp] theorem State.setQ_peers (s : State) (n : Nat) (es : List Lanes) : (s.setQ n es).peers = s.peers := rfl
@[simp] theorem State.setQ_mod (s : State) (n : Nat) (es : List Lanes) : (s.setQ n es).mod = s.mod := rfl
@[simp] theorem State.setQ_agenda (s : State) (n : Nat) (es : List Lanes) : (s.setQ n es).agenda = s.agenda := rfl
@[simp] theorem State.setQ_fresh (s : State) (n : Nat) (es : List Lanes) : (s.setQ n es).fresh = s.fresh := rfl

@[simp] theorem State.dropHead_cur (s : State) (n : Nat) : (s.dropHead n).cur = s.cur := rfl
@[simp] theorem State.dropHead_cores (s : State) (n : Nat) : (s.dropHead n).cores = s.cores := rfl
@[simp] theorem State.dropHead_st (s : State) (n : Nat) : (s.dropHead n).st = s.st := rfl
@[simp] theorem State.dropHead_sync (s : State) (n : Nat) : (s.dropHead n).sync = s.sync := rfl
@[simp] theorem State.dropHead_eng (s : State) (n : Nat) : (s.dropHead n).eng = s.eng := rfl
@[simp] theorem State.dropHead_sched (s : State) (n : Nat) : (s.dropHead n).sched = s.sched := rfl
@[simp] theorem State.dropHead_peers (s : State) (n : Nat) : (s.dropHead n).peers = s.peers := rfl
@[simp] theorem State.dropHead_mod (s : State) (n : Nat) : (s.dropHead n).mod = s.mod := rfl
@[simp] theorem State.dropHead_agenda (s : State) (n : Nat) : (s.dropHead n).agenda = s.agenda := rfl
@[simp] theorem State.dropHead_fresh (s : State) (n : Nat) : (s.dropHead n).fresh = s.fresh := rfl

@[simp] theorem State.emptyQ_cur (s : State) (n : Nat) : (s.emptyQ n).cur = s.cur := rfl
@[simp] theorem State.emptyQ_cores (s : State) (n : Nat) : (s.emptyQ n).cores = s.cores := rfl
@[simp] theorem State.emptyQ_st (s : State) (n : Nat) : (s.emptyQ n).st = s.st := rfl
@[simp] theorem State.emptyQ_sync (s : State) (n : Nat) : (s.emptyQ n).sync = s.sync := rfl
@[simp] theorem State.emptyQ_eng (s : State) (n : Nat) : (s.emptyQ n).eng = s.eng := rfl
@[simp] theorem State.emptyQ_sched (s : State) (n : Nat) : (s.emptyQ n).sched = s.sched := rfl
@[simp] theorem State.emptyQ_peers (s : State) (n : Nat) : (s.emptyQ n).peers = s.peers := rfl
@[simp] theorem State.emptyQ_mod (s : State) (n : Nat) : (s.emptyQ n).mod = s.mod := rfl
@[simp] theorem State.emptyQ_agenda (s : State) (n : Nat) : (s.emptyQ n).agenda = s.agenda := rfl
@[simp] theorem State.emptyQ_fresh (s : State) (n : Nat) : (s.emptyQ n).fresh = s.fresh := rfl

@[simp] theorem State.holdOperand_cur (s : State) (h : BitVec 1) (e : Lanes) : (s.holdOperand h e).cur = s.cur := by
  unfold State.holdOperand; split <;> rfl
@[simp] theorem State.holdOperand_cores (s : State) (h : BitVec 1) (e : Lanes) : (s.holdOperand h e).cores = s.cores := by
  unfold State.holdOperand; split <;> rfl
@[simp] theorem State.holdOperand_st (s : State) (h : BitVec 1) (e : Lanes) : (s.holdOperand h e).st = s.st := by
  unfold State.holdOperand; split <;> rfl
@[simp] theorem State.holdOperand_sync (s : State) (h : BitVec 1) (e : Lanes) : (s.holdOperand h e).sync = s.sync := by
  unfold State.holdOperand; split <;> rfl
@[simp] theorem State.holdOperand_eng (s : State) (h : BitVec 1) (e : Lanes) : (s.holdOperand h e).eng = s.eng := by
  unfold State.holdOperand; split <;> rfl
@[simp] theorem State.holdOperand_sched (s : State) (h : BitVec 1) (e : Lanes) : (s.holdOperand h e).sched = s.sched := by
  unfold State.holdOperand; split <;> rfl
@[simp] theorem State.holdOperand_peers (s : State) (h : BitVec 1) (e : Lanes) : (s.holdOperand h e).peers = s.peers := by
  unfold State.holdOperand; split <;> rfl
@[simp] theorem State.holdOperand_mod (s : State) (h : BitVec 1) (e : Lanes) : (s.holdOperand h e).mod = s.mod := by
  unfold State.holdOperand; split <;> rfl
@[simp] theorem State.holdOperand_agenda (s : State) (h : BitVec 1) (e : Lanes) : (s.holdOperand h e).agenda = s.agenda := by
  unfold State.holdOperand; split <;> rfl
@[simp] theorem State.holdOperand_fresh (s : State) (h : BitVec 1) (e : Lanes) : (s.holdOperand h e).fresh = s.fresh := by
  unfold State.holdOperand; split <;> rfl

@[simp] theorem State.running_cur (s : State) : s.running.cur = s.cur := by
  unfold State.running; split <;> rfl
@[simp] theorem State.running_cores (s : State) : s.running.cores = s.cores := by
  unfold State.running; split <;> rfl
@[simp] theorem State.running_st (s : State) : s.running.st = s.st := by
  unfold State.running; split <;> rfl
@[simp] theorem State.running_sync (s : State) : s.running.sync = s.sync := by
  unfold State.running; split <;> rfl
@[simp] theorem State.running_eng (s : State) : s.running.eng = s.eng := by
  unfold State.running; split <;> rfl
@[simp] theorem State.running_sched (s : State) : s.running.sched = s.sched := by
  unfold State.running; split <;> rfl
@[simp] theorem State.running_peers (s : State) : s.running.peers = s.peers := by
  unfold State.running; split <;> rfl
@[simp] theorem State.running_mod (s : State) : s.running.mod = s.mod := by
  unfold State.running; split <;> rfl
@[simp] theorem State.running_agenda (s : State) : s.running.agenda = s.agenda := by
  unfold State.running; split <;> rfl
@[simp] theorem State.running_fresh (s : State) : s.running.fresh = s.fresh := by
  unfold State.running; split <;> rfl

@[simp] theorem State.block_cur (s : State) : s.block.cur = s.cur := rfl
@[simp] theorem State.block_cores (s : State) : s.block.cores = s.cores := rfl
@[simp] theorem State.block_st (s : State) : s.block.st = s.st := rfl
@[simp] theorem State.block_sync (s : State) : s.block.sync = s.sync := rfl
@[simp] theorem State.block_eng (s : State) : s.block.eng = s.eng := rfl
@[simp] theorem State.block_sched (s : State) : s.block.sched = s.sched := rfl
@[simp] theorem State.block_peers (s : State) : s.block.peers = s.peers := rfl
@[simp] theorem State.block_mod (s : State) : s.block.mod = s.mod := rfl
@[simp] theorem State.block_agenda (s : State) : s.block.agenda = s.agenda := rfl
@[simp] theorem State.block_fresh (s : State) : s.block.fresh = s.fresh := rfl

@[simp] theorem State.goto_cur (s : State) (a : W64) : (s.goto a).cur = s.cur := rfl
@[simp] theorem State.goto_cores (s : State) (a : W64) : (s.goto a).cores = s.cores := rfl
@[simp] theorem State.goto_st (s : State) (a : W64) : (s.goto a).st = s.st := rfl
@[simp] theorem State.goto_sync (s : State) (a : W64) : (s.goto a).sync = s.sync := rfl
@[simp] theorem State.goto_eng (s : State) (a : W64) : (s.goto a).eng = s.eng := rfl
@[simp] theorem State.goto_sched (s : State) (a : W64) : (s.goto a).sched = s.sched := rfl
@[simp] theorem State.goto_peers (s : State) (a : W64) : (s.goto a).peers = s.peers := rfl
@[simp] theorem State.goto_mod (s : State) (a : W64) : (s.goto a).mod = s.mod := rfl
@[simp] theorem State.goto_agenda (s : State) (a : W64) : (s.goto a).agenda = s.agenda := rfl
@[simp] theorem State.goto_fresh (s : State) (a : W64) : (s.goto a).fresh = s.fresh := rfl

@[simp] theorem State.drawn_core (s : State) : s.drawn.core = s.core := rfl
@[simp] theorem State.drawn_cur (s : State) : s.drawn.cur = s.cur := rfl
@[simp] theorem State.drawn_cores (s : State) : s.drawn.cores = s.cores := rfl
@[simp] theorem State.drawn_st (s : State) : s.drawn.st = s.st := rfl
@[simp] theorem State.drawn_sync (s : State) : s.drawn.sync = s.sync := rfl
@[simp] theorem State.drawn_eng (s : State) : s.drawn.eng = s.eng := rfl
@[simp] theorem State.drawn_sched (s : State) : s.drawn.sched = s.sched := rfl
@[simp] theorem State.drawn_peers (s : State) : s.drawn.peers = s.peers := rfl
@[simp] theorem State.drawn_mod (s : State) : s.drawn.mod = s.mod := rfl
@[simp] theorem State.drawn_agenda (s : State) : s.drawn.agenda = s.agenda := rfl

@[simp] theorem State.setContext_core (s : State) (a : Nat) (c : Context) : (s.setContext a c).core = s.core := rfl
@[simp] theorem State.setContext_cur (s : State) (a : Nat) (c : Context) : (s.setContext a c).cur = s.cur := rfl
@[simp] theorem State.setContext_cores (s : State) (a : Nat) (c : Context) : (s.setContext a c).cores = s.cores := rfl
@[simp] theorem State.setContext_st (s : State) (a : Nat) (c : Context) : (s.setContext a c).st = s.st := rfl
@[simp] theorem State.setContext_sync (s : State) (a : Nat) (c : Context) : (s.setContext a c).sync = s.sync := rfl
@[simp] theorem State.setContext_eng (s : State) (a : Nat) (c : Context) : (s.setContext a c).eng = s.eng := rfl
@[simp] theorem State.setContext_peers (s : State) (a : Nat) (c : Context) : (s.setContext a c).peers = s.peers := rfl
@[simp] theorem State.setContext_mod (s : State) (a : Nat) (c : Context) : (s.setContext a c).mod = s.mod := rfl
@[simp] theorem State.setContext_agenda (s : State) (a : Nat) (c : Context) : (s.setContext a c).agenda = s.agenda := rfl
@[simp] theorem State.setContext_fresh (s : State) (a : Nat) (c : Context) : (s.setContext a c).fresh = s.fresh := rfl

@[simp] theorem State.onLaunch_core (s : State) (id : Nat) (f : Launch → Launch) : (s.onLaunch id f).core = s.core := rfl
@[simp] theorem State.onLaunch_cur (s : State) (id : Nat) (f : Launch → Launch) : (s.onLaunch id f).cur = s.cur := rfl
@[simp] theorem State.onLaunch_cores (s : State) (id : Nat) (f : Launch → Launch) : (s.onLaunch id f).cores = s.cores := rfl
@[simp] theorem State.onLaunch_st (s : State) (id : Nat) (f : Launch → Launch) : (s.onLaunch id f).st = s.st := rfl
@[simp] theorem State.onLaunch_sync (s : State) (id : Nat) (f : Launch → Launch) : (s.onLaunch id f).sync = s.sync := rfl
@[simp] theorem State.onLaunch_eng (s : State) (id : Nat) (f : Launch → Launch) : (s.onLaunch id f).eng = s.eng := rfl
@[simp] theorem State.onLaunch_peers (s : State) (id : Nat) (f : Launch → Launch) : (s.onLaunch id f).peers = s.peers := rfl
@[simp] theorem State.onLaunch_mod (s : State) (id : Nat) (f : Launch → Launch) : (s.onLaunch id f).mod = s.mod := rfl
@[simp] theorem State.onLaunch_agenda (s : State) (id : Nat) (f : Launch → Launch) : (s.onLaunch id f).agenda = s.agenda := rfl
@[simp] theorem State.onLaunch_fresh (s : State) (id : Nat) (f : Launch → Launch) : (s.onLaunch id f).fresh = s.fresh := rfl

@[simp] theorem State.send_core (s : State) (m : Sent) : (s.send m).core = s.core := rfl
@[simp] theorem State.send_cur (s : State) (m : Sent) : (s.send m).cur = s.cur := rfl
@[simp] theorem State.send_cores (s : State) (m : Sent) : (s.send m).cores = s.cores := rfl
@[simp] theorem State.send_st (s : State) (m : Sent) : (s.send m).st = s.st := rfl
@[simp] theorem State.send_sync (s : State) (m : Sent) : (s.send m).sync = s.sync := rfl
@[simp] theorem State.send_eng (s : State) (m : Sent) : (s.send m).eng = s.eng := rfl
@[simp] theorem State.send_sched (s : State) (m : Sent) : (s.send m).sched = s.sched := rfl
@[simp] theorem State.send_mod (s : State) (m : Sent) : (s.send m).mod = s.mod := rfl
@[simp] theorem State.send_agenda (s : State) (m : Sent) : (s.send m).agenda = s.agenda := rfl
@[simp] theorem State.send_fresh (s : State) (m : Sent) : (s.send m).fresh = s.fresh := rfl

@[simp] theorem State.setLine_core (s : State) (raw : Nat) (m : LineMeta) : (s.setLine raw m).core = s.core := rfl
@[simp] theorem State.setLine_cur (s : State) (raw : Nat) (m : LineMeta) : (s.setLine raw m).cur = s.cur := rfl
@[simp] theorem State.setLine_cores (s : State) (raw : Nat) (m : LineMeta) : (s.setLine raw m).cores = s.cores := rfl
@[simp] theorem State.setLine_sync (s : State) (raw : Nat) (m : LineMeta) : (s.setLine raw m).sync = s.sync := rfl
@[simp] theorem State.setLine_eng (s : State) (raw : Nat) (m : LineMeta) : (s.setLine raw m).eng = s.eng := rfl
@[simp] theorem State.setLine_sched (s : State) (raw : Nat) (m : LineMeta) : (s.setLine raw m).sched = s.sched := rfl
@[simp] theorem State.setLine_peers (s : State) (raw : Nat) (m : LineMeta) : (s.setLine raw m).peers = s.peers := rfl
@[simp] theorem State.setLine_mod (s : State) (raw : Nat) (m : LineMeta) : (s.setLine raw m).mod = s.mod := rfl
@[simp] theorem State.setLine_agenda (s : State) (raw : Nat) (m : LineMeta) : (s.setLine raw m).agenda = s.agenda := rfl
@[simp] theorem State.setLine_fresh (s : State) (raw : Nat) (m : LineMeta) : (s.setLine raw m).fresh = s.fresh := rfl

@[simp] theorem State.setWatch_core (s : State) (l : Nat) (w : Watch) : (s.setWatch l w).core = s.core := rfl
@[simp] theorem State.setWatch_cur (s : State) (l : Nat) (w : Watch) : (s.setWatch l w).cur = s.cur := rfl
@[simp] theorem State.setWatch_cores (s : State) (l : Nat) (w : Watch) : (s.setWatch l w).cores = s.cores := rfl
@[simp] theorem State.setWatch_sync (s : State) (l : Nat) (w : Watch) : (s.setWatch l w).sync = s.sync := rfl
@[simp] theorem State.setWatch_eng (s : State) (l : Nat) (w : Watch) : (s.setWatch l w).eng = s.eng := rfl
@[simp] theorem State.setWatch_sched (s : State) (l : Nat) (w : Watch) : (s.setWatch l w).sched = s.sched := rfl
@[simp] theorem State.setWatch_peers (s : State) (l : Nat) (w : Watch) : (s.setWatch l w).peers = s.peers := rfl
@[simp] theorem State.setWatch_mod (s : State) (l : Nat) (w : Watch) : (s.setWatch l w).mod = s.mod := rfl
@[simp] theorem State.setWatch_agenda (s : State) (l : Nat) (w : Watch) : (s.setWatch l w).agenda = s.agenda := rfl
@[simp] theorem State.setWatch_fresh (s : State) (l : Nat) (w : Watch) : (s.setWatch l w).fresh = s.fresh := rfl

@[simp] theorem State.setFull_core (s : State) (g : Nat) : (s.setFull g).core = s.core := rfl
@[simp] theorem State.setFull_cur (s : State) (g : Nat) : (s.setFull g).cur = s.cur := rfl
@[simp] theorem State.setFull_cores (s : State) (g : Nat) : (s.setFull g).cores = s.cores := rfl
@[simp] theorem State.setFull_sync (s : State) (g : Nat) : (s.setFull g).sync = s.sync := rfl
@[simp] theorem State.setFull_eng (s : State) (g : Nat) : (s.setFull g).eng = s.eng := rfl
@[simp] theorem State.setFull_sched (s : State) (g : Nat) : (s.setFull g).sched = s.sched := rfl
@[simp] theorem State.setFull_peers (s : State) (g : Nat) : (s.setFull g).peers = s.peers := rfl
@[simp] theorem State.setFull_mod (s : State) (g : Nat) : (s.setFull g).mod = s.mod := rfl
@[simp] theorem State.setFull_agenda (s : State) (g : Nat) : (s.setFull g).agenda = s.agenda := rfl
@[simp] theorem State.setFull_fresh (s : State) (g : Nat) : (s.setFull g).fresh = s.fresh := rfl

@[simp] theorem State.setEmpty_core (s : State) (g : Nat) : (s.setEmpty g).core = s.core := rfl
@[simp] theorem State.setEmpty_cur (s : State) (g : Nat) : (s.setEmpty g).cur = s.cur := rfl
@[simp] theorem State.setEmpty_cores (s : State) (g : Nat) : (s.setEmpty g).cores = s.cores := rfl
@[simp] theorem State.setEmpty_sync (s : State) (g : Nat) : (s.setEmpty g).sync = s.sync := rfl
@[simp] theorem State.setEmpty_eng (s : State) (g : Nat) : (s.setEmpty g).eng = s.eng := rfl
@[simp] theorem State.setEmpty_sched (s : State) (g : Nat) : (s.setEmpty g).sched = s.sched := rfl
@[simp] theorem State.setEmpty_peers (s : State) (g : Nat) : (s.setEmpty g).peers = s.peers := rfl
@[simp] theorem State.setEmpty_mod (s : State) (g : Nat) : (s.setEmpty g).mod = s.mod := rfl
@[simp] theorem State.setEmpty_agenda (s : State) (g : Nat) : (s.setEmpty g).agenda = s.agenda := rfl
@[simp] theorem State.setEmpty_fresh (s : State) (g : Nat) : (s.setEmpty g).fresh = s.fresh := rfl

@[simp] theorem State.claim_core (s : State) (g : Nat) : (s.claim g).core = s.core := rfl
@[simp] theorem State.claim_cur (s : State) (g : Nat) : (s.claim g).cur = s.cur := rfl
@[simp] theorem State.claim_cores (s : State) (g : Nat) : (s.claim g).cores = s.cores := rfl
@[simp] theorem State.claim_sync (s : State) (g : Nat) : (s.claim g).sync = s.sync := rfl
@[simp] theorem State.claim_eng (s : State) (g : Nat) : (s.claim g).eng = s.eng := rfl
@[simp] theorem State.claim_sched (s : State) (g : Nat) : (s.claim g).sched = s.sched := rfl
@[simp] theorem State.claim_peers (s : State) (g : Nat) : (s.claim g).peers = s.peers := rfl
@[simp] theorem State.claim_mod (s : State) (g : Nat) : (s.claim g).mod = s.mod := rfl
@[simp] theorem State.claim_agenda (s : State) (g : Nat) : (s.claim g).agenda = s.agenda := rfl
@[simp] theorem State.claim_fresh (s : State) (g : Nat) : (s.claim g).fresh = s.fresh := rfl

@[simp] theorem State.clearFlaw_core (s : State) (w : Nat) : (s.clearFlaw w).core = s.core := rfl
@[simp] theorem State.clearFlaw_cur (s : State) (w : Nat) : (s.clearFlaw w).cur = s.cur := rfl
@[simp] theorem State.clearFlaw_cores (s : State) (w : Nat) : (s.clearFlaw w).cores = s.cores := rfl
@[simp] theorem State.clearFlaw_sync (s : State) (w : Nat) : (s.clearFlaw w).sync = s.sync := rfl
@[simp] theorem State.clearFlaw_eng (s : State) (w : Nat) : (s.clearFlaw w).eng = s.eng := rfl
@[simp] theorem State.clearFlaw_sched (s : State) (w : Nat) : (s.clearFlaw w).sched = s.sched := rfl
@[simp] theorem State.clearFlaw_peers (s : State) (w : Nat) : (s.clearFlaw w).peers = s.peers := rfl
@[simp] theorem State.clearFlaw_mod (s : State) (w : Nat) : (s.clearFlaw w).mod = s.mod := rfl
@[simp] theorem State.clearFlaw_agenda (s : State) (w : Nat) : (s.clearFlaw w).agenda = s.agenda := rfl
@[simp] theorem State.clearFlaw_fresh (s : State) (w : Nat) : (s.clearFlaw w).fresh = s.fresh := rfl

@[simp] theorem State.markPoison_core (s : State) (raw : Nat) : (s.markPoison raw).core = s.core := by
  simp only [State.markPoison]; (try split) <;> simp
@[simp] theorem State.markPoison_cur (s : State) (raw : Nat) : (s.markPoison raw).cur = s.cur := by
  simp only [State.markPoison]; (try split) <;> simp
@[simp] theorem State.markPoison_cores (s : State) (raw : Nat) : (s.markPoison raw).cores = s.cores := by
  simp only [State.markPoison]; (try split) <;> simp
@[simp] theorem State.markPoison_sync (s : State) (raw : Nat) : (s.markPoison raw).sync = s.sync := by
  simp only [State.markPoison]; (try split) <;> simp
@[simp] theorem State.markPoison_eng (s : State) (raw : Nat) : (s.markPoison raw).eng = s.eng := by
  simp only [State.markPoison]; (try split) <;> simp
@[simp] theorem State.markPoison_sched (s : State) (raw : Nat) : (s.markPoison raw).sched = s.sched := by
  simp only [State.markPoison]; (try split) <;> simp
@[simp] theorem State.markPoison_peers (s : State) (raw : Nat) : (s.markPoison raw).peers = s.peers := by
  simp only [State.markPoison]; (try split) <;> simp
@[simp] theorem State.markPoison_mod (s : State) (raw : Nat) : (s.markPoison raw).mod = s.mod := by
  simp only [State.markPoison]; (try split) <;> simp
@[simp] theorem State.markPoison_agenda (s : State) (raw : Nat) : (s.markPoison raw).agenda = s.agenda := by
  simp only [State.markPoison]; (try split) <;> simp
@[simp] theorem State.markPoison_fresh (s : State) (raw : Nat) : (s.markPoison raw).fresh = s.fresh := by
  simp only [State.markPoison]; (try split) <;> simp

@[simp] theorem State.unwatch_core (s : State) (n l : Nat) : (s.unwatch n l).core = s.core := rfl
@[simp] theorem State.unwatch_cur (s : State) (n l : Nat) : (s.unwatch n l).cur = s.cur := rfl
@[simp] theorem State.unwatch_cores (s : State) (n l : Nat) : (s.unwatch n l).cores = s.cores := rfl
@[simp] theorem State.unwatch_sync (s : State) (n l : Nat) : (s.unwatch n l).sync = s.sync := rfl
@[simp] theorem State.unwatch_eng (s : State) (n l : Nat) : (s.unwatch n l).eng = s.eng := rfl
@[simp] theorem State.unwatch_sched (s : State) (n l : Nat) : (s.unwatch n l).sched = s.sched := rfl
@[simp] theorem State.unwatch_peers (s : State) (n l : Nat) : (s.unwatch n l).peers = s.peers := rfl
@[simp] theorem State.unwatch_mod (s : State) (n l : Nat) : (s.unwatch n l).mod = s.mod := rfl
@[simp] theorem State.unwatch_agenda (s : State) (n l : Nat) : (s.unwatch n l).agenda = s.agenda := rfl
@[simp] theorem State.unwatch_fresh (s : State) (n l : Nat) : (s.unwatch n l).fresh = s.fresh := rfl

@[simp] theorem State.setDaily_core (s : State) (d v w : Nat) (x : W64) : (s.setDaily d v w x).core = s.core := rfl
@[simp] theorem State.setDaily_cur (s : State) (d v w : Nat) (x : W64) : (s.setDaily d v w x).cur = s.cur := rfl
@[simp] theorem State.setDaily_cores (s : State) (d v w : Nat) (x : W64) : (s.setDaily d v w x).cores = s.cores := rfl
@[simp] theorem State.setDaily_st (s : State) (d v w : Nat) (x : W64) : (s.setDaily d v w x).st = s.st := rfl
@[simp] theorem State.setDaily_sync (s : State) (d v w : Nat) (x : W64) : (s.setDaily d v w x).sync = s.sync := rfl
@[simp] theorem State.setDaily_eng (s : State) (d v w : Nat) (x : W64) : (s.setDaily d v w x).eng = s.eng := rfl
@[simp] theorem State.setDaily_sched (s : State) (d v w : Nat) (x : W64) : (s.setDaily d v w x).sched = s.sched := rfl
@[simp] theorem State.setDaily_peers (s : State) (d v w : Nat) (x : W64) : (s.setDaily d v w x).peers = s.peers := rfl
@[simp] theorem State.setDaily_agenda (s : State) (d v w : Nat) (x : W64) : (s.setDaily d v w x).agenda = s.agenda := rfl
@[simp] theorem State.setDaily_fresh (s : State) (d v w : Nat) (x : W64) : (s.setDaily d v w x).fresh = s.fresh := rfl

@[simp] theorem State.countDaily_core (s : State) (raw w : Nat) : (s.countDaily raw w).core = s.core := by
  simp only [State.countDaily]; (try split) <;> simp
@[simp] theorem State.countDaily_cur (s : State) (raw w : Nat) : (s.countDaily raw w).cur = s.cur := by
  simp only [State.countDaily]; (try split) <;> simp
@[simp] theorem State.countDaily_cores (s : State) (raw w : Nat) : (s.countDaily raw w).cores = s.cores := by
  simp only [State.countDaily]; (try split) <;> simp
@[simp] theorem State.countDaily_st (s : State) (raw w : Nat) : (s.countDaily raw w).st = s.st := by
  simp only [State.countDaily]; (try split) <;> simp
@[simp] theorem State.countDaily_sync (s : State) (raw w : Nat) : (s.countDaily raw w).sync = s.sync := by
  simp only [State.countDaily]; (try split) <;> simp
@[simp] theorem State.countDaily_eng (s : State) (raw w : Nat) : (s.countDaily raw w).eng = s.eng := by
  simp only [State.countDaily]; (try split) <;> simp
@[simp] theorem State.countDaily_sched (s : State) (raw w : Nat) : (s.countDaily raw w).sched = s.sched := by
  simp only [State.countDaily]; (try split) <;> simp
@[simp] theorem State.countDaily_peers (s : State) (raw w : Nat) : (s.countDaily raw w).peers = s.peers := by
  simp only [State.countDaily]; (try split) <;> simp
@[simp] theorem State.countDaily_agenda (s : State) (raw w : Nat) : (s.countDaily raw w).agenda = s.agenda := by
  simp only [State.countDaily]; (try split) <;> simp
@[simp] theorem State.countDaily_fresh (s : State) (raw w : Nat) : (s.countDaily raw w).fresh = s.fresh := by
  simp only [State.countDaily]; (try split) <;> simp

@[simp] theorem State.countEvent_core (s : State) (raw kind : Nat) : (s.countEvent raw kind).core = s.core := by
  simp only [State.countEvent]; (try split) <;> simp
@[simp] theorem State.countEvent_cur (s : State) (raw kind : Nat) : (s.countEvent raw kind).cur = s.cur := by
  simp only [State.countEvent]; (try split) <;> simp
@[simp] theorem State.countEvent_cores (s : State) (raw kind : Nat) : (s.countEvent raw kind).cores = s.cores := by
  simp only [State.countEvent]; (try split) <;> simp
@[simp] theorem State.countEvent_st (s : State) (raw kind : Nat) : (s.countEvent raw kind).st = s.st := by
  simp only [State.countEvent]; (try split) <;> simp
@[simp] theorem State.countEvent_sync (s : State) (raw kind : Nat) : (s.countEvent raw kind).sync = s.sync := by
  simp only [State.countEvent]; (try split) <;> simp
@[simp] theorem State.countEvent_eng (s : State) (raw kind : Nat) : (s.countEvent raw kind).eng = s.eng := by
  simp only [State.countEvent]; (try split) <;> simp
@[simp] theorem State.countEvent_sched (s : State) (raw kind : Nat) : (s.countEvent raw kind).sched = s.sched := by
  simp only [State.countEvent]; (try split) <;> simp
@[simp] theorem State.countEvent_peers (s : State) (raw kind : Nat) : (s.countEvent raw kind).peers = s.peers := by
  simp only [State.countEvent]; (try split) <;> simp
@[simp] theorem State.countEvent_agenda (s : State) (raw kind : Nat) : (s.countEvent raw kind).agenda = s.agenda := by
  simp only [State.countEvent]; (try split) <;> simp
@[simp] theorem State.countEvent_fresh (s : State) (raw kind : Nat) : (s.countEvent raw kind).fresh = s.fresh := by
  simp only [State.countEvent]; (try split) <;> simp

@[simp] theorem State.setDie_core (s : State) (d : Nat) (x : Die) : (s.setDie d x).core = s.core := rfl
@[simp] theorem State.setDie_cur (s : State) (d : Nat) (x : Die) : (s.setDie d x).cur = s.cur := rfl
@[simp] theorem State.setDie_cores (s : State) (d : Nat) (x : Die) : (s.setDie d x).cores = s.cores := rfl
@[simp] theorem State.setDie_st (s : State) (d : Nat) (x : Die) : (s.setDie d x).st = s.st := rfl
@[simp] theorem State.setDie_sync (s : State) (d : Nat) (x : Die) : (s.setDie d x).sync = s.sync := rfl
@[simp] theorem State.setDie_eng (s : State) (d : Nat) (x : Die) : (s.setDie d x).eng = s.eng := rfl
@[simp] theorem State.setDie_sched (s : State) (d : Nat) (x : Die) : (s.setDie d x).sched = s.sched := rfl
@[simp] theorem State.setDie_peers (s : State) (d : Nat) (x : Die) : (s.setDie d x).peers = s.peers := rfl
@[simp] theorem State.setDie_agenda (s : State) (d : Nat) (x : Die) : (s.setDie d x).agenda = s.agenda := rfl
@[simp] theorem State.setDie_fresh (s : State) (d : Nat) (x : Die) : (s.setDie d x).fresh = s.fresh := rfl

@[simp] theorem State.setPair_core (s : State) (k : Nat) (p : Pair) : (s.setPair k p).core = s.core := rfl
@[simp] theorem State.setPair_cur (s : State) (k : Nat) (p : Pair) : (s.setPair k p).cur = s.cur := rfl
@[simp] theorem State.setPair_cores (s : State) (k : Nat) (p : Pair) : (s.setPair k p).cores = s.cores := rfl
@[simp] theorem State.setPair_st (s : State) (k : Nat) (p : Pair) : (s.setPair k p).st = s.st := rfl
@[simp] theorem State.setPair_sync (s : State) (k : Nat) (p : Pair) : (s.setPair k p).sync = s.sync := rfl
@[simp] theorem State.setPair_eng (s : State) (k : Nat) (p : Pair) : (s.setPair k p).eng = s.eng := rfl
@[simp] theorem State.setPair_sched (s : State) (k : Nat) (p : Pair) : (s.setPair k p).sched = s.sched := rfl
@[simp] theorem State.setPair_peers (s : State) (k : Nat) (p : Pair) : (s.setPair k p).peers = s.peers := rfl
@[simp] theorem State.setPair_agenda (s : State) (k : Nat) (p : Pair) : (s.setPair k p).agenda = s.agenda := rfl
@[simp] theorem State.setPair_fresh (s : State) (k : Nat) (p : Pair) : (s.setPair k p).fresh = s.fresh := rfl

@[simp] theorem State.wroteWords_cur (s : State) (ws : Words) : (s.wroteWords ws).cur = s.cur := rfl
@[simp] theorem State.wroteWords_cores (s : State) (ws : Words) : (s.wroteWords ws).cores = s.cores := rfl
@[simp] theorem State.wroteWords_st (s : State) (ws : Words) : (s.wroteWords ws).st = s.st := rfl
@[simp] theorem State.wroteWords_sync (s : State) (ws : Words) : (s.wroteWords ws).sync = s.sync := rfl
@[simp] theorem State.wroteWords_eng (s : State) (ws : Words) : (s.wroteWords ws).eng = s.eng := rfl
@[simp] theorem State.wroteWords_sched (s : State) (ws : Words) : (s.wroteWords ws).sched = s.sched := rfl
@[simp] theorem State.wroteWords_peers (s : State) (ws : Words) : (s.wroteWords ws).peers = s.peers := rfl
@[simp] theorem State.wroteWords_mod (s : State) (ws : Words) : (s.wroteWords ws).mod = s.mod := rfl
@[simp] theorem State.wroteWords_agenda (s : State) (ws : Words) : (s.wroteWords ws).agenda = s.agenda := rfl
@[simp] theorem State.wroteWords_fresh (s : State) (ws : Words) : (s.wroteWords ws).fresh = s.fresh := rfl

@[simp] theorem State.setLine_mem (s : State) (raw : Nat) (m : LineMeta) : (s.setLine raw m).st.mem = s.st.mem := rfl
@[simp] theorem State.setWatch_mem (s : State) (l : Nat) (w : Watch) : (s.setWatch l w).st.mem = s.st.mem := rfl
@[simp] theorem State.setFull_mem (s : State) (g : Nat) : (s.setFull g).st.mem = s.st.mem := rfl
@[simp] theorem State.setEmpty_mem (s : State) (g : Nat) : (s.setEmpty g).st.mem = s.st.mem := rfl
@[simp] theorem State.claim_mem (s : State) (g : Nat) : (s.claim g).st.mem = s.st.mem := rfl
@[simp] theorem State.clearFlaw_mem (s : State) (w : Nat) : (s.clearFlaw w).st.mem = s.st.mem := rfl
@[simp] theorem State.markPoison_mem (s : State) (raw : Nat) : (s.markPoison raw).st.mem = s.st.mem := by
  unfold State.markPoison; split <;> rfl
@[simp] theorem State.unwatch_mem (s : State) (n l : Nat) : (s.unwatch n l).st.mem = s.st.mem := rfl

@[simp] theorem State.setX_p (s : State) (n : BitVec 5) (v : W64) (k : BitVec 3) : (s.setX n v).p k = s.p k := by
  unfold State.setX; split <;> rfl
@[simp] theorem State.setX_v (s : State) (n : BitVec 5) (v : W64) (k : Nat) : (s.setX n v).v k = s.v k := by
  unfold State.setX; split <;> rfl
@[simp] theorem State.setX_q (s : State) (n : BitVec 5) (v : W64) (k : Nat) : (s.setX n v).q k = s.q k := by
  unfold State.setX; split <;> rfl
@[simp] theorem State.setX_m (s : State) (n : BitVec 5) (v : W64) (k : Nat) : (s.setX n v).m k = s.m k := by
  unfold State.setX; split <;> rfl
@[simp] theorem State.setX_o (s : State) (n : BitVec 5) (v : W64) (k : Nat) : (s.setX n v).o k = s.o k := by
  unfold State.setX; split <;> rfl
@[simp] theorem State.setX_sd (s : State) (n : BitVec 5) (v : W64) (k : Nat) : (s.setX n v).sd k = s.sd k := by
  unfold State.setX; split <;> rfl
@[simp] theorem State.setX_rows (s : State) (n : BitVec 5) (v : W64) (k : Nat) : (s.setX n v).rows k = s.rows k := by
  unfold State.setX; split <;> rfl
@[simp] theorem State.setX_zreg (s : State) (n : BitVec 5) (v : W64) (k : Nat) : (s.setX n v).zreg k = s.zreg k := by
  unfold State.setX; split <;> rfl
@[simp] theorem State.setX_guard (s : State) (n : BitVec 5) (v : W64) (k : BitVec 3) : (s.setX n v).guard k = s.guard k := by
  unfold State.setX; split <;> rfl

@[simp] theorem State.setP_x (s : State) (n : BitVec 3) (v : W64) (k : BitVec 5) : (s.setP n v).x k = s.x k := by
  unfold State.setP; split <;> rfl
@[simp] theorem State.setP_v (s : State) (n : BitVec 3) (v : W64) (k : Nat) : (s.setP n v).v k = s.v k := by
  unfold State.setP; split <;> rfl
@[simp] theorem State.setP_q (s : State) (n : BitVec 3) (v : W64) (k : Nat) : (s.setP n v).q k = s.q k := by
  unfold State.setP; split <;> rfl
@[simp] theorem State.setP_m (s : State) (n : BitVec 3) (v : W64) (k : Nat) : (s.setP n v).m k = s.m k := by
  unfold State.setP; split <;> rfl
@[simp] theorem State.setP_o (s : State) (n : BitVec 3) (v : W64) (k : Nat) : (s.setP n v).o k = s.o k := by
  unfold State.setP; split <;> rfl
@[simp] theorem State.setP_sd (s : State) (n : BitVec 3) (v : W64) (k : Nat) : (s.setP n v).sd k = s.sd k := by
  unfold State.setP; split <;> rfl
@[simp] theorem State.setP_rows (s : State) (n : BitVec 3) (v : W64) (k : Nat) : (s.setP n v).rows k = s.rows k := by
  unfold State.setP; split <;> rfl
@[simp] theorem State.setP_zreg (s : State) (n : BitVec 3) (v : W64) (k : Nat) : (s.setP n v).zreg k = s.zreg k := by
  unfold State.setP; split <;> rfl

@[simp] theorem State.setPLane0_x (s : State) (n : BitVec 3) (b : Bool) (k : BitVec 5) : (s.setPLane0 n b).x k = s.x k := by
  unfold State.setPLane0 State.setP; split <;> rfl
@[simp] theorem State.setPLane0_v (s : State) (n : BitVec 3) (b : Bool) (k : Nat) : (s.setPLane0 n b).v k = s.v k := by
  unfold State.setPLane0 State.setP; split <;> rfl
@[simp] theorem State.setPLane0_q (s : State) (n : BitVec 3) (b : Bool) (k : Nat) : (s.setPLane0 n b).q k = s.q k := by
  unfold State.setPLane0 State.setP; split <;> rfl
@[simp] theorem State.setPLane0_m (s : State) (n : BitVec 3) (b : Bool) (k : Nat) : (s.setPLane0 n b).m k = s.m k := by
  unfold State.setPLane0 State.setP; split <;> rfl
@[simp] theorem State.setPLane0_o (s : State) (n : BitVec 3) (b : Bool) (k : Nat) : (s.setPLane0 n b).o k = s.o k := by
  unfold State.setPLane0 State.setP; split <;> rfl
@[simp] theorem State.setPLane0_sd (s : State) (n : BitVec 3) (b : Bool) (k : Nat) : (s.setPLane0 n b).sd k = s.sd k := by
  unfold State.setPLane0 State.setP; split <;> rfl
@[simp] theorem State.setPLane0_rows (s : State) (n : BitVec 3) (b : Bool) (k : Nat) : (s.setPLane0 n b).rows k = s.rows k := by
  unfold State.setPLane0 State.setP; split <;> rfl
@[simp] theorem State.setPLane0_zreg (s : State) (n : BitVec 3) (b : Bool) (k : Nat) : (s.setPLane0 n b).zreg k = s.zreg k := by
  unfold State.setPLane0 State.setP; split <;> rfl

@[simp] theorem State.setV_x (s : State) (n : Nat) (a : Lanes) (k : BitVec 5) : (s.setV n a).x k = s.x k := rfl
@[simp] theorem State.setV_p (s : State) (n : Nat) (a : Lanes) (k : BitVec 3) : (s.setV n a).p k = s.p k := rfl
@[simp] theorem State.setV_q (s : State) (n : Nat) (a : Lanes) (k : Nat) : (s.setV n a).q k = s.q k := rfl
@[simp] theorem State.setV_m (s : State) (n : Nat) (a : Lanes) (k : Nat) : (s.setV n a).m k = s.m k := rfl
@[simp] theorem State.setV_o (s : State) (n : Nat) (a : Lanes) (k : Nat) : (s.setV n a).o k = s.o k := rfl
@[simp] theorem State.setV_sd (s : State) (n : Nat) (a : Lanes) (k : Nat) : (s.setV n a).sd k = s.sd k := rfl
@[simp] theorem State.setV_rows (s : State) (n : Nat) (a : Lanes) (k : Nat) : (s.setV n a).rows k = s.rows k := rfl
@[simp] theorem State.setV_zreg (s : State) (n : Nat) (a : Lanes) (k : Nat) : (s.setV n a).zreg k = s.zreg k := rfl
@[simp] theorem State.setV_guard (s : State) (n : Nat) (a : Lanes) (k : BitVec 3) : (s.setV n a).guard k = s.guard k := rfl

@[simp] theorem State.setM_x (s : State) (n : Nat) (a : Moment) (k : BitVec 5) : (s.setM n a).x k = s.x k := rfl
@[simp] theorem State.setM_p (s : State) (n : Nat) (a : Moment) (k : BitVec 3) : (s.setM n a).p k = s.p k := rfl
@[simp] theorem State.setM_v (s : State) (n : Nat) (a : Moment) (k : Nat) : (s.setM n a).v k = s.v k := rfl
@[simp] theorem State.setM_q (s : State) (n : Nat) (a : Moment) (k : Nat) : (s.setM n a).q k = s.q k := rfl
@[simp] theorem State.setM_o (s : State) (n : Nat) (a : Moment) (k : Nat) : (s.setM n a).o k = s.o k := rfl
@[simp] theorem State.setM_sd (s : State) (n : Nat) (a : Moment) (k : Nat) : (s.setM n a).sd k = s.sd k := rfl
@[simp] theorem State.setM_rows (s : State) (n : Nat) (a : Moment) (k : Nat) : (s.setM n a).rows k = s.rows k := rfl
@[simp] theorem State.setM_zreg (s : State) (n : Nat) (a : Moment) (k : Nat) : (s.setM n a).zreg k = s.zreg k := rfl
@[simp] theorem State.setM_guard (s : State) (n : Nat) (a : Moment) (k : BitVec 3) : (s.setM n a).guard k = s.guard k := rfl

@[simp] theorem State.setZrow_x (s : State) (z r : Nat) (a : Lanes) (k : BitVec 5) : (s.setZrow z r a).x k = s.x k := rfl
@[simp] theorem State.setZrow_p (s : State) (z r : Nat) (a : Lanes) (k : BitVec 3) : (s.setZrow z r a).p k = s.p k := rfl
@[simp] theorem State.setZrow_v (s : State) (z r : Nat) (a : Lanes) (k : Nat) : (s.setZrow z r a).v k = s.v k := rfl
@[simp] theorem State.setZrow_q (s : State) (z r : Nat) (a : Lanes) (k : Nat) : (s.setZrow z r a).q k = s.q k := rfl
@[simp] theorem State.setZrow_m (s : State) (z r : Nat) (a : Lanes) (k : Nat) : (s.setZrow z r a).m k = s.m k := rfl
@[simp] theorem State.setZrow_o (s : State) (z r : Nat) (a : Lanes) (k : Nat) : (s.setZrow z r a).o k = s.o k := rfl
@[simp] theorem State.setZrow_sd (s : State) (z r : Nat) (a : Lanes) (k : Nat) : (s.setZrow z r a).sd k = s.sd k := rfl
@[simp] theorem State.setZrow_rows (s : State) (z r : Nat) (a : Lanes) (k : Nat) : (s.setZrow z r a).rows k = s.rows k := rfl
@[simp] theorem State.setZrow_guard (s : State) (z r : Nat) (a : Lanes) (k : BitVec 3) : (s.setZrow z r a).guard k = s.guard k := rfl

@[simp] theorem State.setZ_x (s : State) (z : Nat) (a : Vector Lanes 64) (k : BitVec 5) : (s.setZ z a).x k = s.x k := rfl
@[simp] theorem State.setZ_p (s : State) (z : Nat) (a : Vector Lanes 64) (k : BitVec 3) : (s.setZ z a).p k = s.p k := rfl
@[simp] theorem State.setZ_v (s : State) (z : Nat) (a : Vector Lanes 64) (k : Nat) : (s.setZ z a).v k = s.v k := rfl
@[simp] theorem State.setZ_q (s : State) (z : Nat) (a : Vector Lanes 64) (k : Nat) : (s.setZ z a).q k = s.q k := rfl
@[simp] theorem State.setZ_m (s : State) (z : Nat) (a : Vector Lanes 64) (k : Nat) : (s.setZ z a).m k = s.m k := rfl
@[simp] theorem State.setZ_o (s : State) (z : Nat) (a : Vector Lanes 64) (k : Nat) : (s.setZ z a).o k = s.o k := rfl
@[simp] theorem State.setZ_sd (s : State) (z : Nat) (a : Vector Lanes 64) (k : Nat) : (s.setZ z a).sd k = s.sd k := rfl
@[simp] theorem State.setZ_rows (s : State) (z : Nat) (a : Vector Lanes 64) (k : Nat) : (s.setZ z a).rows k = s.rows k := rfl
@[simp] theorem State.setZ_guard (s : State) (z : Nat) (a : Vector Lanes 64) (k : BitVec 3) : (s.setZ z a).guard k = s.guard k := rfl

@[simp] theorem State.setO_x (s : State) (n : Nat) (r : Oreg) (k : BitVec 5) : (s.setO n r).x k = s.x k := rfl
@[simp] theorem State.setO_p (s : State) (n : Nat) (r : Oreg) (k : BitVec 3) : (s.setO n r).p k = s.p k := rfl
@[simp] theorem State.setO_v (s : State) (n : Nat) (r : Oreg) (k : Nat) : (s.setO n r).v k = s.v k := rfl
@[simp] theorem State.setO_q (s : State) (n : Nat) (r : Oreg) (k : Nat) : (s.setO n r).q k = s.q k := rfl
@[simp] theorem State.setO_m (s : State) (n : Nat) (r : Oreg) (k : Nat) : (s.setO n r).m k = s.m k := rfl
@[simp] theorem State.setO_sd (s : State) (n : Nat) (r : Oreg) (k : Nat) : (s.setO n r).sd k = s.sd k := rfl
@[simp] theorem State.setO_rows (s : State) (n : Nat) (r : Oreg) (k : Nat) : (s.setO n r).rows k = s.rows k := rfl
@[simp] theorem State.setO_zreg (s : State) (n : Nat) (r : Oreg) (k : Nat) : (s.setO n r).zreg k = s.zreg k := rfl
@[simp] theorem State.setO_guard (s : State) (n : Nat) (r : Oreg) (k : BitVec 3) : (s.setO n r).guard k = s.guard k := rfl

@[simp] theorem State.advance_x (s : State) (n : Nat) (k : BitVec 5) : (s.advance n).x k = s.x k := rfl
@[simp] theorem State.advance_p (s : State) (n : Nat) (k : BitVec 3) : (s.advance n).p k = s.p k := rfl
@[simp] theorem State.advance_v (s : State) (n : Nat) (k : Nat) : (s.advance n).v k = s.v k := rfl
@[simp] theorem State.advance_q (s : State) (n : Nat) (k : Nat) : (s.advance n).q k = s.q k := rfl
@[simp] theorem State.advance_m (s : State) (n : Nat) (k : Nat) : (s.advance n).m k = s.m k := rfl
@[simp] theorem State.advance_sd (s : State) (n : Nat) (k : Nat) : (s.advance n).sd k = s.sd k := rfl
@[simp] theorem State.advance_rows (s : State) (n : Nat) (k : Nat) : (s.advance n).rows k = s.rows k := rfl
@[simp] theorem State.advance_zreg (s : State) (n : Nat) (k : Nat) : (s.advance n).zreg k = s.zreg k := rfl
@[simp] theorem State.advance_guard (s : State) (n : Nat) (k : BitVec 3) : (s.advance n).guard k = s.guard k := rfl

@[simp] theorem State.setSd_x (s : State) (n : Nat) (d : Sd) (k : BitVec 5) : (s.setSd n d).x k = s.x k := rfl
@[simp] theorem State.setSd_p (s : State) (n : Nat) (d : Sd) (k : BitVec 3) : (s.setSd n d).p k = s.p k := rfl
@[simp] theorem State.setSd_v (s : State) (n : Nat) (d : Sd) (k : Nat) : (s.setSd n d).v k = s.v k := rfl
@[simp] theorem State.setSd_q (s : State) (n : Nat) (d : Sd) (k : Nat) : (s.setSd n d).q k = s.q k := rfl
@[simp] theorem State.setSd_m (s : State) (n : Nat) (d : Sd) (k : Nat) : (s.setSd n d).m k = s.m k := rfl
@[simp] theorem State.setSd_o (s : State) (n : Nat) (d : Sd) (k : Nat) : (s.setSd n d).o k = s.o k := rfl
@[simp] theorem State.setSd_rows (s : State) (n : Nat) (d : Sd) (k : Nat) : (s.setSd n d).rows k = s.rows k := rfl
@[simp] theorem State.setSd_zreg (s : State) (n : Nat) (d : Sd) (k : Nat) : (s.setSd n d).zreg k = s.zreg k := rfl
@[simp] theorem State.setSd_guard (s : State) (n : Nat) (d : Sd) (k : BitVec 3) : (s.setSd n d).guard k = s.guard k := rfl

@[simp] theorem State.setQ_x (s : State) (n : Nat) (es : List Lanes) (k : BitVec 5) : (s.setQ n es).x k = s.x k := rfl
@[simp] theorem State.setQ_p (s : State) (n : Nat) (es : List Lanes) (k : BitVec 3) : (s.setQ n es).p k = s.p k := rfl
@[simp] theorem State.setQ_v (s : State) (n : Nat) (es : List Lanes) (k : Nat) : (s.setQ n es).v k = s.v k := rfl
@[simp] theorem State.setQ_m (s : State) (n : Nat) (es : List Lanes) (k : Nat) : (s.setQ n es).m k = s.m k := rfl
@[simp] theorem State.setQ_o (s : State) (n : Nat) (es : List Lanes) (k : Nat) : (s.setQ n es).o k = s.o k := rfl
@[simp] theorem State.setQ_sd (s : State) (n : Nat) (es : List Lanes) (k : Nat) : (s.setQ n es).sd k = s.sd k := rfl
@[simp] theorem State.setQ_rows (s : State) (n : Nat) (es : List Lanes) (k : Nat) : (s.setQ n es).rows k = s.rows k := rfl
@[simp] theorem State.setQ_zreg (s : State) (n : Nat) (es : List Lanes) (k : Nat) : (s.setQ n es).zreg k = s.zreg k := rfl
@[simp] theorem State.setQ_guard (s : State) (n : Nat) (es : List Lanes) (k : BitVec 3) : (s.setQ n es).guard k = s.guard k := rfl

@[simp] theorem State.dropHead_x (s : State) (n : Nat) (k : BitVec 5) : (s.dropHead n).x k = s.x k := rfl
@[simp] theorem State.dropHead_p (s : State) (n : Nat) (k : BitVec 3) : (s.dropHead n).p k = s.p k := rfl
@[simp] theorem State.dropHead_v (s : State) (n : Nat) (k : Nat) : (s.dropHead n).v k = s.v k := rfl
@[simp] theorem State.dropHead_m (s : State) (n : Nat) (k : Nat) : (s.dropHead n).m k = s.m k := rfl
@[simp] theorem State.dropHead_o (s : State) (n : Nat) (k : Nat) : (s.dropHead n).o k = s.o k := rfl
@[simp] theorem State.dropHead_sd (s : State) (n : Nat) (k : Nat) : (s.dropHead n).sd k = s.sd k := rfl
@[simp] theorem State.dropHead_rows (s : State) (n : Nat) (k : Nat) : (s.dropHead n).rows k = s.rows k := rfl
@[simp] theorem State.dropHead_zreg (s : State) (n : Nat) (k : Nat) : (s.dropHead n).zreg k = s.zreg k := rfl
@[simp] theorem State.dropHead_guard (s : State) (n : Nat) (k : BitVec 3) : (s.dropHead n).guard k = s.guard k := rfl

@[simp] theorem State.emptyQ_x (s : State) (n : Nat) (k : BitVec 5) : (s.emptyQ n).x k = s.x k := rfl
@[simp] theorem State.emptyQ_p (s : State) (n : Nat) (k : BitVec 3) : (s.emptyQ n).p k = s.p k := rfl
@[simp] theorem State.emptyQ_v (s : State) (n : Nat) (k : Nat) : (s.emptyQ n).v k = s.v k := rfl
@[simp] theorem State.emptyQ_m (s : State) (n : Nat) (k : Nat) : (s.emptyQ n).m k = s.m k := rfl
@[simp] theorem State.emptyQ_o (s : State) (n : Nat) (k : Nat) : (s.emptyQ n).o k = s.o k := rfl
@[simp] theorem State.emptyQ_sd (s : State) (n : Nat) (k : Nat) : (s.emptyQ n).sd k = s.sd k := rfl
@[simp] theorem State.emptyQ_rows (s : State) (n : Nat) (k : Nat) : (s.emptyQ n).rows k = s.rows k := rfl
@[simp] theorem State.emptyQ_zreg (s : State) (n : Nat) (k : Nat) : (s.emptyQ n).zreg k = s.zreg k := rfl
@[simp] theorem State.emptyQ_guard (s : State) (n : Nat) (k : BitVec 3) : (s.emptyQ n).guard k = s.guard k := rfl

@[simp] theorem State.holdOperand_x (s : State) (h : BitVec 1) (e : Lanes) (k : BitVec 5) : (s.holdOperand h e).x k = s.x k := by
  unfold State.holdOperand; split <;> rfl
@[simp] theorem State.holdOperand_p (s : State) (h : BitVec 1) (e : Lanes) (k : BitVec 3) : (s.holdOperand h e).p k = s.p k := by
  unfold State.holdOperand; split <;> rfl
@[simp] theorem State.holdOperand_v (s : State) (h : BitVec 1) (e : Lanes) (k : Nat) : (s.holdOperand h e).v k = s.v k := by
  unfold State.holdOperand; split <;> rfl
@[simp] theorem State.holdOperand_q (s : State) (h : BitVec 1) (e : Lanes) (k : Nat) : (s.holdOperand h e).q k = s.q k := by
  unfold State.holdOperand; split <;> rfl
@[simp] theorem State.holdOperand_m (s : State) (h : BitVec 1) (e : Lanes) (k : Nat) : (s.holdOperand h e).m k = s.m k := by
  unfold State.holdOperand; split <;> rfl
@[simp] theorem State.holdOperand_o (s : State) (h : BitVec 1) (e : Lanes) (k : Nat) : (s.holdOperand h e).o k = s.o k := by
  unfold State.holdOperand; split <;> rfl
@[simp] theorem State.holdOperand_sd (s : State) (h : BitVec 1) (e : Lanes) (k : Nat) : (s.holdOperand h e).sd k = s.sd k := by
  unfold State.holdOperand; split <;> rfl
@[simp] theorem State.holdOperand_rows (s : State) (h : BitVec 1) (e : Lanes) (k : Nat) : (s.holdOperand h e).rows k = s.rows k := by
  unfold State.holdOperand; split <;> rfl
@[simp] theorem State.holdOperand_zreg (s : State) (h : BitVec 1) (e : Lanes) (k : Nat) : (s.holdOperand h e).zreg k = s.zreg k := by
  unfold State.holdOperand; split <;> rfl
@[simp] theorem State.holdOperand_guard (s : State) (h : BitVec 1) (e : Lanes) (k : BitVec 3) : (s.holdOperand h e).guard k = s.guard k := by
  unfold State.holdOperand; split <;> rfl

@[simp] theorem State.running_x (s : State)  (k : BitVec 5) : s.running.x k = s.x k := by
  unfold State.running; split <;> rfl
@[simp] theorem State.running_p (s : State)  (k : BitVec 3) : s.running.p k = s.p k := by
  unfold State.running; split <;> rfl
@[simp] theorem State.running_v (s : State)  (k : Nat) : s.running.v k = s.v k := by
  unfold State.running; split <;> rfl
@[simp] theorem State.running_q (s : State)  (k : Nat) : s.running.q k = s.q k := by
  unfold State.running; split <;> rfl
@[simp] theorem State.running_m (s : State)  (k : Nat) : s.running.m k = s.m k := by
  unfold State.running; split <;> rfl
@[simp] theorem State.running_o (s : State)  (k : Nat) : s.running.o k = s.o k := by
  unfold State.running; split <;> rfl
@[simp] theorem State.running_sd (s : State)  (k : Nat) : s.running.sd k = s.sd k := by
  unfold State.running; split <;> rfl
@[simp] theorem State.running_rows (s : State)  (k : Nat) : s.running.rows k = s.rows k := by
  unfold State.running; split <;> rfl
@[simp] theorem State.running_zreg (s : State)  (k : Nat) : s.running.zreg k = s.zreg k := by
  unfold State.running; split <;> rfl
@[simp] theorem State.running_guard (s : State)  (k : BitVec 3) : s.running.guard k = s.guard k := by
  unfold State.running; split <;> rfl

@[simp] theorem State.block_x (s : State)  (k : BitVec 5) : s.block.x k = s.x k := rfl
@[simp] theorem State.block_p (s : State)  (k : BitVec 3) : s.block.p k = s.p k := rfl
@[simp] theorem State.block_v (s : State)  (k : Nat) : s.block.v k = s.v k := rfl
@[simp] theorem State.block_q (s : State)  (k : Nat) : s.block.q k = s.q k := rfl
@[simp] theorem State.block_m (s : State)  (k : Nat) : s.block.m k = s.m k := rfl
@[simp] theorem State.block_o (s : State)  (k : Nat) : s.block.o k = s.o k := rfl
@[simp] theorem State.block_sd (s : State)  (k : Nat) : s.block.sd k = s.sd k := rfl
@[simp] theorem State.block_rows (s : State)  (k : Nat) : s.block.rows k = s.rows k := rfl
@[simp] theorem State.block_zreg (s : State)  (k : Nat) : s.block.zreg k = s.zreg k := rfl
@[simp] theorem State.block_guard (s : State)  (k : BitVec 3) : s.block.guard k = s.guard k := rfl

@[simp] theorem State.goto_x (s : State) (a : W64) (k : BitVec 5) : (s.goto a).x k = s.x k := rfl
@[simp] theorem State.goto_p (s : State) (a : W64) (k : BitVec 3) : (s.goto a).p k = s.p k := rfl
@[simp] theorem State.goto_v (s : State) (a : W64) (k : Nat) : (s.goto a).v k = s.v k := rfl
@[simp] theorem State.goto_q (s : State) (a : W64) (k : Nat) : (s.goto a).q k = s.q k := rfl
@[simp] theorem State.goto_m (s : State) (a : W64) (k : Nat) : (s.goto a).m k = s.m k := rfl
@[simp] theorem State.goto_o (s : State) (a : W64) (k : Nat) : (s.goto a).o k = s.o k := rfl
@[simp] theorem State.goto_sd (s : State) (a : W64) (k : Nat) : (s.goto a).sd k = s.sd k := rfl
@[simp] theorem State.goto_rows (s : State) (a : W64) (k : Nat) : (s.goto a).rows k = s.rows k := rfl
@[simp] theorem State.goto_zreg (s : State) (a : W64) (k : Nat) : (s.goto a).zreg k = s.zreg k := rfl
@[simp] theorem State.goto_guard (s : State) (a : W64) (k : BitVec 3) : (s.goto a).guard k = s.guard k := rfl

@[simp] theorem State.wroteWords_x (s : State) (ws : Words) (k : BitVec 5) : (s.wroteWords ws).x k = s.x k := rfl
@[simp] theorem State.wroteWords_p (s : State) (ws : Words) (k : BitVec 3) : (s.wroteWords ws).p k = s.p k := rfl
@[simp] theorem State.wroteWords_v (s : State) (ws : Words) (k : Nat) : (s.wroteWords ws).v k = s.v k := rfl
@[simp] theorem State.wroteWords_q (s : State) (ws : Words) (k : Nat) : (s.wroteWords ws).q k = s.q k := rfl
@[simp] theorem State.wroteWords_m (s : State) (ws : Words) (k : Nat) : (s.wroteWords ws).m k = s.m k := rfl
@[simp] theorem State.wroteWords_o (s : State) (ws : Words) (k : Nat) : (s.wroteWords ws).o k = s.o k := rfl
@[simp] theorem State.wroteWords_sd (s : State) (ws : Words) (k : Nat) : (s.wroteWords ws).sd k = s.sd k := rfl
@[simp] theorem State.wroteWords_rows (s : State) (ws : Words) (k : Nat) : (s.wroteWords ws).rows k = s.rows k := rfl
@[simp] theorem State.wroteWords_zreg (s : State) (ws : Words) (k : Nat) : (s.wroteWords ws).zreg k = s.zreg k := rfl
@[simp] theorem State.wroteWords_guard (s : State) (ws : Words) (k : BitVec 3) : (s.wroteWords ws).guard k = s.guard k := rfl

/-! Reading back. -/

@[simp] theorem State.x_zero (s : State) : s.x 0 = 0 := rfl

/-- A register reads what was written to it; x0 reads 0. -/
theorem State.x_setX (s : State) (n k : BitVec 5) (v : W64) :
    (s.setX n v).x k = if k = n ∧ n ≠ 0 then v else s.x k := by
  unfold State.x State.setX
  by_cases hk : k = 0
  · rw [if_pos hk, if_pos hk, if_neg]
    rintro ⟨rfl, h⟩
    exact h hk
  · rw [if_neg hk, if_neg hk]
    by_cases hn : n = 0
    · rw [if_pos hn, if_neg fun h => h.2 hn]
    · rw [if_neg hn]
      by_cases h : k = n
      · subst h
        rw [if_pos ⟨rfl, hn⟩]
        exact Vector.getElem_set_self ..
      · have h' : n.toNat ≠ k.toNat := fun e => h (BitVec.eq_of_toNat_eq e.symm)
        rw [if_neg fun e => h e.1]
        exact Vector.getElem_set_ne n.isLt k.isLt h'

@[simp] theorem State.p_zero (s : State) : s.p 0 = BitVec.allOnes 64 := rfl

/-- A guard register reads what was written to it; p0 reads all ones. -/
theorem State.p_setP (s : State) (n k : BitVec 3) (v : W64) :
    (s.setP n v).p k = if k = n ∧ n ≠ 0 then v else s.p k := by
  unfold State.p State.setP
  by_cases hk : k = 0
  · rw [if_pos hk, if_pos hk, if_neg]
    rintro ⟨rfl, h⟩
    exact h hk
  · rw [if_neg hk, if_neg hk]
    by_cases hn : n = 0
    · rw [if_pos hn, if_neg fun h => h.2 hn]
    · rw [if_neg hn]
      by_cases h : k = n
      · subst h
        rw [if_pos ⟨rfl, hn⟩]
        exact Vector.getElem_set_self ..
      · have h' : n.toNat ≠ k.toNat := fun e => h (BitVec.eq_of_toNat_eq e.symm)
        rw [if_neg fun e => h e.1]
        exact Vector.getElem_set_ne n.isLt k.isLt h'

/-- An entry of a vector after an entry has been written. -/
theorem getD_setIfInBounds {α : Type} {m : Nat} (x : Vector α m) (n k : Nat) (a d : α) (hn : n < m) :
    (x.setIfInBounds n a).getD k d = if k = n then a else x.getD k d := by
  rcases x with ⟨x, rfl⟩
  simp only [Vector.setIfInBounds, Vector.getD, Array.getD_eq_getD_getElem?, Array.getElem?_setIfInBounds]
  by_cases h : n = k
  · subst h; simp [hn]
  · simp [h, Ne.symm h]

/-- A vector register reads what was written to it. -/
theorem State.v_setV (s : State) (n k : Nat) (a : Lanes) (hn : n < 32) :
    (s.setV n a).v k = if k = n then a else s.v k := getD_setIfInBounds _ _ _ _ _ hn

/-- A moment register reads what was written to it. -/
theorem State.m_setM (s : State) (n k : Nat) (a : Moment) (hn : n < 16) :
    (s.setM n a).m k = if k = n then a else s.m k := getD_setIfInBounds _ _ _ _ _ hn

/-- A offset register reads what was written to it. -/
theorem State.o_setO (s : State) (n k : Nat) (a : Oreg) (hn : n < 8) :
    (s.setO n a).o k = if k = n then a else s.o k := getD_setIfInBounds _ _ _ _ _ hn

/-- A stream descriptor register reads what was written to it. -/
theorem State.sd_setSd (s : State) (n k : Nat) (a : Sd) (hn : n < 16) :
    (s.setSd n a).sd k = if k = n then a else s.sd k := getD_setIfInBounds _ _ _ _ _ hn

/-- A q register reads what was written to it. -/
theorem State.q_setQ (s : State) (n k : Nat) (a : List Lanes) (hn : n < 16) :
    (s.setQ n a).q k = if k = n then a else s.q k := getD_setIfInBounds _ _ _ _ _ hn

end Sys2Proof.Machine
end

