-- ==== Sys2Proof/Laws/Slot.lean ====
section
/-! SUPPORT. What a slot can do: its own effect, or what `State.stop` makes of a trap, a wait or a register error. -/

namespace Sys2Proof.Machine

/-- A slot of a core whose words hold no error, and which waits for no buffer. -/
theorem slot_clean (i : Instr) (eff : State → Res State) (s : State) (h : s.core.upsets = [])
    (hb : s.itemBusy i = false := by rfl) :
    slot i eff s = .next (match eff s with | .ok t => t.running | .error e => s.stop e) := by
  unfold slot
  rw [h, hb]
  cases eff s <;> rfl

/-- A slot whose effect succeeds. -/
theorem slot_ok (i : Instr) {eff : State → Res State} {s t : State} (h : s.core.upsets = []) (he : eff s = .ok t)
    (hb : s.itemBusy i = false := by rfl) : slot i eff s = .next t.running := by
  rw [slot_clean i eff s h hb, he]

/-- A slot that ends otherwise. -/
theorem slot_error (i : Instr) {eff : State → Res State} {s : State} {e : Stop} (h : s.core.upsets = [])
    (he : eff s = .error e) (hb : s.itemBusy i = false := by rfl) : slot i eff s = .next (s.stop e) := by
  rw [slot_clean i eff s h hb, he]

/-- A slot that finds a buffer that it reads or fills busy waits. -/
theorem slot_busy (i : Instr) (eff : State → Res State) {s : State} (hb : s.itemBusy i = true) :
    slot i eff s = .next s.block := by
  simp only [slot, hb, if_true]

/-- A slot always ends in a next state. -/
theorem slot_next (i : Instr) (eff : State → Res State) (s : State) : ∃ t, slot i eff s = .next t := ⟨_, rfl⟩

/-- A slot whose effect succeeds and which reads no word in error: the words it overwrites are clean after it. -/
theorem slot_words (i : Instr) {eff : State → Res State} {s t : State} (hne : s.core.upsets ≠ [])
    (hr : s.readWords (reads s i) = .ok s) (he : eff s = .ok t) (hb : s.itemBusy i = false := by rfl) :
    slot i eff s = .next ((t.wroteWords (writes s i)).running) := by
  have h0 : s.core.upsets.isEmpty = false := by simpa using hne
  simp only [slot, hb, h0, hr, he, Bool.false_eq_true, if_false]

end Sys2Proof.Machine
end

