-- ==== Sys2Proof/Laws/Store.lean ====
section
/-! SUPPORT. Stores: reading after writing, and the canonical form, which every operation of a store keeps. -/

namespace Sys2Proof.Machine

variable {α : Type} {d : α}

/-- Every key of a canonical store from `lo` is at least `lo`. -/
theorem Store.wfFrom_lo [DecidableEq α] {lo : Nat} : ∀ {m : Store α}, Store.wfFrom d lo m = true →
    ∀ e ∈ m, lo ≤ e.1 ∧ e.2 ≠ d := by
  intro m
  induction m generalizing lo with
  | nil => simp
  | cons e m ih =>
    intro h x hx
    simp only [Store.wfFrom, Bool.and_eq_true, decide_eq_true_eq] at h
    rcases List.mem_cons.1 hx with rfl | hx
    · exact ⟨h.1.1, h.1.2⟩
    · have := ih h.2 x hx
      exact ⟨by omega, this.2⟩

theorem Store.wfFrom_mono [DecidableEq α] {lo lo' : Nat} (h : lo' ≤ lo) {m : Store α}
    (hm : Store.wfFrom d lo m = true) : Store.wfFrom d lo' m = true := by
  cases m with
  | nil => rfl
  | cons e m =>
    simp only [Store.wfFrom, Bool.and_eq_true, decide_eq_true_eq] at hm ⊢
    exact ⟨⟨by omega, hm.1.2⟩, hm.2⟩

theorem Store.set_wfFrom [DecidableEq α] {lo i : Nat} (hi : lo ≤ i) (v : α) : ∀ {m : Store α},
    Store.wfFrom d lo m = true → Store.wfFrom d lo (Store.set d m i v) = true := by
  intro m
  induction m generalizing lo with
  | nil =>
    intro _
    by_cases hv : v = d <;> simp [Store.set, Store.wfFrom, hv, hi]
  | cons e m ih =>
    intro h
    have h' := h
    simp only [Store.wfFrom, Bool.and_eq_true, decide_eq_true_eq] at h'
    unfold Store.set
    split
    · by_cases hv : v = d
      · simpa [hv] using h
      · rw [if_neg hv]
        simp only [Store.wfFrom, Bool.and_eq_true, decide_eq_true_eq]
        exact ⟨⟨hi, hv⟩, ⟨by omega, h'.1.2⟩, h'.2⟩
    · split
      · by_cases hv : v = d
        · rw [if_pos hv]
          exact Store.wfFrom_mono (by omega) h'.2
        · rw [if_neg hv]
          simp only [Store.wfFrom, Bool.and_eq_true, decide_eq_true_eq]
          refine ⟨⟨hi, hv⟩, ?_⟩
          rename_i he
          exact he ▸ h'.2
      · simp only [Store.wfFrom, Bool.and_eq_true, decide_eq_true_eq]
        exact ⟨h'.1, ih (by omega) h'.2⟩

/-- Setting an entry keeps the canonical form. -/
theorem Store.set_wf [DecidableEq α] (m : Store α) (i : Nat) (v : α) (h : Store.wf d m = true) :
    Store.wf d (Store.set d m i v) = true := Store.set_wfFrom (Nat.zero_le i) v h

/-- A canonical store from `lo` lists nothing below `lo`. -/
theorem Store.get_below [DecidableEq α] {lo i : Nat} (h : i < lo) {m : Store α} (hm : Store.wfFrom d lo m = true) :
    Store.get d m i = d := by
  cases m with
  | nil => rfl
  | cons e m =>
    simp only [Store.wfFrom, Bool.and_eq_true, decide_eq_true_eq] at hm
    have h1 : i ≠ e.1 := by omega
    have h2 : i < e.1 := by omega
    simp [Store.get, h1, h2]

theorem Store.get_set_from [DecidableEq α] (i j : Nat) (v : α) : ∀ {lo : Nat} {m : Store α},
    Store.wfFrom d lo m = true → Store.get d (Store.set d m i v) j = if j = i then v else Store.get d m j := by
  intro lo m
  induction m generalizing lo with
  | nil =>
    intro _
    by_cases hv : v = d <;> by_cases hj : j = i <;> simp [Store.set, Store.get, hv, hj]
  | cons e m ih =>
    intro h
    simp only [Store.wfFrom, Bool.and_eq_true, decide_eq_true_eq] at h
    rcases e with ⟨k, a⟩
    unfold Store.set
    dsimp only at h ⊢
    split
    · rename_i hik
      by_cases hv : v = d
      · rw [if_pos hv]
        by_cases hj : j = i
        · subst hj
          have h1 : j ≠ k := by omega
          rw [if_pos rfl, hv]
          simp [Store.get, h1, hik]
        · rw [if_neg hj]
      · rw [if_neg hv]
        by_cases hj : j = i
        · simp [Store.get, hj]
        · rw [if_neg hj]
          by_cases hji : j < i
          · have h1 : j ≠ k := by omega
            have h2 : j < k := by omega
            simp [Store.get, hj, hji, h1, h2]
          · simp [Store.get, hj, hji]
    · split
      · rename_i hki
        subst hki
        by_cases hv : v = d
        · rw [if_pos hv]
          by_cases hj : j = i
          · subst hj
            rw [if_pos rfl, hv]
            exact Store.get_below (Nat.lt_succ_self j) h.2
          · rw [if_neg hj]
            by_cases hji : j < i
            · rw [Store.get_below (by omega) h.2]
              simp [Store.get, hj, hji]
            · simp [Store.get, hj, hji]
        · rw [if_neg hv]
          by_cases hj : j = i
          · simp [Store.get, hj]
          · simp [Store.get, hj]
      · rename_i h1 h2
        by_cases hjk : j = k
        · have : j ≠ i := by omega
          simp [Store.get, hjk, hjk ▸ this]
        · by_cases hlt : j < k
          · have : j ≠ i := by omega
            simp [Store.get, hjk, hlt, this]
          · simp only [Store.get, hjk, hlt, if_false]
            exact ih h.2

/-- Reading a canonical store after an entry has been set. -/
theorem Store.get_set [DecidableEq α] (m : Store α) (i j : Nat) (v : α) (h : Store.wf d m = true) :
    Store.get d (Store.set d m i v) j = if j = i then v else Store.get d m j := Store.get_set_from i j v h

/-- Setting many entries in turn keeps the canonical form. -/
theorem Store.foldl_set_wf [DecidableEq α] (ws : List (Nat × α)) : ∀ (m : Store α), Store.wf d m = true →
    Store.wf d (ws.foldl (fun m w => Store.set d m w.1 w.2) m) = true := by
  induction ws with
  | nil => exact fun _ h => h
  | cons w ws ih => exact fun m h => ih _ (Store.set_wf m w.1 w.2 h)

/-- Filtering keeps the canonical form. -/
theorem Store.filter_wfFrom [DecidableEq α] (p : Nat × α → Bool) : ∀ {lo : Nat} {m : Store α},
    Store.wfFrom d lo m = true → Store.wfFrom d lo (m.filter p) = true := by
  intro lo m
  induction m generalizing lo with
  | nil => exact fun _ => rfl
  | cons e m ih =>
    intro h
    simp only [Store.wfFrom, Bool.and_eq_true, decide_eq_true_eq] at h
    rw [List.filter_cons]
    split
    · simp only [Store.wfFrom, Bool.and_eq_true, decide_eq_true_eq]
      exact ⟨h.1, ih h.2⟩
    · exact Store.wfFrom_mono (by omega) (ih h.2)

theorem Store.filter_wf [DecidableEq α] (p : Nat × α → Bool) {m : Store α} (h : Store.wf d m = true) :
    Store.wf d (m.filter p) = true := Store.filter_wfFrom p h

/-- Two canonical runs joined, when the keys of the first lie below the second. -/
theorem Store.append_wfFrom [DecidableEq α] {n : Store α} {mid : Nat} (hn : Store.wfFrom d mid n = true) :
    ∀ {lo : Nat} {m : Store α}, lo ≤ mid → Store.wfFrom d lo m = true → (∀ e ∈ m, e.1 < mid) →
      Store.wfFrom d lo (m ++ n) = true := by
  intro lo m
  induction m generalizing lo with
  | nil => exact fun hl _ _ => Store.wfFrom_mono hl hn
  | cons e m ih =>
    intro hl h hb
    simp only [Store.wfFrom, Bool.and_eq_true, decide_eq_true_eq, List.cons_append] at h ⊢
    refine ⟨h.1, ih ?_ h.2 fun x hx => hb x (List.mem_cons_of_mem _ hx)⟩
    have := hb e (List.mem_cons_self ..)
    omega

theorem Store.run_wfFrom [DecidableEq α] : ∀ (vs : List α) {lo i : Nat}, lo ≤ i → Store.wfFrom d lo (Store.run d i vs) = true
  | [], _, _, _ => rfl
  | v :: vs, lo, i, h => by
    unfold Store.run
    split
    · exact Store.run_wfFrom vs (by omega)
    · rename_i hv
      simp only [Store.wfFrom, Bool.and_eq_true, decide_eq_true_eq]
      exact ⟨⟨h, hv⟩, Store.run_wfFrom vs (Nat.le_refl _)⟩

theorem Store.run_lt [DecidableEq α] : ∀ (vs : List α) (i : Nat), ∀ e ∈ Store.run d i vs, e.1 < i + vs.length
  | [], _ => by simp [Store.run]
  | v :: vs, i => by
    intro e he
    unfold Store.run at he
    have hr := Store.run_lt vs (i + 1)
    simp only [List.length_cons]
    split at he
    · have := hr e he; omega
    · rcases List.mem_cons.1 he with rfl | he
      · show i < _; omega
      · have := hr e he; omega

theorem Store.from_wfFrom [DecidableEq α] {m : Store α} {lo : Nat} (h : Store.wfFrom d lo m = true) (i : Nat) :
    Store.wfFrom d i (Store.from m i) = true := by
  induction m generalizing lo with
  | nil => rfl
  | cons e m ih =>
    simp only [Store.wfFrom, Bool.and_eq_true, decide_eq_true_eq] at h
    unfold Store.from at ih ⊢
    rw [List.filter_cons]
    by_cases he : i ≤ e.1
    · have hall : m.filter (fun e => decide (i ≤ e.1)) = m := by
        rw [List.filter_eq_self]
        intro x hx
        have := (Store.wfFrom_lo h.2 x hx).1
        simp only [decide_eq_true_eq]; omega
      simp only [he, decide_true, if_true, hall, Store.wfFrom, Bool.and_eq_true, decide_eq_true_eq]
      exact ⟨⟨trivial, h.1.2⟩, h.2⟩
    · simp only [he, decide_false]
      exact ih h.2

/-- Writing a run of values keeps the canonical form. -/
theorem Store.setList_wf [DecidableEq α] {m : Store α} (i : Nat) (vs : List α) (h : Store.wf d m = true) :
    Store.wf d (Store.setList d m i vs) = true := by
  unfold Store.setList Store.wf
  rw [List.append_assoc]
  refine Store.append_wfFrom (mid := i) ?_ (Nat.zero_le i) (Store.filter_wfFrom _ h) ?_
  · refine Store.append_wfFrom (mid := i + vs.length) (Store.from_wfFrom h _) (by omega)
      (Store.run_wfFrom vs (Nat.le_refl i)) (Store.run_lt vs i)
  · intro e he
    have := (List.mem_filter.1 he).2
    simpa using this

theorem Store.fill_wf [DecidableEq α] {m : Store α} (i n : Nat) (v : α) (h : Store.wf d m = true) :
    Store.wf d (Store.fill d m i n v) = true := Store.setList_wf i _ h

end Sys2Proof.Machine
end

