-- ==== Sys2Proof/Tests/Slice0.lean ====
section
/-! SUPPORT. Tests of decoding against words written out from the encoding tables, ill-formed instructions that the check refuses,
single steps against results worked by hand from the rules, and for every statement with hypotheses a state that meets them. -/

namespace Sys2Proof.Tests

set_option Elab.async false

open Sys2Proof Sys2Proof.Machine

/-! Words written out from the encoding tables: class, opcode and fields of each worked example of spec/11 to spec/30. -/

/-- The words decode to the instructions and are what the encoder writes. -/
def readsAs (l : List (W32 × Instr)) : Bool :=
  l.all fun e => (decodeSlot e.1 none).toOption == some e.2 && encode e.2 == some e.1

theorem test_decode_scalar : readsAs [(0x080A6064, .addi 5 6 ⟨0x064, none⟩), (0x12946016, .ldw 10 6 2 6),
    (0x0D8EAFFF, .brcLt 7 10 ⟨0xFFF, none⟩), (0x12462083, .st 3 2 16 3), (0x1248220B, .st 4 2 65 3), (0x10000000, .takeMark),
    (0x14C04000, .setmom 4), (0x10800000, .doneShot), (0x1540FF0F, .wait 15 15 0 15), (0x05699708, .lea 20 25 14 0 8)] = true := by
  decide +kernel

theorem test_decode_headers : readsAs [(0x800000F8, .ext 0 0 0 0xF8), (0x84000C00, .rep 0 3 0), (0x88670000, .loop 0 6 14),
    (0xFFFFFFFF, .nop)] = true := by decide +kernel

theorem test_decode_vector : readsAs [(0x20010831, .vaddF32 1 2 3 0 1), (0x20840450, .vmulF32 4 1 5 0 0),
    (0x20C61C80, .vfmaF32 6 7 8 0 0), (0x2C120420, .vcmpF32 2 2 1 2 0 0), (0x3A010805, .vshlImm 1 2 5),
    (0x2DBE0CA0, .vredF32 62 3 5 0 0), (0x34034820, .vld 3 9 2 0), (0x34843001, .vldw 4 6 0 1), (0x38830800, .qbind 3 2),
    (0x2E4501E0, .vperm 5 0 30 0 0), (0x20C301D0, .vfmaF32 3 0 29 0 0)] = true := by decide +kernel

theorem test_decode_matrix : readsAs [(0x40000000, .mma 0 0 0 0 0), (0x40146900, .mma 2 8 13 0 1),
    (0x40608819, .mmas 4 1 1 0 0 6 1), (0x41101001, .mmm 2 0 2 0 0 1), (0x4400E000, .tcfg 3 64 0), (0x4400C080, .tcfg 3 1 0), (0x42106880, .trd 2 3 17), (0x46014C00, .ofs 0 5 6),
    (0x40000200, .mma 0 0 0 1 0)] = true := by decide +kernel

theorem test_decode_moment : readsAs [(0xA0202000, .mldM32 32 4 0 0), (0xA1448850, .mget 4 34 5 0), (0xA1801C00, .mcorr 7 0),
    (0xA1E28920, .mclip 34 34 9 0), (0xA2638610, .msub 35 33 33 0 0), (0xA2638611, .msub 35 33 33 0 1),
    (0xA4628400, .mrelu 34 33 0), (0xA6458C00, .mcolHi 5 35 0), (0xA1211050, .mset 33 4 5 0), (0xA3238860, .mscl 35 34 6 0),
    (0xA2248A30, .madd 36 34 35 0 0)] = true := by decide +kernel

theorem test_decode_copies : readsAs [(0x60060480, .cdesc 3 9), (0x604063A0, .cpy 0 6 7 8), (0x6084C741, .cpygOb 2 12 14 16),
    (0x61800601, .cpyo 0 0 12 0), (0x61C0001C, .pfill 0 0 0 7)] = true := by decide +kernel

theorem test_decode_counters_and_streams : readsAs [(0x620C0501, .caddImm 6 0 2 1), (0x624C7600, .cwait 6 7 3),
    (0x6414B60E, .amoAdd 10 11 12 3 2), (0x664B4808, .qapp 5 20 4 8), (0x684B4008, .cbal 5 20 8), (0x68003117, .cbcfg 3 2 5),
    (0x6880065F, .cbput 0 0 12 23), (0x68CB0002, .cbst 5 16 2)] = true := by decide +kernel

/-! Ill-formed terms, which the check refuses: one for each of its conditions. -/

theorem test_illformed_ranges : ([.rep 0 0 0, .mulh 1 2 3 0 3, .div 1 2 3 0 2, .clz 1 2 0 2, .sext 1 2 0 3, .lea 1 2 3 0 9,
    .cmp 1 2 3 0 6, .trapUser 0 ⟨1, none⟩, .ld 1 2 0 7, .ctlr 1 0x002, .ctlw 1 0x032, .fence 0 0, .fence 1 4, .ctxsv 1 2 3 7,
    .vcmpI32 6 1 2 3 0 0, .vredF32 1 2 3 0 3, .vlds 1 2 3 0 3, .pcnt 1 2 0 2, .mma 0 0 0 3 0, .mmas 0 0 0 3 0 0 0, .tcfg 0 1 0,
    .tcfg 1 65 0, .tcfg 1 0 0, .tfree 0 0, .tzero 0, .tcvt 0 0 5 0 0, .cadd 1 2 5, .amoAdd 1 2 3 1 0, .cbst 1 2 5]
    : List Instr).all (fun i => !i.wf) = true := by decide +kernel

theorem test_illformed_operands : ([.vaddF32 56 1 2 0 0, .vaddF32 48 1 2 0 0, .vaddF32 1 56 2 0 0, .vabsF32 63 1 0 0,
    .vcmpF32 0 1 56 2 0 0, .vbcast 56 1 0, .vbcastLane 1 57 2 0, .vmovx 0 58 1, .vmovxToLane 32 0 1, .vidx 60 0, .vld 61 1 0 0,
    .vst 57 1 0 0, .vldw 63 1 0 0, .vstf 57 1 0, .vldg 1 57 2 0 0, .vsts 57 1 2 0 0, .vpark 57 1, .vunpark 57 1, .vshlImm 57 1 0,
    .vbcastImm 57 ⟨0, none⟩, .mldM32 1 2 0 0, .mstM32 1 2 0 0, .mset 33 32 1 0, .mget 1 33 1 0, .mcorr 33 0, .mclip 1 33 2 0,
    .madd 33 1 2 0 0, .mfma 1 2 3 0 0, .mscl 33 1 2 0, .msq 33 1 0, .mcolMean 33 34 0, .mcolSmp 1 33 34 0, .mmm 1 0 0 0 0 0,
    .mmm 0 1 0 0 0 0, .trd 0 57 0, .twr 0 63 0, .cpyg 0 0 31 0, .coll 0 0 31 0] : List Instr).all (fun i => !i.wf) = true := by
  decide +kernel

theorem test_wellformed : ([.add 1 2 3 0, .mulh 1 2 3 0 2, .ld 1 2 0 6, .vaddF32 62 63 48 0 1, .vmovxToLane 31 63 1,
    .madd 33 1 34 0 1, .mmm 2 0 2 0 0 1, .tcfg 255 64 1, .cbst 1 2 4, .cpyg 0 0 30 0] : List Instr).all Instr.wf = true := by
  decide +kernel

/-! Single steps on a small state. -/

/-- Context 1: every feature, its U-pad block 0 and its D-pad block 0 granted to read and write. -/
def ctx1 : Context :=
  { Context.none with live := true, feat := 0x0100000000000FFF, pads := [(0, 3), (0x3000000, 3)] }

/-- Core 0 runs a bundle of context 1. -/
def base : State :=
  { State.reset with
    core := { Core.reset with run := .running, ctx := 1, resident := 1, pc := 0x1000, takepc := 0x1000 }
    sched := { State.reset.sched with contexts := [(1, ctx1)] } }

/-- `base` with x registers set. -/
def regs (l : List (BitVec 5 × W64)) : State := l.foldl (fun t e => t.setX e.1 e.2) base

/-- The instruction answers a next state of which `f` holds. -/
def runs (i : Instr) (s : State) (f : State → Bool) : Bool :=
  match exec i s with
  | .next t => f t
  | _ => false

/-- Each instruction leaves the given value in the given x register. -/
def gives (s : State) (l : List (Instr × BitVec 5 × W64)) : Bool :=
  l.all fun e => runs e.1 s fun t => t.x e.2.1 == e.2.2 && t.core.run == .running

/-- Each instruction raises the trap: CAUSE's code and detail, and the first detail word. -/
def traps (s : State) (l : List (Instr × Cause × Nat × W64)) : Bool :=
  l.all fun e => runs e.1 s fun t => t.core.run == .stopped && t.core.why == .trap &&
    t.core.cause.toNat % 65536 == e.2.1.code + 256 * e.2.2.1 && t.core.dw0 == e.2.2.2

/-- The instruction waits at its slot. -/
def waits (i : Instr) (s : State) : Bool := runs i s fun t => t.core.run == .blocked

/-- x1 = −7, x2 = 2, x3 = 2^63, x4 = 65, x5 = 2^32. -/
def ints : State := regs [(1, -7), (2, 2), (3, 0x8000000000000000), (4, 65), (5, 0x100000000), (6, -1)]

-- spec/13 R164: values worked by hand
theorem test_scalar_two_operands : gives ints [(.add 10 6 2 0, 10, 1), (.sub 10 2 1 0, 10, 9), (.mul 10 5 6 0, 10, 0xFFFFFFFF00000000),
    (.mulh 10 6 2 0 0, 10, -1), (.mulh 10 6 2 0 1, 10, 1), (.mulh 10 6 6 0 2, 10, -1), (.andR 10 1 2 0, 10, 0), (.orR 10 1 2 0, 10, -5),
    (.xorR 10 1 2 0, 10, -5), (.andn 10 1 2 0, 10, -7), (.shl 10 2 4 0, 10, 4), (.shr 10 3 4 0, 10, 0x4000000000000000),
    (.sra 10 3 4 0, 10, 0xC000000000000000), (.rotl 10 3 4 0, 10, 1), (.min 10 1 2 0 0, 10, -7), (.min 10 1 2 0 1, 10, 2),
    (.max 10 1 2 0 0, 10, 2), (.max 10 1 2 0 1, 10, -7), (.lea 10 2 1 0 3, 10, -54), (.add 0 1 2 0, 0, 0)] = true := by decide +kernel

-- spec/13 R165
theorem test_scalar_division : gives ints [(.div 10 1 2 0 0, 10, -3), (.rem 10 1 2 0 0, 10, -1), (.div 10 1 0 0 0, 10, -1),
    (.rem 10 1 0 0 0, 10, -7), (.div 10 3 6 0 0, 10, 0x8000000000000000), (.rem 10 3 6 0 0, 10, 0),
    (.div 10 6 2 0 1, 10, 0x7FFFFFFFFFFFFFFF), (.rem 10 6 2 0 1, 10, 1)] = true := by decide +kernel

theorem test_scalar_one_operand : gives ints [(.clz 10 2 0 0, 10, 62), (.clz 10 2 0 1, 10, 30), (.clz 10 0 0 1, 10, 32), (.ctz 10 5 0 0, 10, 32),
    (.ctz 10 5 0 1, 10, 32), (.popc 10 1 0 0, 10, 62), (.popc 10 1 0 1, 10, 30), (.sext 10 1 0 0, 10, -7), (.zext 10 1 0 0, 10, 0xF9),
    (.sext 10 3 0 2, 10, 0), (.zext 10 6 0 2, 10, 0xFFFFFFFF)] = true := by decide +kernel

-- spec/13 R166, R167: the EXT byte stands above the immediate; lih x6, −2097104 is C-pad slot 3
theorem test_scalar_immediates : gives ints [(.addi 10 2 ⟨0xFFF, none⟩, 10, 1), (.addi 10 2 ⟨0xFFF, some 0x00⟩, 10, 4097),
    (.andi 10 1 ⟨0x00F, none⟩, 10, 9), (.ori 10 2 ⟨1, none⟩, 10, 3), (.xori 10 2 ⟨0xFFF, none⟩, 10, -3), (.shli 10 2 63, 10, 0),
    (.shri 10 1 60, 10, 15), (.srai 10 1 1, 10, -4), (.lih 6 ⟨0x00030, some 0xF0⟩, 6, 0xFFFFFE0003000000)] = true := by decide +kernel

theorem test_compare_and_select : (runs (.cmp 3 1 2 0 2) ints (fun t => t.p 3 == 1) &&
    runs (.cmp 3 1 2 0 4) ints (fun t => t.p 3 == 0) && runs (.cmp 0 1 2 0 4) ints (fun t => t.p 0 == BitVec.allOnes 64) &&
    gives (ints.setP 4 1) [(.sel 10 1 2 0 4, 10, -7), (.sel 10 1 2 0 5, 10, 2), (.add 10 2 2 5, 10, 0)]) = true := by decide +kernel

/-- `base` with a latched bundle of four nops at slot `k`. -/
def inBundle (s : State) (k : Nat) : State :=
  { s with core := { s.core with bundle := some { word := BitVec.allOnes 128, slot := k, skip := false, replay := false, target := none } } }

/-- The target of the branch that the bundle has taken. -/
def targetOf (s : State) : Option W64 := s.core.bundle.bind (·.target)

-- spec/13 R170: targets 16 bytes a bundle from the branch's own
theorem test_branches : (runs (.jmp ⟨2, none⟩) (inBundle ints 0) (fun t => targetOf t == some 0x1020) &&
    runs (.jal 9 ⟨0x1FFFF, none⟩) (inBundle ints 0) (fun t => targetOf t == some 0xFF0 && t.x 9 == 0x1010) &&
    runs (.br 0 0 ⟨1, none⟩) (inBundle ints 0) (fun t => targetOf t == some 0x1010) &&
    runs (.br 0 1 ⟨1, none⟩) (inBundle ints 0) (fun t => targetOf t == none) &&
    runs (.brcLt 2 1 ⟨1, none⟩) (inBundle ints 0) (fun t => targetOf t == some 0x1010) &&
    runs (.brcLtu 2 1 ⟨1, none⟩) (inBundle ints 0) (fun t => targetOf t == none) &&
    runs (.brcGe 2 1 ⟨1, none⟩) (inBundle ints 0) (fun t => targetOf t == none) &&
    runs (.brcGeu 2 1 ⟨1, none⟩) (inBundle ints 0) (fun t => targetOf t == some 0x1010) &&
    runs (.brcEq 2 2 ⟨1, none⟩) (inBundle ints 0) (fun t => targetOf t == some 0x1010) &&
    runs (.brcNe 2 2 ⟨1, none⟩) (inBundle ints 0) (fun t => targetOf t == none) &&
    runs (.jr 9 5 0) (inBundle ints 0) (fun t => targetOf t == some 0x100000000 && t.x 9 == 0x1010) &&
    traps (inBundle ints 0) [(.jr 9 2 0, .align, 1, 2)]) = true := by decide +kernel

/-- `base` with a latched LOOP bundle. -/
def loopBundle (count : W64) : State :=
  inBundle { regs [(14, count)] with core := { (regs [(14, count)]).core with pc := 0x2000 } } 0

-- spec/11 R141: a LOOP header of trip count 0 skips its bundles, and of another count captures them
theorem test_loop_header : (runs (.loop 0 6 14) (loopBundle 0) (fun t => t.core.bundle.any (·.skip) && t.core.loop.isNone) &&
    runs (.loop 0 6 14) (loopBundle 3) (fun t => t.core.loop.any (fun l => l.head == 0x2000 && l.len == 6 && l.xt == 14))) = true := by
  decide +kernel

/-- A core at the last slot of a bundle, in a loop of one body bundle that starts one bundle before it. -/
def loopEnd (count : W64) : State :=
  let s := inBundle (regs [(14, count)]) 3
  { s with core := { s.core with pc := 0x2010, loop := some { head := 0x2000, len := 1, xt := 14, body := [] } } }

-- spec/13 R171 and spec/11 R141: at the end of the body the count goes down and the loop begins again, and with 1 it ends at 0
theorem test_loop_end : (let t := (loopEnd 3).advanceSlot 0 0
    let u := (loopEnd 1).advanceSlot 0 0
    t.core.pc == 0x2000 && t.x 14 == 2 && t.core.loop.isSome && u.core.pc == 0x2020 && u.x 14 == 0 && u.core.loop.isNone) = true := by
  decide +kernel

-- spec/03 R36, spec/13 R173: the reservation, and SPAWNBUSY in its order
theorem test_spawn : (let s := regs [(5, 1), (6, 0x4000), (7, 16), (8, 0x4001), (9, 0)]
    runs (.spawn 5 6) s (fun t => (t.coreAt 1).reserved.any (fun r => r.entry == 0x4000 && r.args.getD 7 1 == 0 && r.args.getD 3 0 == 1) &&
      (t.coreAt 1).resident == 1) &&
    traps s [(.spawn 7 6, .spawnbusy, 5, 0), (.spawn 9 6, .spawnbusy, 3, 0), (.spawn 5 8, .align, 1, 0x4001)] &&
    traps (s.onCore 1 fun c => { c with resident := 7 }) [(.spawn 5 6, .spawnbusy, 4, 0)]) = true := by decide +kernel

/-- Core 0 runs shot 0 of launch 0. -/
def withShot (k : ShotKind) : State := { base with core := { base.core with shot := some { launch := 0, index := 0, kind := k } } }

-- spec/13 R174
theorem test_done : (runs .doneShot (withShot .placed) (fun t => t.core.run == .idle && t.core.shot.isNone && t.core.tser == 1) &&
    runs .doneShot (withShot .handler) (fun t => t.core.run == .ended && t.core.shot.isSome)) = true := by decide +kernel

-- spec/13 R175, spec/25 R327: trap with code 0x123 in slot 2
theorem test_trap : (let s := inBundle (regs [(5, 9)]) 2
    runs (.trapUser 5 ⟨0x123, some 1⟩) s (fun t => t.core.cause.toNat / 2 ^ 20 % 4 == 2 && t.core.tinfo == 0x1000 &&
      t.core.dw0 == 0x1123 && t.core.dw1 == 9 && t.core.pc == 0x1000 && t.core.why == .trap) &&
    runs (.trapUser 6 ⟨1, none⟩) s (fun t => t.core.run == .running)) = true := by decide +kernel

-- spec/13 R149, R178: FMT at its reset value, TSER, PRIO of context 1; a context may not write CTX
theorem test_control_registers : (let s := { regs [(5, 0x77)] with core := { (regs [(5, 0x77)]).core with tser := 12 } }
    gives s [(.ctlr 10 0x000, 10, 0x88880000), (.ctlr 10 0x001, 10, 0x3F800000), (.ctlr 10 0x013, 10, 12),
      (.ctlr 10 0x041, 10, 0x000007D000010003), (.ctlr 10 0x030, 10, 0x0100000000000FFF)] &&
    traps s [(.ctlw 5 0x040, .priv, 1, 0), (.ctlw 5 0x032, .illegal, 3, 0), (.ctlr 10 0x002, .illegal, 3, 0)] &&
    runs (.ctlw 5 0x013) { s with cur := 2048 } (fun t => t.core.tser == 0x77)) = true := by decide +kernel

-- spec/09 R126, R128: AF 101 is no format; a value takes effect after four more bundles
theorem test_modes : (let s := regs [(5, 0x88880005), (6, 0x88880001), (7, 0x7F800000)]
    traps s [(.setfmt 5, .fmt, 3, 0), (.setmom 7, .fmt, 3, 0)] &&
    runs (.setfmt 6) s (fun t => t.core.fmt == 0x88880000 &&
      t.core.endBundle.endBundle.endBundle.endBundle.fmt == 0x88880000 &&
      t.core.endBundle.endBundle.endBundle.endBundle.endBundle.fmt == 0x88880001)) = true := by decide +kernel

theorem test_fences_and_timing : (runs (.fence 15 3) base (fun t => t.core.run == .running) &&
    runs (.wait 0 0 0 0) base (fun t => t.core.run == .running) && gives base [(.rdid 10, 10, 0), (.rdclk 10, 10, 0), (.rdstep 10, 10, 0)] &&
    waits (.rdstepNext 10) base &&
    traps { base with core := { base.core with ctx := 0x40000001 } } [(.rdclk 10, .detread, 0, 0)]) = true := by decide +kernel

/-- Core 2048, a control core of die 0, runs. -/
def firmware (l : List (BitVec 5 × W64)) : State :=
  l.foldl (fun t e => t.setX e.1 e.2) { base with cur := 2048, cores := [] }

-- spec/13 R186-R192: the firmware-only slots and their result codes
theorem test_firmware_slots : (let s := firmware [(5, 3), (6, 0x1000), (7, 1), (8, 0xFFFFFFFFFFFFFFFF), (9, 0x30000000001)]
    gives s [(.retake 10 5, 10, 1), (.ctxsv 10 5 6 0, 10, 1), (.dstw 10 8 6, 10, 1), (.scrb 10 8 6, 10, -1)] &&
    traps s [(.tinv 7 6, .align, 1, 1)] && runs (.tinv 6 7) s (fun t => t.core.run == .running) &&
    runs (.pwrwCurlim 5 6) s (fun t => (t.die 3).curlim == 0x1000) && runs (.pwrwPwrcap 7 9) s (fun t => (t.context 1).pwrcap == 0x10101) &&
    gives (s.setX 11 0x30000) [(.hibwSetEntry 10 11 6, 10, 1)] &&
    gives (s.setX 11 0x20000) [(.hibwSetEntry 10 11 6, 10, 0), (.hibwClearAll 10 11 6, 10, 0)]) = true := by decide +kernel

/-! Memory: core 0's U-pad at 0xFFFFFF0000000000. -/

def upad : W64 := 0xFFFFFF0000000000

-- spec/13 R177: least significant byte first; sign extension; ALIGN; PROT for a block not granted
theorem test_load_and_store : (let s := regs [(5, upad), (6, 0x1122334455667788), (7, upad + 0x10000), (8, -1)]
    runs (.st 6 5 1 3) s (fun t => t.memByte 8 == 0x88 && t.memByte 15 == 0x11 &&
      gives t [(.ld 10 5 1 3, 10, 0x1122334455667788), (.ld 10 5 8 4, 10, 0xFFFFFFFFFFFFFF88), (.ld 10 5 8 0, 10, 0x88),
        (.ld 10 5 4 5, 10, 0x7788), (.ld 10 5 2 6, 10, 0x55667788)]) &&
    traps s [(.ld 10 8 0 0, .page, 6, -1), (.st 6 7 0 3, .prot, 3, upad + 0x10000)] &&
    traps (s.setX 5 (upad + 1)) [(.ld 10 5 0 3, .align, 1, upad + 1), (.st 6 5 0 1, .align, 1, upad + 1)]) = true := by decide +kernel

-- spec/05 R53-R55: ldw waits on an EMPTY granule, stf fills it, ldw.clr empties it again
theorem test_presence : (let s := regs [(5, upad), (6, 9), (7, 1)]
    runs (.pclr 7 5 0) s (fun t => t.isEmpty 0 && !t.isEmpty 1 && waits (.ldw 10 5 0 3) t &&
      runs (.stf 6 5 0 3) t (fun u => !u.isEmpty 0 && gives u [(.ldw 10 5 0 7, 10, 9)]))) = true := by decide +kernel

/-- Lane `k` holds `f k`. -/
def lanes (f : Nat → W32) : Lanes := Vector.ofFn fun k => f k.val

/-- `base` with v registers set. -/
def vregs (l : List (Nat × Lanes)) : State := l.foldl (fun t e => t.setV e.1 e.2) base

/-- Each instruction leaves the given value in the given lane of the given v register. -/
def givesLane (s : State) (l : List (Instr × Nat × Nat × W32)) : Bool :=
  l.all fun e => runs e.1 s fun t => (t.v e.2.1).toList.getD e.2.2.1 0 == e.2.2.2

/-- v1 = 1.5, v2 = 2.0, v3 = −0.0, v4 = a NaN, v5 = the lane numbers, v6 = −7, v7 = 2, v8 = 0.0. -/
def floats : State := vregs [(1, lanes fun _ => 0x3FC00000), (2, lanes fun _ => 0x40000000), (3, lanes fun _ => 0x80000000),
  (4, lanes fun _ => 0x7F800001), (5, lanes fun k => BitVec.ofNat 32 k), (6, lanes fun _ => -7), (7, lanes fun _ => 2)]

-- spec/15 R197, R198: one rounding; NaN results canonical; minimum of −0 and +0
theorem test_vector_float : givesLane floats [(.vaddF32 10 1 2 0 0, 10, 63, 0x40600000), (.vsubF32 10 1 2 0 0, 10, 0, 0xBF000000),
    (.vmulF32 10 1 2 0 0, 10, 5, 0x40400000), (.vfmaF32 2 1 1 0 0, 2, 5, 0x40880000), (.vfmsF32 2 1 1 0 0, 2, 5, 0xBE800000),
    (.vminF32 10 8 3 0 0, 10, 1, 0x80000000), (.vmaxF32 10 3 8 0 0, 10, 1, 0), (.vabsF32 10 3 0 0, 10, 7, 0),
    (.vnegF32 10 4 0 0, 10, 7, 0x7FC00000), (.vaddF32 10 1 4 0 0, 10, 2, 0x7FC00000)] = true := by decide +kernel

theorem test_vector_integer : givesLane floats [(.vaddI32 10 6 7 0 0, 10, 3, -5), (.vsubI32 10 6 7 0 0, 10, 3, -9),
    (.vmulI32 10 6 7 0 0, 10, 3, -14), (.vminI32 10 6 7 0 0, 10, 3, -7), (.vminN32 10 6 7 0 0, 10, 3, 2), (.vmaxI32 10 6 7 0 0, 10, 3, 2),
    (.vmaxN32 10 6 7 0 0, 10, 3, -7), (.vabsI32 10 6 0 0, 10, 3, 7), (.vnegI32 10 7 0 0, 10, 3, -2), (.vand 10 6 7 0 0, 10, 0, 0),
    (.vor 10 6 7 0 0, 10, 0, -5), (.vxor 10 6 7 0 0, 10, 0, -5), (.vnot 10 7 0 0, 10, 0, -3), (.vshl 10 7 5 0 0, 10, 33, 4),
    (.vshr 10 6 7 0 0, 10, 0, 0x3FFFFFFE), (.vsra 10 6 7 0 0, 10, 0, -2), (.vshlImm 10 7 5, 10, 0, 64), (.vshrImm 10 6 28, 10, 0, 15),
    (.vsraImm 10 6 1, 10, 0, -4), (.vbcastImm 10 ⟨0x3FF, none⟩, 10, 0, -1), (.vbcastImm 10 ⟨0x3FF, some 0⟩, 10, 0, 0x3FF)] = true := by
  decide +kernel

-- spec/09 R124 (the Specials column) and spec/15 R201
theorem test_vector_transcendental : givesLane floats [(.vrcp 10 2 0 0, 10, 0, 0x3F000000), (.vrcp 10 3 0 0, 10, 0, 0xFF800000),
    (.vrsqrt 10 8 0 0, 10, 0, 0x7F800000), (.vsqrt 10 3 0 0, 10, 0, 0x80000000), (.vexp2 10 8 0 0, 10, 0, 0x3F800000),
    (.vlog2 10 8 0 0, 10, 0, 0xFF800000), (.vncdf 10 4 0 0, 10, 0, 0x7FC00000), (.vnpdf 10 8 0 0, 10, 0, 0x3ECC422A),
    (.vtanh 10 8 0 0, 10, 0, 0)] = true := by decide +kernel

theorem test_vector_compare_select : (runs (.vcmpF32 2 2 1 2 0 0) floats (fun t => t.p 2 == BitVec.allOnes 64) &&
    runs (.vcmpF32 0 2 3 8 0 0) floats (fun t => t.p 2 == BitVec.allOnes 64) && runs (.vcmpF32 7 2 1 4 0 0) floats (fun t => t.p 2 == BitVec.allOnes 64) &&
    runs (.vcmpI32 2 2 6 7 0 0) floats (fun t => t.p 2 == BitVec.allOnes 64) && runs (.vcmpN32 2 2 6 7 0 0) floats (fun t => t.p 2 == 0) &&
    givesLane (floats.setP 3 2) [(.vsel 10 6 7 3 0, 10, 1, -7), (.vsel 10 6 7 3 0, 10, 2, 2)]) = true := by decide +kernel

-- spec/15 R204, R205: 0 + 1 + … + 63 = 2016, of lanes 0 and 1 alone 1
theorem test_vector_prefix_reduce : (givesLane floats [(.vpfxI32 10 5 0 0, 10, 63, 2016), (.vpfxI32 10 5 0 0, 10, 2, 3),
      (.vpfxF32 10 1 0 0, 10, 3, 0x40C00000)] &&
    gives floats [(.vredI32 62 5 9 0 0, 9, 2016), (.vredI32 62 6 9 0 1, 9, -7), (.vredN32 62 6 9 0 2, 9, 0xFFFFFFF9),
      (.vredF32 62 1 9 0 0, 9, 0x42C00000), (.vredF32 62 1 9 0 2, 9, 0x3FC00000)] &&
    gives (floats.setP 3 3) [(.vredI32 62 5 9 3 0, 9, 1)]) = true := by decide +kernel

theorem test_vector_moves : (let s := (floats.setX 5 0xFFFFFFFF00000041)
    givesLane s [(.vperm 10 5 7 0 0, 10, 9, 2), (.vbcast 10 5 0, 10, 9, 0x41), (.vbcastLane 10 5 5 0, 10, 9, 1), (.vmovxToLane 10 63 5, 10, 63, 0x41),
      (.vmovxToLane 5 63 5, 5, 62, 62), (.vidx 10 0, 10, 17, 17)] &&
    gives s [(.vmovx 3 6 9, 9, 0xFFFFFFF9), (.vmovxS 3 6 9, 9, -7)]) = true := by decide +kernel

-- spec/15 R210, R211 and the worked table of spec/16: 460 is beyond the largest e4m3, which SAT makes 448
theorem test_vector_conversions : (let s := floats.setV 9 (lanes fun _ => 0x43E60000)
    givesLane s [(.vcvtI32F32 10 1 8 0 0, 10, 0, 2), (.vcvtF32I32 10 6 8 0 0, 10, 0, 0xC0E00000), (.vcvtN32F32 10 2 8 0 0, 10, 0, 2),
      (.vcvtF32N32 10 7 8 0 0, 10, 0, 0x40000000), (.vcvtBf16F32 10 1 8 0 0, 10, 0, 0x3FC0), (.vcvtF32Bf16 10 7 8 0 0, 10, 0, 0x00020000),
      (.vcvtE4m3F32 10 9 8 0 0, 10, 0, 0x7E), (.vcvtF32E4m3 10 7 8 0 0, 10, 0, 0x3B800000), (.vcvtE5m2F32 10 2 8 0 0, 10, 0, 0x40),
      (.vcvtF32E5m2 10 7 8 0 0, 10, 0, 0x38000000), (.vcvtE2m1F32 10 1 8 0 0, 10, 0, 3), (.vcvtF32E2m1 10 7 8 0 0, 10, 0, 0x3F800000)]) = true := by
  decide +kernel

/-- A state with bytes in core 0's U-pad. -/
def State.poke (s : State) (o : Nat) (bs : List Byte) : State :=
  { s with st := { s.st with mem := Store.setList 0 s.st.mem o bs } }

-- spec/15 R212-R214: unit-stride, strided and indexed lanes; only the active lanes 1 and 2 are touched
theorem test_vector_memory : (let s := (((State.poke floats 0 ((List.range 24).map (BitVec.ofNat 8))).setX 5 upad).setX 6 8).setP 3 6
    givesLane s [(.vld 10 5 0 3, 10, 1, 0x07060504), (.vlds 10 6 5 3 0, 10, 1, 0x0B0A0908), (.vldg 10 5 5 3 2, 10, 2, 2),
      (.vlds 10 6 5 3 1, 10, 2, 0x1110)] &&
    runs (.vst 7 5 1 3) s (fun t => t.memByte 256 == 0 && t.memByte 260 == 2 && t.memByte 268 == 0) &&
    runs (.vsts 7 5 5 3 2) s (fun t => t.memByte 2 == 2 && t.memByte 3 == 3)) = true := by decide +kernel

theorem test_vector_presence : (let s := (base.setX 5 upad).setX 6 16
    runs (.pclr 6 5 0) s (fun t => waits (.vldw 10 5 0 0) t && runs (.vstf 7 5 0) t (fun u => !u.isEmpty 0 && !u.isEmpty 15))) = true := by
  decide +kernel

theorem test_predicates : (let s := ((base.setP 1 0xF0).setP 2 0x3C).setP 3 0xFF
    runs (.pand 4 1 2 0) s (fun t => t.p 4 == 0x30) && runs (.por 4 1 2 0) s (fun t => t.p 4 == 0xFC) &&
    runs (.pxor 4 1 2 0) s (fun t => t.p 4 == 0xCC) && runs (.pnot 4 1 3) s (fun t => t.p 4 == 0x0F) &&
    gives s [(.pcnt 1 9 0 0, 9, 4), (.pfirst 1 9 0 0, 9, 4), (.pfirst 1 9 0 1, 9, 7), (.pfirst 4 9 0 0, 9, 64)]) = true := by
  decide +kernel

-- spec/15 R218, R219, spec/11 R148: two pushes to q0, the count, a pop in order, QUNF when empty
theorem test_queues : (runs (.vidx 32 0) floats (fun t => runs (.vbcastImm 32 ⟨7, none⟩) t fun u =>
    gives u [(.qcnt 0 9, 9, 2)] && runs (.vaddI32 10 32 32 0 0) u (fun w => (w.v 10).toList.getD 5 0 == 12 && w.q 0 == []) &&
    givesLane u [(.vaddI32 10 48 48 0 0, 10, 5, 10)] && runs (.qclr 0) u (fun w => gives w [(.qcnt 0 9, 9, 0)])) &&
    traps floats [(.vaddI32 10 32 1 0 0, .qunf, 0, 0), (.vaddI32 10 63 1 0 0, .illegal, 5, 0), (.qunbind 0, .stream, 8, 0),
      (.qbind 0 0, .stream, 4, 0)]) = true := by decide +kernel

/-- The template of a stream of `n` 4-byte elements at the U-pad, read or written. -/
def template (n : Nat) (write : Bool) : BitVec 512 :=
  upad.setWidth 512 ||| (BitVec.ofNat 512 n <<< 64) ||| (1#512 <<< 96) ||| (1#512 <<< 128) ||| (1#512 <<< 160) |||
  (4#512 <<< 192) ||| (2#512 <<< 448) ||| (BitVec.ofNat 512 write.toNat <<< 451)

/-- `floats` with the template of a stream at offset 0x1000, and x5 naming it. -/
def streaming (n : Nat) (write : Bool) : State :=
  (State.poke (State.poke floats 0x1000 (leBytes 64 (template n write).toNat)) 0 [1, 0, 0, 0, 2]).setX 5 (upad + 0x1000)

/-- The answers of a list of instructions one after the other. -/
def runAll : List Instr → State → Option State
  | [], s => some s
  | i :: is, s => match exec i s with | .next t => runAll is t | _ => none

-- spec/15 R221-R227: a read stream of 65 elements gives 64 and then 1; a write stream's entry is written by a fence
theorem test_streams : ((runAll [.sbind 2 5, .qbind 3 2, .vabsI32 10 35 0 0, .spos 2 9] (streaming 65 false)).any (fun t =>
      (t.v 10).toList.getD 1 0 == 2 && t.x 9 == 64) &&
    (runAll [.sbind 2 5, .qbind 3 2, .vidx 35 0, .fence 2 3, .spos 2 9, .qunbind 3] (streaming 64 true)).any (fun t =>
      t.memByte 252 == 63 && t.x 9 == 64 && (t.boundTo 3).isNone) &&
    (runAll [.sbind 2 5, .qbind 3 2] (streaming 64 true)).any (fun t =>
      traps t [(.vabsI32 10 35 0 0, .stream, 2, 0), (.sbind 2 5, .stream, 3, 0), (.qclr 3, .stream, 3, 0)])) = true := by decide +kernel

-- spec/15 R229, R230
theorem test_parking : (let s := floats.setX 5 511
    (runAll [.vpark 6 5, .vunpark 10 5] s).any (fun t => (t.v 10).toList.getD 3 0 == -7 && t.core.parked == [511]) &&
    traps (s.setX 5 512) [(.vpark 6 5, .park, 1, 0)] && traps s [(.vunpark 10 5, .park, 3, 0)] &&
    (runAll [.vpark 6 5, .vunparkFree 10 5] s).any (fun t => t.core.committed.parked == [])) = true := by decide +kernel

/-- m1 holds the mean and the variance in every lane, with MOM's CA and NV. -/
def moments (mean var : W32) (mom : W64) : State :=
  let s := floats.setM 1 { mean := lanes fun _ => mean, var := lanes fun _ => var }
  { s with core := { s.core with mom := mom } }

/-- The lane of the m register that the instruction leaves. -/
def givesMoment (s : State) (l : List (Instr × Nat × W32 × W32)) : Bool :=
  l.all fun e => runs e.1 s fun t => (t.m e.2.1).mean.toList.getD 3 0 == e.2.2.1 && (t.m e.2.1).var.toList.getD 3 0 == e.2.2.2

-- the worked cases of spec/19: the difference of equals under CA = POS, CA = NEG, .ind and CLAMP, and the ReLU of a normal
theorem test_moment_difference : (traps (moments 0x3FC00000 0x40A00000 0x13F800000) [(.msub 35 33 33 0 0, .negvar, 0, 2 * 16384 + 2)] &&
    givesMoment (moments 0x3FC00000 0x40A00000 0x53F800000) [(.msub 35 33 33 0 0, 3, 0, 0)] &&
    givesMoment (moments 0x3FC00000 0x40A00000 0x13F800000) [(.msub 35 33 33 0 1, 3, 0, 0x41200000)] &&
    givesMoment (moments 0x3FC00000 0x40A00000 0x23F800000) [(.msub 35 33 33 0 0, 3, 0, 0x41A00000)]) = true := by decide +kernel

theorem test_moment_relu : givesMoment (moments 0 0x3F800000 0x3F800000) [(.mrelu 34 33 0, 2, 0x3ECC422A, 0x3EAE833E)] = true := by
  decide +kernel

theorem test_moment_moves : (let s := moments 0x3FC00000 0x40800000 0x3F800000
    givesMoment s [(.mset 35 1 2 0, 3, 0x3FC00000, 0x40000000), (.madd 35 33 33 0 0, 3, 0x40400000, 0x41000000),
      (.mscl 35 33 2 0, 3, 0x40400000, 0x41800000), (.mmul 35 33 2 0 0, 3, 0x40400000, 0x41800000), (.mclip 35 33 0 0, 3, 0x3FC00000, 0x40800000),
      (.msq 35 33 0, 3, 0x40C80000, 0x42880000)] &&
    givesLane s [(.mget 10 33 11 0, 10, 3, 0x3FC00000), (.mget 10 33 11 0, 11, 3, 0x40800000), (.mcolMean 10 33 0, 10, 3, 0x3FC00000),
      (.mcolHi 10 33 0, 10, 3, 0x40600000), (.mcolLo 10 33 0, 10, 3, 0xBF000000), (.mcorr 8 0, 31, 3, 0)] &&
    traps s [(.mcorr 1 0, .negvar, 0, 3)]) = true := by decide +kernel

/-- z0 has one configured row; ta0 holds 1.0 at its first element and tb0 holds 2.0 there, in bf16. -/
def tiles : State :=
  let s := floats
  { s with core := { s.core with rows := s.core.rows.set 0 1, bufs := Store.setList 0 (Store.setList 0 [] 0 [0x80, 0x3F]) 32769 [0x40] } }

-- spec/17 R240: COMBO under an integer format, NOTILE without rows
theorem test_matrix_checks : traps tiles [(.mmap 0 0 0 0 0, .fmt, 2, 0), (.mma 1 0 0 0 0, .park, 5, 0), (.mmt 1 0 0 0 0, .park, 5, 0),
    (.mmm 0 0 0 0 0 0, .park, 5, 0), (.mmas 0 0 0 0 0 0 0, .fmt, 2, 0)] = true := by decide +kernel

-- spec/09 R119: 1 · 2 + 3 · 0.5 summed exactly and rounded once; ∞ − ∞ is invalid; a scale byte of 0xFF makes a NaN
theorem test_group_sum : (let v := fun c => bf16.value c
    finish (groupSum [(v 0x3F80, v 0x4000), (v 0x4040, v 0x3F00)]) == (0x40600000, 0) &&
    groupSum [(v 0x7F80, v 0x3F80), (v 0xFF80, v 0x3F80)] == (.nan, fINV) &&
    scaledSum false 127 128 (groupSum [(v 0x3F80, v 0x4000)]) == (0x40800000, 0) && scaledSum false 255 0 (.nan, 0) == (0x7FC00000, 0) &&
    (accLoop 2 true (fun _ => (0x3F800000, 0)) 0x40800000).1 == 0 && (accLoop 1 true (fun _ => (0x3F800000, 0)) 0x40800000).1 == 0x40800000) =
    true := by decide +kernel

theorem test_tiles : (let s := (floats.setX 5 0x40000000).setX 6 0x40
    (runAll [.tcfg 3 64 0, .twr 0 1 63, .twr 1 2 63, .tadd 0 1 0, .tscl 1 5, .trd 0 10 63, .trd 1 11 63] s).any (fun t =>
      (t.v 10).toList.getD 9 0 == 0x40600000 && (t.v 11).toList.getD 9 0 == 0x40800000) &&
    (runAll [.tcfg 1 64 0, .twr 0 1 5, .tzero 1, .trd 0 10 5] s).any (fun t => (t.v 10).toList.getD 9 1 == 0) &&
    (runAll [.tcfg 1 64 0, .tfree 1 0] s).any (fun t => t.rows 0 == 0) &&
    (runAll [.ofs 2 5 6, .ofsr 2 9 0, .ofsr 2 8 1] s).any (fun t => t.x 9 == upad && t.x 8 == 0x40) &&
    traps s [(.trd 0 10 0, .park, 5, 0), (.tscl 0 5, .park, 5, 0)]) = true := by decide +kernel

-- spec/17 R250: one bf16 row of 128 bytes at ADDR of o1, which PI advances; an address that is not a multiple of 16
theorem test_tile_conversion : (let s := (floats.setX 5 0x40).setX 6 0x80
    (runAll [.tcfg 1 1 0, .ofs 1 5 6, .tcvt 0 1 0 1 0] s).any (fun t => (t.o 1).addr == 0xC0) &&
    (runAll [.tcfg 1 1 0, .ofs 1 6 6] (s.setX 6 8)).any (fun t => traps t [(.tcvt 0 1 0 0 0, .align, 1, upad + 8), (.tcvt 1 1 0 0 0, .park, 5, 0)])) =
    true := by decide +kernel

/-- A copy descriptor of `n` elements of one byte. -/
def oneRow (n : Nat) : BitVec 512 := BitVec.ofNat 512 n ||| (1#512 <<< 64) ||| (1#512 <<< 80) ||| (1#512 <<< 96) ||| (1#512 <<< 112) ||| (1#512 <<< 128)

/-- A state whose cd0 holds a row of `n` bytes, with bytes at the U-pad and the counters 0x20 and 0x21 of context 1. -/
def copying (n : Nat) : State :=
  let s := (((State.poke base 0 [1, 2, 3, 4]).setX 5 upad).setX 6 (upad + 0x40)).setX 7 0x20
  { s with core := { s.core with cd := s.core.cd.set 0 (oneRow n) }, sync := { s.sync with owner := [(0x20, 1), (0x21, 1)] } }

-- spec/21 R279, R283, R285: the held add at issue, the bytes at the completion, and BADCOPY for a descriptor of no elements
theorem test_copy : (runs (.cpy 0 7 5 6) (copying 4) (fun t => t.memByte 0x40 == 0 && t.eng.ops.length == 1 &&
      t.sync.held.map (fun h => (h.key, h.amount)) == [(0x20, 4)] &&
      runs (.copyComplete 0) t (fun u => u.memByte 0x40 == 1 && u.memByte 0x43 == 4 && u.memByte 0x44 == 0 && u.eng.ops == [])) &&
    runs (.pfill 0 0 7 6) (copying 4) (fun t =>
      runs (.copyComplete 0) t fun u => u.memByte 0x40 == 0x20 && u.memByte 0x43 == 0x20 && u.memByte 0x44 == 0) &&
    traps (copying 0) [(.cpy 0 0 5 6, .stream, 9, 0), (.cpyb 0 0 5 6, .stream, 9, 0), (.cpyg 0 0 5 6, .stream, 9, 0)] &&
    traps (copying 4) [(.cpy 0 9 5 6, .counter, 2, 0), (.cdesc 0 7, .page, 2, 0x20)] &&
    runs (.cdesc 3 5) (copying 4) (fun t => t.core.cd[3] == 0x04030201)) = true := by decide +kernel

-- spec/21 R291, spec/07 R96: the add is held until the commit; a handle beyond the context's is BADHANDLE
theorem test_counters : (runs (.caddImm 7 0 2 5) (copying 4) (fun t => t.counter 0x20 == 0 && t.heldSum 0x20 == 5 && t.commit.counter 0x20 == 5) &&
    runs (.cadd 7 7 2) (copying 4) (fun t => t.heldSum 0x20 == 0x20) && waits (.cwait 7 7 3) (copying 4) &&
    runs (.cwait 7 0 3) (copying 4) (fun t => t.core.run == .running) && runs (.ctest 7 0 3 2) (copying 4) (fun t => t.p 2 == 1) &&
    gives ((copying 4).applyAdd 0x20 77 0 0) [(.cread 7 10 3, 10, 77)] &&
    traps (copying 4) [(.cadd 0 7 2, .counter, 2, 0), (.cread 5 10 3, .counter, 2, 0)]) = true := by decide +kernel

-- spec/21 R292: the old word is returned, min and max are signed
theorem test_atomics : (let s := ((((State.poke base 0 [0xFE, 0xFF, 0xFF, 0xFF, 0xFF, 0xFF, 0xFF, 0xFF]).setX 5 upad).setX 6 3).setX 7 (-2)).setX 8 (-2)
    runs (.amoAdd 10 5 6 3 2) s (fun t => t.memByte 0 == 1 && t.memByte 7 == 0 && t.x 10 == -2 && t.core.take.atomic) &&
    runs (.amoMin 10 5 6 2 2) s (fun t => t.memByte 0 == 0xFE && t.x 10 == -2) && runs (.amoMax 10 5 6 2 2) s (fun t => t.memByte 0 == 3) &&
    runs (.amoAnd 10 5 6 2 2) s (fun t => t.memByte 0 == 2 && t.x 10 == 0xFFFFFFFE) && runs (.amoOr 10 5 6 2 2) s (fun t => t.memByte 0 == 0xFF) &&
    runs (.amoXor 10 5 6 2 2) s (fun t => t.memByte 0 == 0xFD) && runs (.amoXchg 10 5 6 2 2) s (fun t => t.memByte 0 == 3 && t.memByte 4 == 0xFF) &&
    runs (.amocas 8 5 6 3 2) s (fun t => t.memByte 0 == 3 && t.x 8 == -2) && runs (.amocas 6 5 6 3 2) s (fun t => t.memByte 0 == 0xFE) &&
    traps (s.setX 5 (upad + 4)) [(.amoAdd 10 5 6 3 2, .align, 1, upad + 4)]) = true := by decide +kernel

/-- A queue header at the U-pad with WRITE, READ, the ring at offset 0x1000 and LG. -/
def queueAt (w r lg : Nat) : State :=
  (State.poke floats 0 (leBytes 64 (w + 2 ^ 64 * r + 2 ^ 128 * (upad + 0x1000).toNat + 2 ^ 192 * lg))).setX 5 upad

-- spec/21 R293 and the worked packet of spec/23: index 130 with LG 6 stands in slot 2 with lap byte 3
theorem test_queue_append : (runs (.qapp 5 20 4 7) (queueAt 130 70 6) (fun t => t.x 20 == 130 && t.memByte 0x1080 == 2 &&
      t.memByte 0x10BF == 3 && t.memByte 0 == 131) &&
    gives (queueAt 56 40 4) [(.qapp 5 20 4 7, 20, -1)] && gives (queueAt 56 40 17) [(.qapp 5 20 4 7, 20, -2)]) = true := by decide +kernel

/-- A stream of two experts and 64 f32 elements, with a slot of experts 3 and 9 (weights 0.75 and 0.25) that holds the rows listed. -/
def cstream2 (sub : Nat) : CStream := { CStream.none with configured := true, asid := 1, sub := sub, inF32 := true, k := 2, d := 64, s := 1, rlen := 1 }

def slot39 (js : List Nat) : CSlot :=
  { token := 5, pairs := [(3, 0x3F400000), (9, 0x3E800000)], arrived := (js.map (2 ^ ·)).sum, putBy := [],
    rows := js.map fun j => (j, (List.replicate 64 (if j = 0 then [(0 : Byte), 0, 0, 0x40] else [0, 0, 0, 0x41])).flatten), bad := [],
    seq := 0, uid := 0, deadline := some 7, complete := false, turn := 0, late := false }

-- the table "One element under each substitution" of spec/21
theorem test_combine_sums : ([((0 : Nat), [0, 1], (0x40600000 : W32)), (0, [1, 0], 0x40600000), (0, [0], 0x3FC00000), (1, [0], 0x40000000), (1, [1], 0x41000000)]).all
    (fun e => ((slot39 e.2.1).sum (cstream2 e.1)).getD 17 0 == e.2.2) = true := by decide +kernel

/-- Stream 0 of die 0 holds the slot, and v1 a record of the token with its pairs. -/
def combining (js : List Nat) : State :=
  let s := ((copying 256).setCstream 0 { cstream2 0 with slots := [(0, some (slot39 js))] }).setV 1
    ((((((lanes fun _ => 0).set 0 5).set 1 9).set 2 3).set 9 0x3E800000).set 10 0x3F400000)
  (s.setX 8 (5 * 2 ^ 32 + 9 * 2 ^ 16)).setX 11 (6 * 2 ^ 32)

-- spec/21 R298-R307: the live token's slot; CBMISS for a stream that is not configured and a token that has no slot
theorem test_combine : (gives (combining []) [(.cbal 0 20 1, 20, 0), (.cbst 0 20 1, 20, 1)] &&
    runs (.cbalNb 0 20 2 1) (combining []) (fun t => t.x 20 == 0 && t.p 2 == 1) &&
    runs (.cbput 0 0 5 8) (combining []) (fun t => t.eng.ops.map (fun o => (o.pos, o.fresh, o.row.length)) == [(1, true, 256)]) &&
    runs (.cbdrop 0 8) ((combining []).setX 8 5) (fun t => (t.cstream 0).live.isEmpty && (t.cstream 0).drops == 1) &&
    traps (combining []) [(.cbdrop 0 11, .cbmiss, 1, 0)] && traps ((combining []).setX 9 1) [(.cbal 9 20 1, .cbmiss, 4, 0)] &&
    (runAll [.cbput 0 0 5 8] (combining [0])).any (fun t => runs (.cbputDeposit 0) t (fun u => (u.cstream 0).live.isEmpty &&
      u.sched.events.map (fun e => (e.cause.code, e.w0, e.w1)) == [(23, 0x30000, 0x8000000000000005)]))) = true := by
  decide +kernel

theorem test_collective_group : traps (copying 4) [(.coll 0 0 5 6, .stream, 9, 0)] = true := by decide +kernel

/-! For every statement with hypotheses, states that meet them, clause by clause. -/

/-- The facts all hold. -/
def holds (l : List Bool) : Bool := l.all id

/-- The operation answers. -/
def okay {α : Type} (r : Res α) : Bool := match r with | .ok _ => true | .error _ => false

/-- The operation traps. -/
def fails {α : Type} (r : Res α) : Bool := match r with | .error (.trap _) => true | _ => false

/-- No word of the core is in error. -/
def clean? (s : State) : Bool := s.core.upsets.isEmpty

theorem witness_StepKeepsCanonical : Memory.wf (copying 4).st.mem ∧ holds [Store.wf 0 (copying 4).sync.owner,
    (match step (inBundle (copying 4) 1) with | .next t => t.core.bundle.any (fun b => b.slot == 2) | _ => false)] = true := by
  decide +kernel

theorem witness_StoreLaws : holds [Store.wf (0 : Byte) [(3, 7)], Store.wf (0 : Byte) (Store.set 0 [(3, 7)] 3 0),
    Store.set (0 : Byte) [(3, 7)] 3 0 == [], Store.get (0 : Byte) [(3, 7)] 3 == 7] = true := by decide +kernel

theorem witness_StepRunsTheSlot : holds [(inBundle base 1).agenda == [], (inBundle base 1).core.gated == false,
    (inBundle base 1).core.pending == none, (inBundle base 1).core.evicting == false, (inBundle base 1).core.bundle.isSome,
    (inBundle base 1).core.rep == none, (inBundle base 1).core.run == .running,
    (inBundle base 1).core.bundle.any (fun b => (slotInstr b.word b.slotNo).toOption == some .nop),
    (let u := (inBundle base 1).tick.trySlippedAll
     u.core.run == .running && u.core.bundle == (inBundle base 1).core.bundle && !u.canSlip && !u.waitsForHeld .nop)] = true := by decide +kernel

/-- Core 0 of `s` latched an instruction in slot 0 of a bundle, and waits there. -/
def standing (s : State) (i : Instr) : State :=
  { s with core := { s.core with run := .blocked, bundle := some { word := BitVec.allOnes 128 <<< 32 ||| ((encode i).getD 0).setWidth 128,
                                                                   slot := 0, skip := false, replay := false, target := none } } }

/-- Core 0 of `s` holds back a cwait of the bundle before the one that it has latched. -/
def slipping (s : State) : State :=
  match (standing s (.cwait 7 7 3)).core.bundle with
  | some b => { inBundle s 0 with core := { (inBundle s 0).core with slipped := [{ bundle := b, pc := s.core.pc - 16, no := 0, x := s.core.x, stalled := none,
                                                                                   granules := [], clears := false, acquires := true }] } }
  | none => s

theorem witness_StepRunsTheEvent : ({ base with agenda := [.event .quiescence] } : State).agenda = .event .quiescence :: [] ∧
    (match step { base with agenda := [.event .quiescence] } with | .next t => t.agenda == [] | _ => false) = true := by
  decide +kernel

/-- What a state that is about to fetch meets. -/
def fetching (s : State) (take : Bool) : Bool :=
  s.agenda == [] && !s.core.gated && s.core.pending == none && !s.core.evicting && s.core.bundle == none && s.core.run == .running &&
  s.core.gang == none && s.core.loop == none && s.core.rep == none && s.core.slipped == [] &&
  match s.tick.fetch with
  | .error _ => false
  | .ok (u, w) =>
    let f := if flushesBefore w then u.flushStreams else u
    u.refuses w == none && !u.heldBack w && (beginsTakeAt w && f.core.take.started) == take &&
    match (if beginsTakeAt w && f.core.take.started && !f.skipsLoop w false then f.boundaryAll else .ok f) with
    | .ok v => v.core.run == .running && v.core.rep == none && v.core.gang == none && v.core.slipped == [] && !v.heldBack w &&
        v.cur == s.cur && v.core.issued == s.core.issued
    | .error _ => false

theorem witness_StepFetchesAndRuns : holds [fetching (State.reset.withFetchWord 32 0x080A6005) false,
    fetching (let s := State.reset.withFetchWord 32 0x10000000
      { s with core := { s.core with take := { s.core.take with started := true } } }) true] = true := by decide +kernel

theorem witness_StepFetchesAndRuns_core : (match (State.reset.withFetchWord 32 0x080A6005).tick.fetch with
    | .ok (u, _) => decide (u.core = { (State.reset.withFetchWord 32 0x080A6005).core with tlb := u.core.tlb })
    | .error _ => false) = true := by decide +kernel

/-- A bundle word of the four slots. -/
def word4 (a b c d : W32) : BitVec 128 := (d ++ c ++ b ++ a : BitVec 128)

-- spec/11 R137: slot 0 is checked before slot 1; tinv in a context; a take mark in slot 1
theorem witness_DispatchChecks : holds [illegalSlot base.feat (word4 0x1E000000 0x1E000000 0 0) 0 == some 2,
    illegalSlot base.feat (word4 0xFFFFFFFF 0x1E000000 0xFFFFFFFF 0xFFFFFFFF) 0 == none,
    (base.refuses (word4 0xFFFFFFFF 0x1E000000 0xFFFFFFFF 0xFFFFFFFF)).map (fun e => e.2) == some 1,
    firmwareOnly (slotOf (word4 ((encode (.tinv 1 2)).getD 0) 0xFFFFFFFF 0xFFFFFFFF 0xFFFFFFFF) 0),
    (base.refuses (word4 ((encode (.tinv 1 2)).getD 0) 0xFFFFFFFF 0xFFFFFFFF 0xFFFFFFFF)).map (fun e => (e.1.cause, e.2)) ==
      some (.priv, 0),
    (base.refuses (word4 0xFFFFFFFF 0xFFFFFFFF 0x80000000 0xFFFFFFFF)).map (fun e => (e.1.cause, e.1.detail, e.2)) == some (.bundle, 2, 2),
    (base.refuses (word4 0x080A6005 0x080A6005 0xFFFFFFFF 0xFFFFFFFF)).map (fun e => e.1.cause) == some .bundle] = true := by
  decide +kernel

theorem witness_DecodeEncode : holds [(Instr.add 1 2 3 4).wf, (encode (.add 1 2 3 4)).isSome,
    (Instr.addi 31 31 ⟨0xFFF, some 0xFF⟩).wf, extByte (.addi 31 31 ⟨0xFFF, some 0xFF⟩) == some 0xFF, base.core.upsets == []] = true := by
  decide +kernel

theorem witness_ScalarArithmeticResults : holds [clean? ints, (8#4).toNat ≤ 8, ints.guard 0, !ints.guard 5] = true := by decide +kernel

theorem witness_ScalarDivisionResults : holds [clean? ints, ints.x 0 == 0, (ints.x 3).toInt == -2 ^ 63, (ints.x 6).toInt == -1,
    ints.x 2 != 0, !((ints.x 1).toInt == -2 ^ 63 && (ints.x 2).toInt == -1)] = true := by decide +kernel

theorem witness_ScalarUnaryAndImmediateResults : holds [clean? ints, (1#4).toNat ≤ 1] = true := by decide +kernel

theorem witness_ScalarFrame : holds [clean? ints, ([.add 10 1 2 0, .sub 10 1 2 5, .rem 10 1 0 0 1, .lih 10 ⟨1, none⟩] : List Instr).all fun i =>
      runs i ints fun _ => true,
    (let s := { ints with core := { ints.core with upsets := [(20, 1)] } }
     s.core.upsets != [] && s.guard 0 && s.core.upsets.all fun e => e.1 != 2 ^ 16 && e.1 / 2 != 1 && e.1 / 2 != 2)] = true := by
  decide +kernel

theorem witness_CompareAndSelect : holds [clean? ints, (5#4).toNat ≤ 5, ints.guard 0, !ints.guard 5, (ints.p 0).getLsbD 0,
    !(ints.p 3).getLsbD 0] = true := by decide +kernel

theorem witness_BranchEffects : holds [clean? ints, !ints.guard 5, ints.guard 0, (ints.x 5).toNat % 16 == 0, (ints.x 2).toNat % 16 != 0] =
    true := by decide +kernel

/-- The bundle of a state, with a taken branch. -/
def taken (s : State) (a : W64) : State := { s with core := { s.core with bundle := s.core.bundle.map fun b => { b with target := some a } } }

/-- The present core, with two wrong bits in a protected word. -/
def inError (s : State) (w : Nat) : State := { s with core := { s.core with upsets := [(w, 2)] } }

theorem witness_AfterBundle : holds ([loopEnd 2, loopEnd 1, taken (loopEnd 2) 0x40, inBundle base 3].map fun s =>
      s.core.run == .running && s.core.rep == none && s.core.bundle.any fun b => !b.skip && b.slot == 3) = true ∧
    holds [targetOf (taken (loopEnd 2) 0x40) == some 0x40, (inBundle base 3).core.loop == none, targetOf (inBundle base 3) == none,
      (loopEnd 2).core.loop.any fun l => l.xt != 0 && ((loopEnd 2).core.pc - l.head).toNat / 16 == l.len &&
        ((loopEnd 2).x l.xt).toNat == 2 && ((loopEnd 1).x l.xt).toNat == 1,
      (loopEnd 2).core.bundle.any fun b => (loopEnd 2).core.tripWords b != [] && ((loopEnd 2).core.tripWords b).all fun r =>
        inWords ((inError (loopEnd 2) r.1).core.tripWords b) r.1] = true := by decide +kernel

/-- Cores 0 and 1 of `s` are a gang, and the second stands `d` bytes further. -/
def ganged (s : State) (d : W64) : State :=
  let t := { s with core := { s.core with gang := some { cores := [0, 1], pos := 0 } } }
  t.onCore 1 fun _ => { t.core with gang := some { cores := [0, 1], pos := 1 }, pc := t.core.pc + d }

/-- A copy of an earlier bundle stands in flight. -/
def flying : State := match exec (.cpy 0 0 5 6) (copying 4) with | .next t => { t with core := { t.core with issued := t.core.issued + 1 } } | _ => base

/-- A copy stands in flight that has a watched byte to write. -/
def watching : State := { flying with eng := { flying.eng with ops := flying.eng.ops.map fun (o : EngineOp) => { o with writes := [(0, true)] } } }

/-- The bundle of a state, replayed from a loop, or skipping its slots. -/
def bundleAs (s : State) (replay skip : Bool) : State :=
  { s with core := { s.core with bundle := s.core.bundle.map fun b => { b with replay := replay, skip := skip } } }

theorem witness_HeadersAndLoops : holds [clean? (loopBundle 0), (loopBundle 0).core.bundle.any (fun b => !b.replay), (loopBundle 0).x 14 == 0,
    (loopBundle 3).x 14 != 0, (bundleAs (loopBundle 3) true false).core.bundle.any (fun b => b.replay),
    (bundleAs (loopBundle 0) false true).core.run == .running, flying.partsOut flying.core.issued, !base.partsOut base.core.issued,
    clean? flying, waits (.rep 1 3 0) flying] = true := by decide +kernel

/-- `regs` with x5 a core of the cluster and x6 an entry. -/
def spawning (k e : W64) : State := regs [(5, k), (6, e)]

theorem witness_SpawnReserves : holds [clean? (spawning 15 0x4000), (spawning 15 0x4000).core.run != .blocked,
    (spawning 15 0x4000).core.gang == none, canonical ((spawning 15 0x4000).x 6), (0x4000 : Nat) % 16 == 0,
    ((spawning 15 0x4000).x 5).toNat ≤ 15, (spawning 15 0x4000).cur < 2048, 15 != (spawning 15 0x4000).cur % 16,
    ((spawning 15 0x4000).coreAt 15).shot == none, ((spawning 15 0x4000).coreAt 15).reserved == none, (spawning 15 0x4000).available 15,
    !((spawning 15 0x4000).coreAt 15).gated, (((spawning 15 0x4000).onCore 15 fun c => { c with gated := true }).coreAt 15).gated,
    ((spawning 15 0x4000).onCore 15 fun c => { c with gated := true }).available 15] = true := by decide +kernel

theorem witness_SpawnChecks : holds [({ base with core := { base.core with gang := some { cores := [0, 1], pos := 1 } } } : State).core.gang.isSome,
    !canonical 0x8000000000000000, (0x4001#64).toNat % 16 != 0, 15 < (16#64).toNat, ((spawning 0 0x4000).x 5).toNat == base.cur % 16,
    ((base.onCore 1 fun c => { c with shot := some { launch := 0, index := 0, kind := .placed } }).coreAt 1).shot.isSome,
    (((spawning 1 0x4000).reserve 1 0x4000).coreAt 1).reserved.isSome, (((spawning 1 0x4000).reserve 1 0x4000).coreAt 1).shot == none,
    !(base.onCore 1 fun c => { c with resident := 7 }).available 1] = true := by decide +kernel

/-- A state whose q0 holds an entry. -/
def queued (s : State) (n : Nat) : State := { s with core := { s.core with q := s.core.q.set 0 (List.replicate n Lanes.zero) } }

theorem witness_DoneEndsShot : holds [(withShot .placed).core.gang == none, !(withShot .placed).qLeft, (queued (withShot .spawned) 1).qLeft,
    !(withShot .handler).qLeft, !(withShot .event).qLeft, watching.watchedOut, watching.core.gang == none,
    !(withShot .placed).watchedOut, waits .doneShot watching] = true := by decide +kernel

theorem witness_TrapEntry : holds [clean? base, base.x 5 == 0, (regs [(5, 9)]).x 5 != 0, base.core.gang == none, base.core.image.loop == none] =
    true := by decide +kernel

/-- Core 0 in a deterministic context, with a supply for its bundle's slot 0, unused or used. -/
def supplied (used : Bool) : State :=
  let s := inBundle base 0
  { s with core := { s.core with ctx := 0x40000001, latch := [{ addr := 0x1000, slot := 0, value := 77, used := used }] } }

theorem witness_ControlRegisterReads : holds [clean? base, !base.det, base.cur < 2048, Cr.ofNumber 2 == none, (supplied true).det,
    clean? (supplied true), (supplied false).core.latch.all (fun e => e.addr == (supplied false).core.pc && e.slot == (supplied false).where_.1),
    runs (.rdclk 10) (supplied false) (fun t => t.x 10 == 77 && t.core.latch.all (·.used)), traps (supplied true) [(.rdclk 10, .detread, 0, 0)],
    base.core.awaitStep == none, ({ base with core := { base.core with awaitStep := some 0 } } : State).core.awaitStep == some base.mod.step,
    (1 : W64) != base.mod.step] = true := by decide +kernel

theorem witness_ControlRegisterWrites : holds [clean? (firmware []), 2048 ≤ (firmware []).cur, base.cur < 2048, clean? base] = true := by
  decide +kernel

theorem witness_ModeWrites : holds [clean? base, !fmtAbsent base.feat 0x88880000, !fmtAbsent base.feat 0x12120004,
    (0x88880005 &&& (7#64)).toNat > 4, (0x7F7FFFFF#64).toNat % 2 ^ 32 < 0x7F800000, 0x7F800000 ≤ (0x7F800000#64).toNat % 2 ^ 32,
    (({ Core.reset with fmtWrites := [{ value := 1, left := 1 }] } : Core).fmtWrites == [{ value := 1, left := 1 }]),
    ({ Core.reset with fmtSet := true } : Core).fmtSet, !Core.reset.fmtSet, !Core.reset.momSet,
    ({ Core.reset with momSet := true } : Core).momSet,
    (let s := (ganged (inBundle base 0) 0).focus 1
     let t := s.onCore 0 fun c => { c with bundle := none, fmtWrites := [{ value := 0x88880001, left := 5 }] }
     clean? s && s.lead != s.cur && !s.leadPast && t.lead != t.cur && t.leadPast && okay (t.setFmt (t.coreAt t.lead).lastFmt) &&
       okay (t.setMom (t.coreAt t.lead).lastMom) && base.lead == base.cur &&
       runs (.setfmt 5) t (fun u => u.core.fmtWrites == [{ value := 0x88880001, left := 5 }]))] = true := by decide +kernel


theorem witness_FenceAndWait : holds [clean? flying, (8#4).getLsbD 3, flying.copiesOut flying.core.issued == 1, !(7#4).getLsbD 3,
    base.copiesOut base.core.issued == 0, (0#4).toNat < 1, (15#4).toNat == 15, (1#4).toNat ≥ 1] = true := by decide +kernel

/-- Firmware of die 0 with a stopped core 3, its U-pad block granted, and x registers. -/
def keeper (l : List (BitVec 5 × W64)) : State := (firmware l).onCore 3 fun c => { c with run := .stopped, takepc := 0x3000 }

theorem witness_FirmwareCoreControl : holds [clean? (keeper []), (0x1001#64).toNat % 4096 != 0, (0x1000#64).toNat % 4096 == 0,
    !(keeper []).accessesOpen 5, ((keeper []).dropTlb 5 0x1000 0).accessesOpen 5 == false,
    (let s := { keeper [] with eng := { (keeper []).eng with ops := flying.eng.ops, next := 1 } }
     (s.dropTlb 1 0x1000 0).accessesOpen 1),
    dieOf 3 == dieOf (keeper []).cur, ((keeper []).coreAt 3).run == .stopped, (keeper []).core.run == .running,
    dieOf 256 != dieOf (keeper []).cur, ((keeper []).coreAt 4).run == .idle, (0x40#64).toNat % 64 == 0, (0x41#64).toNat % 64 != 0] = true := by
  decide +kernel

/-- The first 2 MiB of a context's addresses, read, written and fetched. -/
def paged (s : State) (asid : Nat) : State :=
  { s with core := { s.core with tlb := [{ asid := asid, base := 0, size := 0x200000, frame := 0, x := true, own := true, h := false,
                                           wa := true, w := true, mixed := false }] } }

theorem witness_CoreImageTransfers : (let s := paged (keeper []) 0
    match s.check { write := true } [(0x40, partSize 0)] none, s.check {} [(0x40, partSize 0)] none with
    | .ok (u, _), .ok (v, ts) => u.flushStreams.cur == 2048 && (u.flushStreams.coreAt 3).upsets == [] && v.flushStreams.cur == 2048 &&
        !(ts.any fun x => x.raw % 16 == 0 && (v.flushStreams.settle (ts.map (·.raw))).bad x.raw)
    | _, _ => false) = true := by decide +kernel

/-- Firmware at a pair on which context 1, whose PWRCAP forbids ballast, has a shot and another core holds ballast. -/
def capped : State :=
  let s := (firmware [(7, 1), (9, 0x30000000001)]).onCore 1 fun c => { c with ctx := 1, run := .running, shot := some { launch := 0, index := 0, kind := .placed } }
  (s.onCore 18 fun c => { c with ballast := some 2 }).setContext 1 { ctx1 with pwrcap := 0x10A01 }

/-- Firmware with one live die. -/
def oneDie (l : List (BitVec 5 × W64)) : State := { paged (firmware l) 0 with mod := { State.reset.mod with lives := [0] } }

theorem witness_FirmwareDeviceWrites : holds [clean? (oneDie []), !(oneDie []).rawValid 0xF000000000000000,
    (oneDie []).rawValid 0x3000000000000040, !(oneDie []).coreRuns 0x3000000000000040, okay ((oneDie []).load [(0x40, imageSize 0x3000000000000040)] none),
    ({ oneDie [] with cores := [(3, { Core.reset with run := .running })] } : State).coreRuns 0x5006000000000000,
    (oneDie []).st.flaws == [], levelOf 8 < 3, !((oneDie []).context 5).live, (base.context 1).live, clean? base,
    ({ oneDie [] with mod := { (oneDie []).mod with dies := (oneDie []).mod.dies.set 0 { (oneDie []).die 0 with shed := true } } } : State).retained 0,
    !(oneDie []).retained 0, base.pairsWith 1 == [],
    (let s := capped
     s.pairsWith 1 == [0] && s.noBallast 0 && Store.wf Core.reset s.cores && (pairCores 0).contains 18 && clean? s &&
       (s.coreAt 18).ballast.isSome && runs (.pwrwPwrcap 7 9) (s.setContext 1 { s.context 1 with pwrcap := 0 }) (fun t => (t.coreAt 18).ballast.isNone))] = true ∧
    holds [(0x30000 : Nat) / 2 ^ 16 % 4 == 3, (0x1000000 : Nat) / 2 ^ 24 == 1, (oneDie []).rawValid 0x3000000000001000,
      0x3000000000001000 / 2 ^ 60 == 3, 0x3000000000001000 % 4096 == 0, !((oneDie []).mod.hibheld),
      ({ oneDie [] with mod := { (oneDie []).mod with hibheld := true } } : State).mod.hibheld,
      gives ((oneDie [(5, 0x1000000), (6, 0x3000000000001000)])) [(.hibwSetEntry 10 5 6, 10, 0),
        (.scrb 10 6 0, 10, 0)]] = true := by decide +kernel

theorem witness_VectorOperands : holds [(31#6).toNat < 32, (queued base 8).boundTo 0 == none, (queued base 8).q 0 != [], base.q 0 == [],
    (queued base 7).q 0 != [], ((queued base 7).q 0).length < 8, 8 ≤ ((queued base 8).q 0).length,
    (base.core.hold.getD base.vport none).isNone, ({ base with core := { base.core with hold := #v[some Lanes.zero, none] } } : State).vport == 0,
    okay (base.src 31), okay ((queued base 1).src 32), okay ((queued base 1).src 55) == false, okay ((queued base 1).src 48)] = true := by
  decide +kernel

theorem witness_VectorFloatLanes : holds [clean? floats, okay (floats.srcA 1 1), okay (floats.src 2),
    okay (floats.dst 31 (floats.p 0) Lanes.zero), okay (floats.dst 32 (floats.p 0) Lanes.zero)] = true := by decide +kernel

theorem witness_VectorIntegerLanes : holds [clean? floats, okay (floats.srcA 6 0), okay (floats.src 7), okay (floats.dst 62 (BitVec.allOnes 64) Lanes.zero),
    (5#3).toNat ≤ 5] = true := by decide +kernel

theorem witness_VectorTranscendentalLanes : holds [clean? floats, isNaN 0xFFFFFFFF, (0xBF800000 : W32).msb, !isNaN (0xFF800000 : W32),
    0x43000000 ≤ (0x43000000#32).toNat, (0x7F7FFFFF#32).toNat < 0x7F800000, (0xB97FFFFF#32).toNat % 2 ^ 31 < 0x39800000,
    0x41800000 ≤ (0xC1800000#32).toNat % 2 ^ 31, (0xFF800000#32).toNat % 2 ^ 31 ≤ 0x7F800000] = true := by decide +kernel

theorem witness_VectorPrefixAndReduce : holds [clean? floats, okay (floats.srcA 5 0), okay (floats.src 5), okay (floats.dst 10 (BitVec.allOnes 64) Lanes.zero),
    ((List.range 64).filter fun j => (floats.p 0).getLsbD j) != [], ((List.range 64).filter fun j => (floats.p 1).getLsbD j) == [],
    gives floats [(.vredI32 62 6 9 1 1, 9, 0x7FFFFFFF), (.vredN32 62 6 9 1 1, 9, 0xFFFFFFFF), (.vredF32 62 1 9 1 0, 9, 0x80000000)]] = true := by
  decide +kernel

theorem witness_VectorLaneMoves : holds [clean? floats, okay (floats.srcA 5 0), okay (floats.src 7), okay (floats.dst 10 (floats.p 0) Lanes.zero),
    (31#6).toNat < 32] = true := by decide +kernel

theorem witness_VectorConversions : holds [clean? floats, floats.core.fmt.toNat / 256 % 8 != 4,
    (let s := { floats with core := { floats.core with fmt := 0x88880400 } }
     s.core.fmt.toNat / 256 % 8 == 4 && okay (s.srcA 1 0) && givesLane (s.setV 9 (lanes fun _ => 0x3F808000)) [(.vcvtBf16F32 10 9 7 0 0, 10, 0, 0x3F81)]),
    !isNaN (0x7F7FFFFF : W32), isNaN (0xFF800001 : W32), (bf16.value 0x7F80).isNan == false, (e4m3.value 0xFE).isNan == false] = true := by
  decide +kernel

theorem witness_StorageWrites : holds [Store.wf (0 : Byte) base.st.mem, base.st.flaws == [], base.st.poison == [], base.st.lines == [], levelOf 5 != 4,
    (base.writeBytes [(5, 1), (5, 2)]).memByte 5 == 2] = true := by decide +kernel

/-- Core 0 with its U-pad address in x5. -/
def padded : State := base.setX 5 upad

theorem witness_ScalarLoadsAndStores : holds [clean? padded, okay (padded.load [(upad, 8)] none), fails (padded.load [(upad + 1, 8)] (misaligned (upad + 1) 8)),
    okay (padded.store [(upad, 8)] none (leBytes 8 7)), fails (padded.store [(upad + 0x10000, 8)] none (leBytes 8 7)), okay (padded.consume upad 8 true),
    fails (padded.consume (upad + 4) 8 false), okay (padded.storeFull upad 8 (leBytes 8 7)), fails (padded.storeFull (upad + 4) 8 (leBytes 8 7)),
    okay (padded.clearPresence upad 16), fails (padded.clearPresence (upad + 8) 16), Store.wf (0 : Byte) padded.st.mem, padded.cur < 2048,
    padded.st.flaws == [], padded.st.poison == [], padded.core.take.foul == [], padded.core.take.overlay == [], padded.core.pushed == [],
    (Store.get 0 padded.ctx.pads 0x3000000) % 4 == 3, (Store.get 0 padded.ctx.pads 0x3000001) % 2 == 0,
    (Store.get 0 ({ base with sched := { base.sched with contexts := [(1, { ctx1 with pads := [(0x3000000, 1)] })] } } : State).ctx.pads 0x3000000) % 4 == 1,
    padded.eng.ops == [], fails (padded.load [(upad + 0x10000, 8)] none),
    fails (({ padded with sched := { base.sched with contexts := [(1, { ctx1 with pads := [(0x3000000, 1)] })] } } : State).store [(upad, 8)] none (leBytes 8 7))] = true := by decide +kernel

theorem witness_LoadAndStoreFrame : holds [Store.wf (0 : Byte) padded.st.mem, padded.core.pushed == [],
    okay (padded.check { write := true } [(upad, 8)] (misaligned upad 8)), okay (padded.store [(upad, 8)] (misaligned upad 8) (leBytes 8 7)),
    okay (padded.check { write := true, presence := true } [(upad, 8)] (misaligned upad 8)), okay (padded.storeFull upad 8 (leBytes 8 7)),
    okay (padded.load [(upad, 8)] none), okay (padded.consume upad 8 true)] = true := by decide +kernel

/-- A watched address of the C-pad of core 0's cluster. -/
def cpadded : State :=
  ({ base with sched := { base.sched with contexts := [(1, { ctx1 with pads := [(0x2000000, 7), (0x3000000, 3)] })] } } : State).setX 5 0xFFFFFE0000000000

theorem witness_PresenceBits : holds [Store.wf (0 : Byte) padded.st.mem, Store.wf Core.reset padded.cores, (padded.setEmpty 0).isEmpty 0,
    okay ((padded.setEmpty 0).check { presence := true } [(upad, 8)] none),
    (match padded.check { presence := true } [(upad, 8)] none with | .ok (_, ts) => (granulesOf ts).contains 0 | .error _ => false),
    okay (padded.consume upad 8 true), ((padded.claim 0).claimer 0).isSome, (padded.claim 0).core.take.full == [],
    (padded.claim 0).settlePresence.isEmpty 0,
    (match cpadded.check { write := true, presence := true } [(cpadded.x 5, 8)] (misaligned (cpadded.x 5) 8) with
      | .ok (_, ts) => watchedGranules ts != [] && okay (cpadded.storeFull (cpadded.x 5) 8 (leBytes 8 7)) &&
          runs (.stf 6 5 0 3) cpadded (fun t => t.core.take.full == watchedGranules ts) | .error _ => false),
    (match padded.check { write := true, presence := true } [(upad, 8)] (misaligned upad 8) with
      | .ok (_, ts) => watchedGranules ts == [] && (granulesOf ts).contains 0 | .error _ => false),
    okay (padded.clearPresence upad 2), padded.padRaw upad == some 0] = true := by decide +kernel

theorem witness_VectorLoadsAndStores : (let s := padded.setP 3 0x8000000000000001
    let rs := [(upad, 4), (upad + 252, 4)]
    holds [clean? s, okay (s.load rs (vecMisaligned 4 upad (s.p 3))), okay (s.dst 10 (s.p 3) Lanes.zero), okay (s.src 1),
      okay (s.store rs none (leBytes 8 0)), okay (s.consume upad 256 true), okay (s.storeFull upad 256 (leBytes 256 0))]) = true := by
  decide +kernel

theorem witness_PredicateOperations : holds [clean? base, ((List.range 64).filter fun k => (base.p 0 &&& base.p 0).getLsbD k) != [],
    ((List.range 64).filter fun k => (base.p 1 &&& base.p 0).getLsbD k) == []] = true := by decide +kernel

/-- q3 bound to a stream of the direction. -/
def bound3 (write : Bool) (n : Nat) : State := (runAll [.sbind 2 5, .qbind 3 2] (streaming n write)).getD base

theorem witness_QueueAndStreamControl : holds [clean? (streaming 64 false), (streaming 64 false).boundTo 3 == none, (bound3 true 64).boundTo 3 == some 2,
    !(bound3 true 64).det, ((bound3 true 64).sd 2).bound, !((streaming 64 false).sd 2).bound,
    (match (streaming 64 false).load [(upad + 0x1000, 64)] none with | .ok (_, bs) => templateGood (BitVec.ofNat 512 (leNat bs)) | .error _ => false),
    !templateGood 0, !((streaming 64 false).sd 0).loaded, (queued (streaming 64 false) 1).q 0 != [],
    (runAll [.sbind 2 5] (streaming 64 false)).any (fun s => (s.sd 2).loaded && !(s.sd 2).bound && s.q 3 == [] &&
      okay (s.check { write := false } ((List.range ((s.sd 2).elems - (s.sd 2).cursor)).map fun i =>
        ((s.sd 2).addr ((s.sd 2).cursor + i), (s.sd 2).size)) none))] = true := by decide +kernel

/-- An operation of core 0 that has byte 0 of its U-pad still to write. -/
def behindOp1 (s : State) : EngineOp := { s.newOp .copy 0 none 0 with agent := s.cur, writes := [(0, false)] }

theorem witness_StreamEntriesAndParking : holds [((bound3 false 65).sd 2).write == false, ((bound3 false 65).sd 2).cursor < 65,
    (bound3 true 64).boundTo 3 == some 2, ((bound3 true 64).sd 2).write, (runAll [.vidx 35 0] (bound3 true 64)).any (fun s => (s.sd 2).elems ≤ (s.sd 2).cursor),
    ((bound3 true 64).unwritten 3).length < 8, (bound3 false 65).q 3 == [],
    (let d := (bound3 false 65).sd 2
     okay ((bound3 false 65).load ((List.range 64).map fun i => (d.addr i, d.size)) none)),
    ((bound3 false 65).prefetch 2).q 3 != [], okay (floats.src 6), 512 ≤ (512#64).toNat, (511#64).toNat < 512, !floats.tileRow 511,
    tiles.tileRow 0, !floats.core.parked.contains 511,
    (let s := bound3 true 64
     match s.check { write := true } ((List.range 64).map fun i => ((s.sd 2).addr i, (s.sd 2).size)) none with
     | .ok (u, ts) => !u.behindParts true (ts.map (·.raw)) && u.core.pushed == s.core.pushed && u.core.sd == s.core.sd &&
         ({ u with eng := { u.eng with ops := [behindOp1 u] } } : State).behindParts true (ts.map (·.raw)) &&
         ((({ s with eng := { s.eng with ops := [behindOp1 s] } } : State).push 3 Lanes.zero) matches .error .wait)
     | .error _ => false), (runAll [.vpark 6 5] (floats.setX 5 511)).any (fun s => s.core.parked.contains 511)] = true := by
  decide +kernel

/-- `s` with every block of the cores' U-pads granted to read and write. -/
def ownPad (s : State) : State :=
  { s with sched := { s.sched with contexts := [(1, { ctx1 with pads := (List.range 32).map fun b => (0x3000000 + b, 3) })] } }

/-- The core's own U-pad is granted whole, and nothing stands in the way of an access there (`Claims.OwnPad`). -/
def ownPad? (s : State) : Bool :=
  Memory.wf s.st.mem && decide (s.cur < 2048) && ((List.range 32).all fun b => Store.get 0 s.ctx.pads (0x3000000 + b) % 4 == 3) &&
  s.st.flaws == [] && s.st.poison == [] && s.core.take.foul == [] && s.core.take.overlay == [] && s.core.pushed == [] && s.eng.ops == [] && s.core.slipped == []

theorem witness_OwnPad : holds [ownPad? (ownPad padded), (ownPad (moments 0x3FC00000 0x40800000 0x3F800000)).MemWf] = true := by decide +kernel

theorem witness_MomentMoves_complete : (let s := ownPad (((moments 0x3FC00000 0x40800000 0x3F800000).setX 5 (upad + 0x100)).setP 3 0x8000000000000002)
    holds [clean? s, ownPad? s, (s.x 5).toNat == 0xFFFFFF0000000000 + 0x100, (s.v 2).toList.all (fun v => !v.msb), (s.m 1).var.toList.all (fun v => !v.msb),
      Claims.padWord s 0x104 4 < 2 ^ 31, Claims.padWord s 0x102 2 < 2 ^ 15, s.MemWf,
      runs (.mset 33 1 2 0) s (fun t => (t.m 1).mean == s.v 1 && (t.m 1).var == s.v 2), runs (.mget 10 33 11 0) s (fun t => t.v 10 == (s.m 1).mean && t.v 11 == (s.m 1).var),
      runs (.mstM32 33 5 0 3) s (fun t => Claims.padWord t 0x2F8 4 == 0x3FC00000 && Claims.padWord t 0x2FC 4 == 0x40800000 &&
        runs (.mldM32 34 5 0 3) t (fun u => (u.m 2).mean.toList.getD 63 0 == 0x3FC00000 && (u.m 2).var.toList.getD 63 0 == 0x40800000)),
      runs (.mstMb16 33 5 0 3) s (fun t => Claims.padWord t 0x104 2 == 0x3FC0 && runs (.mldMb16 34 5 0 3) t (fun u =>
        (u.m 2).mean.toList.getD 1 0 == 0x3FC00000 && (u.m 2).var.toList.getD 1 0 == 0x40800000))]) = true := by
  decide +kernel

theorem witness_MomentMoves : (let s := moments 0x3FC00000 0x80000000 0x3F800000
    let t := moments 0x3FC00000 0xC0000000 0x43F800000
    holds [okay (s.testVar 0 1 (BitVec.allOnes 64) (s.m 1).var), !(s.m 1).var.toList.all (fun v => !v.msb), s.clamps == false, t.clamps,
      (t.m 1).var.toList.all (fun v => v.msb && !isNaN v && v != 0x80000000), okay (t.testVar 0 1 (BitVec.allOnes 64) (t.m 1).var),
      fails (({ t with core := { t.core with mom := 0x3F800000 } } : State).testVar 0 1 (BitVec.allOnes 64) (t.m 1).var),
      clean? s, okay (padded.load [(upad, 8)] (vecMisaligned 8 upad 1)), okay (s.testIn 2 1 (s.xop 33)), okay (s.dst 2 1 Lanes.zero),
      s.ca == 0, (moments 0 0 0x13F800000).ca == 1, (moments 0 0 0x23F800000).ca == 2, 3 ≤ (moments 0 0 0x33F800000).ca]) = true := by
  decide +kernel

theorem witness_MomentResults : (let s := moments 0x3FC00000 0x40A00000 0x13F800000
    holds [clean? s, okay (s.testIn 0 (s.p 0) (s.xop 33)), okay (s.testIn 1 (s.p 0) (s.xop 33)), okay (s.rho 0 (s.p 0) (s.xop 33) (s.xop 33)),
      okay (s.testVar 2 2 (s.p 0) (s.m 1).var), okay (s.testIn 2 (s.p 0) (s.xop 34)), (0x7F7FFFFF#32).toNat % 2 ^ 31 < 0x7F800000,
      !(0x7F800000#32).toNat % 2 ^ 31 < 0x7F800000, okay (s.dst 10 (s.p 0) Lanes.zero)]) = true := by decide +kernel

theorem witness_GroupSums : holds [Sys2Proof.Claims.isFinite (bf16.value 0x7F7F), Sys2Proof.Claims.isFinite (bf16.value 0), (bf16.value 0x7FFF).isNan, !(bf16.value 0x7F80).isNan,
    (254 : Nat) != 255] = true := by decide +kernel

/-- `tiles` under formats and modes of FMT. -/
def formats (f : W64) : State := { tiles with core := { tiles.core with fmt := f } }

theorem witness_MatrixProducts : holds [clean? tiles, tiles.repHeader == none, tiles.af == 0, tiles.bf == 0, !tiles.acc, tiles.rows 0 != 0, tiles.rows 1 == 0,
    okay (tiles.maTiles 0 0), (formats 0x8888000A).af == 2, (formats 0x88880012).bf == 2, okay ((formats 0x88880012).maTiles 0 0),
    (formats 0x88880024).af == 4, (formats 0x88880024).bf == 4, okay (checkUpads ((formats 0x88880024).upads [(0, 4096), (0, 4096)])),
    okay ((formats 0x88880024).maBytes 0 0 4096)] = true := by decide +kernel

/-- The state with an operation of core 0 that has bytes of an operand buffer still to write. -/
def fillingBuf (s : State) (b : Nat) : State :=
  { s with eng := { s.eng with ops := [{ s.newOp .copy 0 none 0 with agent := s.cur, writes := [(9 * 2 ^ 60 + b, false)] }] } }

theorem witness_Repetitions : holds [clean? tiles, tiles.core.rep == none, tiles.core.bundle == none, base.repHeader == none,
    (inBundle base 0).repHeader == none,
    (let w : BitVec 128 := word4 0x84000C00 0x40000000 0xFFFFFFFF 0xFFFFFFFF
     let s := inBundle tiles 1
     let t := { s with core := { s.core with bundle := some { word := w, slot := 1, skip := false, replay := false, target := none } } }
     t.repHeader == some (3, 0) && slotOf w 1 == .mma 0 0 0 0 0 && field (slotWord w 0) 31 26 == 33 && t.repeating == .mma 0 0 0 0 0 &&
       !t.itemBusy t.repeating && (fillingBuf t 0).itemBusy (fillingBuf t 0).repeating && waits .repetition (fillingBuf t 0) &&
       clean? t && okay (({ t with core := { t.core with rep := some { left := 2, done := 1 } } } : State).runMA 1 (.mma 0 0 0 0 0)))] = true := by decide +kernel

theorem witness_MomentProduct : (let s := { tiles with core := { tiles.core with rows := tiles.core.rows.set 1 1 } }
    holds [clean? s, s.repHeader == none, s.af == 0, s.rows 0 == 1, s.rows 1 == 1, okay (checkUpads (s.upads [(0, 16384), (0, 8192)])),
      (match s.maPair 0 0 with | .ok (_, a, b) => a.length == 8192 && b.length == 8192 | .error _ => false), okay (s.maBytes 4 0 8192),
      !(bf16.value 0x3F80).negative, (bf16.value 0xBF80).negative, !s.clamps]) = true := by decide +kernel

/-- The current core's row `n` is parked. -/
def parks (s : State) (n : Nat) : State := { s with core := { s.core with parked := [n] } }

theorem witness_TileOperations : holds [clean? floats, (parks floats 63).core.parked != [], floats.core.parked == [],
    traps (parks floats 63) [(.tcfg 1 64 0, .park, 4, 0), (.tfree 1 0, .park, 4, 0)], runs (.tcfg 1 63 0) (parks floats 63) (fun t => t.rows 0 == 63),
    runs (.tcfg 1 64 1) (parks floats 63) (fun t => t.core.parked == []), floats.rows 0 == 0, tiles.rows 0 != 0, !floats.acc, floats.af ≤ 4,
    tiles.rows 1 < tiles.rows 0, tiles.rows 0 ≤ tiles.rows 0, okay (floats.dst 10 (BitVec.allOnes 64) Lanes.zero), okay (floats.src 1),
    (formats 0x88880004).af == 4, 2 ≤ (formats 0x88880004).pna, (formats 0x88880004).pna ≤ 8, tiles.cur < 2048,
    (tiles.o 0).addr.toNat % 16 == 0, ({ base with core := { base.core with fmt := 0x88880040 } } : State).acc] = true ∧
    holds [okay (tileOf 0 false (patternBytes 0 8 0)), !tiles.behindParts true [0], (tiles.o 0).addr == 0,
      ({ tiles with eng := { tiles.eng with ops := [behindOp1 tiles] } } : State).behindParts true [0],
      waits (.tcvt 0 0 0 0 0) { tiles with eng := { tiles.eng with ops := [behindOp1 tiles] } }] = true := by decide +kernel

/-- `copying` with cd1 a descriptor of `d` over one row of `n` elements. -/
def describing (n : Nat) (d : BitVec 512) : State :=
  let s := copying n
  { s with core := { s.core with cd := (s.core.cd.set 1 (oneRow n ||| d)), shot := some { launch := 0, index := 0, kind := .placed } } }

/-- A port of the core with no room. -/
def crowded : State :=
  let s := flying
  { s with eng := { s.eng with ops := (List.range 16).flatMap fun _ => flying.eng.ops } }

theorem witness_CopyDescriptors : holds [clean? (copying 4), okay ((copying 4).load [(upad, 64)] (misaligned upad 64)),
    fails ((copying 4).load [(upad + 1, 64)] (misaligned (upad + 1) 64)), 16 ≤ crowded.portOps, (copying 4).portOps < 16,
    descGood (oneRow 1) false, !descGood (oneRow 0) false, descGood (oneRow 1 ||| 1#512 <<< 63) true, !descGood (oneRow 1 ||| 1#512 <<< 63) false,
    !descGood (oneRow 1 ||| 5#512 <<< 32) true] = true := by decide +kernel

theorem witness_CopyInstructions : (let s := describing 4 0
    let d := s.core.cd[1]
    holds [clean? s, 16 ≤ crowded.portOps, s.portOps < 16, !descGood 0 true, descGood d false,
      okay (s.copyIssue d 7 (some (Claims.srcRows d upad)) [] (Claims.dstRows d (upad + 0x40)) .mem),
      (match regOffsets 10 0 (rowLen d) ((Claims.dstRows d 0).map fun e => e.1) with
        | .ok os => okay (s.copyIssue d 7 (some (Claims.srcRows d upad)) [] [] (.regs 10 os)) | .error _ => false),
      (match regOffsets 9 0 (rowLen d) ((Claims.dstRows d 0).map fun e => e.1) with
        | .ok os => okay (s.copyIssue d 0 (some (Claims.srcRows d upad)) [] [] (.regs 9 os)) | .error _ => false),
      esizeOf d == 1, esizeOf (oneRow 4 ||| 4#512 <<< 32) == 16, countOf d 2 == 1, countOf (oneRow 4 ||| 2#512 <<< 80) 2 == 3,
      okay (s.regDest 10 0 (rowLen d) ((Claims.dstRows d 0).map fun e => e.1)), okay (s.regDest 9 0 (rowLen d) ((Claims.dstRows d 0).map fun e => e.1)),
      runs (.cpyo 1 0 5 9) s (fun t => t.filling 9 0 && waits (.cpyo 1 0 5 9) t && t.itemBusy (.mma 0 0 0 0 0)),
      (match s.indexList d upad [writePart []] (fun idx => [readPart (Claims.rowsAt d upad 0 idx), writePart []]) with
        | .ok (u, l, bad) => u.core.x == s.core.x && bad == [] && okay (u.copyIssue d 7 (some (Claims.rowsAt d upad 0 l)) []
            (Claims.rowsAt d (upad + 0x40) 0 (Claims.counting 1)) .mem) &&
          okay (u.copyIssue d 0 (some (Claims.rowsAt d upad 0 l)) [] [] (.regs 9 [0]))
        | .error _ => false),
      (let goal := Claims.rowsAt d (upad + 0x40) 0 (Claims.counting 1)
       okay (s.indexList d upad [writePart goal] fun idx => [readPart (Claims.rowsAt d upad 0 idx), writePart goal]) &&
         okay (s.indexList d upad [readPart goal] fun idx => [readPart goal, writePart (Claims.rowsAt d upad 0 idx)]) &&
         fails (s.indexList d (upad + 2) [writePart goal] fun idx => [readPart (Claims.rowsAt d upad 0 idx), writePart goal])),
      (let t := describing 4 (2#512 <<< 48)
       descGood t.core.cd[1] true && !descGood t.core.cd[1] false && traps t [(.cpy 1 0 5 6, .stream, 9, 0), (.pfill 1 0 5 6, .stream, 9, 0)])]) = true := by decide +kernel

theorem witness_CopyBroadcast : (let s := (describing 4 (2#512 <<< 48)).onCore 1 fun c =>
      { c with run := .running, shot := some { launch := 0, index := 1, kind := .placed } }
    holds [descGood s.core.cd[1] true, s.core.cd[1].toNat / 2 ^ 48 % 2 ^ 16 == 2, (s.coreAt 1).run == .running,
      (s.coreAt 1).shot.map (fun a => a.launch) == s.core.shot.map (fun a => a.launch), s.cur < 2048, 0xFFFFFF0000000000 ≤ (s.x 6).toNat,
      okay (s.copyIssue s.core.cd[1] 7 (some (Claims.srcRows s.core.cd[1] upad)) [] (Claims.dstRows s.core.cd[1] upad) (.cores [1])),
      runs (.cpyb 1 0 5 6) s (fun t => runs (.copyComplete 0) t fun u => u.memByte (2 ^ 49 + 0x40) == 1), traps s [(.cpyb 1 0 5 7, .stream, 9, 0)]]) = true := by
  decide +kernel

theorem witness_CopyIssue : (let s := copying 4
    let d := oneRow 4
    holds [okay (s.copyIssue d 7 (some [(upad, 4)]) [] [(upad + 0x40, 4)] .mem), (s.counterKey s.asid (s.x 7)).isSome,
      Store.wf (0 : Byte) s.st.mem, s.core.pushed == [], s.st.flaws == [], s.st.poison == [], s.st.lines == [], s.core.take.foul == [],
      s.core.take.overlay == [],
      (match s.checkParts [(upad, 4)] [(upad + 0x40, 4)] with
        | .ok (_, ta, tb) => ta.length == 4 && tb.all (fun t => !t.watched && levelOf t.raw < 3 && s.unlocked (lineOf t.raw)) &&
            decide (tb.map fun t => t.raw).Nodup
        | .error _ => false),
      runs (.cpy 0 0 5 6) s (fun t => t.eng.ops.all fun o => decide (o.agent = t.cur) && o.writes.length == 4 && o.reads.length == 4 &&
        o.writes.all (fun w => !w.2 && !t.poisoned w.1)),
      runs (.cpyo 1 0 5 9) (describing 4 0) (fun t => t.eng.ops.all fun o => o.writes.all (fun w => levelOf w.1 == 9) && o.writes.length == 4 &&
        !t.bad (o.reads.getD 3 (0, false)).1 && runs (.copyComplete 0) t (fun u => Store.get 0 u.core.bufs 3 == 4))]) = true := by decide +kernel

theorem witness_CounterInstructions : (let s := copying 4
    let full := { s with sync := { s.sync with value := [(0x20, 0xFFFFFFFFFFFFFFFF)] } }
    let bad := { s with sync := { s.sync with poisoned := [(0x20, true)] } }
    holds [clean? s, s.counterKey s.asid (s.x 0) == none, s.counterKey s.asid (s.x 7) == some 0x20, !s.counterBad 0x20, bad.counterBad 0x20,
      2 ^ 64 ≤ (full.counter 0x20).toNat + full.heldSum 0x20 + 1, 2 ^ 64 > (s.counter 0x20).toNat + s.heldSum 0x20 + 0x1FFF, (s.x 0).toNat ≤ (s.counter 0x20).toNat,
      (s.counter 0x20).toNat < (s.x 7).toNat, !s.det, (s.arrivalsOf 0x20).isNone, Store.wf 0 s.sync.owner, Store.wf 0 s.sync.value,
      traps full [(.cadd 7 7 0, .counter, 1, 0)], traps bad [(.cread 7 10 0, .poison, 0, 0x20)],
      (let t := { s with sync := { s.sync with flaws := [(0x20, 1)] } }
       !t.counterBad 0x20 && gives t [(.cread 7 10 0, 10, 0)] && runs (.cread 7 10 0) t (fun u => u.sync.flaws == [])), s.sync.flaws == [], s.counterKey s.asid 0x400000 == none]) = true := by
  decide +kernel

theorem witness_AtomicsAndQueueAppend : (let s := (State.poke base 0 [0xFE]).setX 5 upad
    let q := queueAt 56 41 4
    holds [clean? s, s.core.take.clean == [], s.st.flaws == [], fails (s.atomicTouch (upad + 4) 8 8), !s.det,
      (match s.atomicTouch upad 8 8 with | .ok (u, ts) => u.core.x == s.core.x && !u.det && ts.length == 8 | .error _ => false),
      (match q.atomicTouch upad 64 64 with
        | .ok (u, ts) => ts.length == 64 && leNat (ts.map fun t => u.byte t.raw) / 2 ^ 192 % 32 == 4 && (56 + 2 ^ 64 - 41) % 2 ^ 64 < 2 ^ 4 &&
          (match u.checkRanges { write := true } [(upad + 0x1000, 1024)] (misaligned (upad + 0x1000) 64) with
            | .ok ps => (match (u.cache ps).check { write := true } [(upad + 0x1200, 64)] none with
                | .ok (x, us) => okay (x.watchAll true us)
                | .error _ => false)
            | .error _ => false) &&
          fails (u.checkRanges { write := true } [(upad + 0x1001, 1024)] (misaligned (upad + 0x1001) 64))
        | .error _ => false), (16 : Nat) ≤ (56 + 2 ^ 64 - 40) % 2 ^ 64]) = true := by decide +kernel

theorem witness_AtomicsComplete : (let s := ownPad ((State.poke base 0 [0xFE]).setX 5 upad)
    let q := ownPad (queueAt 56 41 4)
    holds [clean? s, ownPad? s, !s.det, (s.x 5).toNat == 0xFFFFFF0000000000 + 0, 0 % 8 == 0, 4 % 8 != 0, ((s.setX 5 (upad + 4)).x 5).toNat == 0xFFFFFF0000000000 + 4,
      clean? q, ownPad? q, (q.x 5).toNat == 0xFFFFFF0000000000, Claims.padWord q 24 1 % 32 == 4, Claims.padWord q 16 8 == 0xFFFFFF0000000000 + 0x1000,
      (Claims.padWord q 0 8 + 2 ^ 64 - Claims.padWord q 8 8) % 2 ^ 64 < 2 ^ 4, Claims.padWord (queueAt 56 40 4) 8 8 == 40,
      2 ^ 4 ≤ (Claims.padWord (queueAt 56 40 4) 0 8 + 2 ^ 64 - Claims.padWord (queueAt 56 40 4) 8 8) % 2 ^ 64, Claims.padWord (queueAt 56 40 17) 24 1 % 32 == 17,
      runs (.qapp 5 20 4 7) q (fun t => Claims.padWord t (0x1000 + 64 * (56 % 16) + 63) 1 == 4 && Claims.padWord t 0 8 == 57)]) = true := by
  decide +kernel

/-- A combine stream's block: S slots of K 2, D elements in f32, the second MiB. -/
def cbBlock (s d : Nat) : BitVec 512 := BitVec.ofNat 512 (s * 2 ^ 64 + d * 2 ^ 80 + 2 * 2 ^ 96 + 2 ^ 100 + 2 ^ 160 + 2 ^ 168)

/-- A state with the block at the U-pad and 4 MiB of combine buffer, whose x12 names stream 1. -/
def configuring (s d : Nat) : State :=
  let t := (State.poke (combining []) 0 (leBytes 64 (cbBlock s d).toNat)).setX 12 1
  { t with st := { t.st with cbMiB := [(0, 4)] } }

-- spec/21 R300: the order of the failures of cbcfg
theorem test_combine_configuration : (runs (.cbcfg 7 5 12) (configuring 1 64) (fun t => (t.cstream 1).configured && (t.cstream 1).d == 64 &&
      (t.cstream 1).counter == some 0x20) && runs (.cbcfg 0 5 12) (configuring 0 64) (fun t => !(t.cstream 1).configured) &&
    traps (configuring 1 65) [(.cbcfg 0 5 12, .cbfit, 3, 0)] && traps (configuring 1639 64) [(.cbcfg 0 5 12, .cbfit, 1, 0)] &&
    traps ((configuring 1 64).setX 12 0) [(.cbcfg 0 5 12, .cbfit, 4, 0)] && traps ((configuring 1 64).setX 12 0x20) [(.cbcfg 0 5 12, .cbmiss, 4, 0)] &&
    (let s := configuring 1 64
     traps { s with st := { s.st with cbMiB := [] } } [(.cbcfg 0 5 12, .cbfit, 2, 0)])) = true := by decide +kernel

theorem witness_CombineStreams : (let s := combining []
    holds [clean? s, s.portOps < 16, s.streamKey 0xFFFF == none, s.streamKey 0 == some 0, okay (s.readBlock upad 64 64),
      (match (configuring 1 64).readBlock upad 64 64 with
        | .ok (u, bs) => u.asid == 1 && (u.cstream 1).live == [] && BitVec.ofNat 512 (leNat bs) == cbBlock 1 64 && okay (u.needCounter (u.x 7)) | .error _ => false),
      (s.cstream 0).live != [], (s.cstream 1).live == [], field (cbBlock 0 64) 79 64 == 0, field (cbBlock 1 64) 79 64 != 0, configGood (cbBlock 1 64) false, !configGood (cbBlock 1 65) false,
      !(configuring 1 64).regionBad 1 (streamOf (cbBlock 1 64) 1 0 none), s.regionBad 1 (streamOf (cbBlock 1 64) 1 0 none), (s.cstream 0).configured,
      !(s.cstream 1).configured, (match s.allocate 0 (s.v 1) with | .ok (_, some 0) => true | _ => false), fails (s.allocate 0 (s.v 2)),
      (Store.get none (s.cstream 0).slots 0).isSome, !s.det, Store.wf CStream.none s.eng.streams,
      ((s.cstream 0).slotOf 6).isNone, ((s.cstream 0).slotOf 5).isSome, fails (s.allocate 0 ((lanes fun _ => 1).set 0 5)),
      (Store.get none ({ cstream2 0 with s := 2, slots := [(0, some (slot39 []))] } : CStream).slots 1).isNone]) = true := by decide +kernel


/-- Line 0 of the C-pad of cluster 0 has an unpublished write of agent `n`. -/
def openAt (s : State) (n : Nat) : State := { s with st := { s.st with watch := [(lineOf (cPad 0 0), { writer := some (n, 0), readers := [] })] } }

/-- `combining []` with the watched C-pad in its context. -/
def cpadWaits : State := { (combining []).setX 5 0xFFFFFE0000000000 with sched := cpadded.sched }

theorem witness_CombineDeposits : (let s := combining []
    let put := fun (p : List (Nat × Nat)) => s.setCstream 0 { cstream2 0 with slots := [(0, some { slot39 [] with putBy := p })], recent := [6] }
    holds [clean? s, s.portOps < 16, (s.cstream 0).configured, (slot39 []).pairs.findIdx? (fun e => e.1 == 9) == some 1,
      (match (put []).decidePut 0 5 9 with | .ok (.deposit 0 1 0 true) => true | _ => false),
      (match (put [(1, 0)]).decidePut 0 5 9 with | .ok (.deposit 0 1 0 false) => true | _ => false), fails ((put [(1, 3)]).decidePut 0 5 9),
      fails ((put []).decidePut 0 5 4), (match (put []).decidePut 0 6 9 with | .ok .late => true | _ => false), fails ((put []).decidePut 0 7 9),
      descGood s.core.cd[0] false, bytesOf s.core.cd[0] == 64 * 4, bytesOf (oneRow 4) != 64 * 4,
      (match s.checkParts (Claims.srcRows s.core.cd[0] upad) [] with
        | .ok (u, ta, _) => !u.openSource ta && u.cstream 0 == s.cstream 0 && okay (u.holdOp 0 256) && !u.behindParts false (ta.map (·.raw)) &&
            ({ u with eng := { u.eng with ops := [behindOp1 u] } } : State).behindParts false (ta.map (·.raw)) | .error _ => false),
      (let t := openAt cpadWaits 7
       match t.checkParts [(t.x 5, 4)] [] with | .ok (u, ta, _) => u.openSource ta && u.cstream 0 == t.cstream 0 | .error _ => false),
      s.core.pushed == [], s.st.flaws == [], s.st.poison == [], s.core.take.foul == [], (cstream2 0).sub != 1, !(slot39 [0]).complete,
      ({ cstream2 0 with tokenOrder := true } : CStream).tokenOrder]) = true := by decide +kernel

theorem witness_CombineCompletions : (match exec (.cbput 0 0 5 8) (combining []) with
    | .next s => s.eng.ops.all fun o => o.kind == .put && !s.behindOp o && !s.logStalls o.key && !o.late && o.dsts == [0] &&
        !(slot39 []).overdue 6 && (slot39 []).overdue 7 && s.mod.phase == .normal &&
        ({ s with eng := { s.eng with ops := [{ o with id := 0 }, { o with id := 1 }] } } : State).behindOp { o with id := 1 } == o.key.isSome &&
        o.reads == [] && (openAt s 7).sourceOpen { o with reads := [(cPad 0 0, true)] } && !s.sourceOpen { o with reads := [(cPad 0 0, true)] } &&
        ({ s with eng := { s.eng with ops := [{ o with id := 0, key := some 0x20 }, { o with id := 1, key := some 0x20 }] } } : State).behindOp
          { o with id := 1, key := some 0x20 }
    | _ => false) = true := by decide +kernel

/-- Context 1 is rank 1 of 2 in group 9, and cd1 an f32 allreduce of 4 elements in that group. -/
def grouped : State :=
  let s := describing 4 (2#512 <<< 32 ||| 9#512 <<< 156)
  s.setContext 1 { s.ctx with groups := [{ group := 9, rank := 1, n := 2 }] }

-- spec/21 R294-R296: the contribution of rank 1, and the sum 1 + 2 written at the completion
theorem test_collective : (let s := State.poke grouped 0 ((List.replicate 4 [0, 0, 0x80, 0x3F]).flatten)
    runs (.coll 1 7 5 6) s (fun t => t.eng.ops.map (fun o => (o.id, o.row.length, o.amount)) == [(0, 16, 16)] && t.peers.outbox.length == 1 &&
      runs (.collComplete 0 [(List.replicate 4 [0, 0, 0, 0x40]).flatten, List.replicate 16 0]) t (fun u =>
        u.memByte 0x42 == 0x40 && u.memByte 0x43 == 0x40 && u.eng.ops.isEmpty))) = true := by decide +kernel

theorem witness_Collectives : (let s := grouped
    let d := s.core.cd[1]
    holds [clean? s, s.portOps < 16, descGood d false, (s.ctx.group (groupOf d)).isSome, groupOf s.core.cd[0] != 9, collGood d 2,
      !collGood (d ||| 3#512 <<< 152) 2, s.mod.level != 4, copOf d != 3, ctypeOf (d ||| 2#512 <<< 152) == 2, ropOf d == 0,
      (match s.checkParts (Claims.srcRows d upad) (collRanges d 2 (upad + 0x40)) with
        | .ok (u, ta, _) => !u.openSource ta && !u.behindParts false (ta.map (·.raw)) && (u.orphanColl d 0).isNone && u.core.x == s.core.x &&
            u.core.pushed == [] && u.st.flaws == [] && u.mod == s.mod && u.eng == s.eng && okay (u.holdColl 7 0 16) | .error _ => false),
      (let t := { s with mod := { s.mod with level := 4 } }
       match t.checkParts (Claims.srcRows d upad) (collRanges d 2 (upad + 0x40)) with
        | .ok (u, _, _) => (u.orphanColl d 0).isNone && waits (.coll 1 7 5 6) t | .error _ => false),
      (let t := { s with eng := { s.eng with ops := [{ s.newOp .coll d none 16 with committed := true, step := s.x 6, dsts := [0x40] }], next := 1 } }
       match t.checkParts (Claims.srcRows d upad) (collRanges d 2 (upad + 0x40)) with
        | .ok (u, ta, _) => !u.behindParts false (ta.map (·.raw)) && (u.orphanColl d 0).isNone && (u.orphanColl d (s.x 6)).any (fun o => okay (u.holdColl 7 o.id 16)) &&
            runs (.coll 1 7 5 6) t (fun v => v.eng.ops.map (fun o => (o.id, o.committed, o.key)) == [(0, false, some 0x20)]) | .error _ => false),
      (match exec (.coll 1 7 5 6) s with
        | .next t => t.eng.ops.all fun o => (openAt t 7).sourceOpen { o with reads := [(cPad 0 0, true)] } && o.dsts.all (fun r => !t.retained r) && o.reads == []
        | _ => false),
      (match exec (.coll 1 7 5 6) s with
        | .next t => t.eng.ops.all fun o => o.kind == .coll && t.mod.phase == .normal && !t.behindOp o && !t.logStalls o.key &&
            !t.writeWaits (rawTouches o.dsts) && o.bads == [] &&
            (collInputs o.desc 1 2 o.row [List.replicate 16 0, []]).isSome
        | _ => false)]) = true := by decide +kernel

/-! Events: the module is up with eight dies, and context 1 sees 1 GiB of device memory through a page table. -/

/-- Bytes at a virtual address of context 1. -/
def at1 (s : State) (va : W64) (bs : List Byte) : State :=
  match s.touchesFor 1 { write := true } [(va, bs.length)] with
  | .ok ts => s.writePlain ts bs
  | .error _ => s

/-- `copying 4` in a module that is up, with the root entry of context 1 and a 1 GiB leaf of it (spec/05 R58, R59). -/
def up : State :=
  let s := copying 4
  let t := { s with mod := { s.mod with boot := .up, lives := List.range 8 } }
  (t.setEntry 1 0 0x1001).setEntry 1 0x1000 0x87

/-- A packet of a type, with flags, CV for counter 0x21, and its type-specific bytes (spec/23 R314). -/
def packet (type flags : Nat) (ts : List Byte) : List Byte :=
  [BitVec.ofNat 8 type, BitVec.ofNat 8 flags, 0, 0] ++ List.replicate 8 0 ++ leBytes 4 (if flags = 0 then 0 else 0x21) ++
    List.replicate 16 0 ++ leBytes 8 (if flags = 0 then 0 else 7) ++ (ts ++ List.replicate (23 - ts.length) 0) ++ [1]

/-- Queue 0 of context 1: header at 0x2000, LG 4, PRI 2, EN, ring at 0x3000 with one packet. -/
def queue1 (p : List Byte) : State :=
  let h := leBytes 8 1 ++ leBytes 8 0 ++ leBytes 8 0x3000 ++ [4, 2, 1]
  let s := at1 (at1 up 0x2000 h) 0x3000 p
  { s with sched := { s.sched with queues := [{ asid := 1, num := 0, header := 0x2000, age := 0 }] } }

/-- An ADD of 5 to counter 0x20 with a completion add of 7 to 0x21. -/
def addPacket5 : List Byte := packet 3 4 (leBytes 4 0x20 ++ leBytes 4 0 ++ leBytes 8 5)

-- spec/23 R317, R318: the packet is selected, READ advances, its add and then its completion add are made
theorem test_packet_add : (runAll [.selection 0, .addPacket 0, .completionAdd 0] (queue1 addPacket5)).any (fun s =>
    s.counter 0x20 == 5 && s.counter 0x21 == 7 && s.sched.started == [] && s.sched.adds == [] &&
    (s.queue 1 0).any fun q => s.readIndex q == 1) = true := by decide +kernel

-- spec/23 R322: TYPE 7 ends with BADTYPE 0x10 and READ advances; LG 3 is not served
theorem test_packet_malformed : (runAll [.selection 0] (queue1 (packet 7 0 []))).any (fun s =>
    (s.queue 1 0).any (fun q => s.readIndex q == 1 && (s.header q).any fun h => leAt h.2 40 1 == 0x10) && s.sched.selected == []) = true ∧
    (runAll [.selection 0] (at1 (queue1 addPacket5) 0x2018 [3])).any (fun s =>
      (s.queue 1 0).any fun q => (s.header q).any fun h => leAt h.2 40 1 == 0x11 && leAt h.2 26 1 == 0) = true := by decide +kernel

/-- A launch of the kernel at 0x4000 with one cores level of 2 and step 3 in x10, arguments 11 and 12, record 0x6000. -/
def launching (handler : W64) : State :=
  let kd := leBytes 8 0x8000 ++ [1] ++ leBytes 7 0 ++ leBytes 4 2 ++ leBytes 4 3 ++ [0x2A] ++ leBytes 7 0
  let s := at1 (queue1 (packet 1 4 (leBytes 8 0x4000 ++ leBytes 8 0x5000 ++ [2]))) 0x4000 kd
  let b := at1 (at1 s 0x5000 (leBytes 8 11 ++ leBytes 8 12)) 0x5060 (leBytes 8 0x6000 ++ leBytes 8 handler.toNat)
  (b.onCore 1 fun c => { c with resident := 1 }).onCore 2 fun c => { c with resident := 1 }

-- spec/03 R28-R31, spec/23 R317-R319: two shots on the two free cores, arguments in x2 and x3, 0 and 3 in x10
theorem test_launch : (runAll [.selection 0, .launchPacket 0, .shotPlacement 0] (launching 0)).any (fun s =>
    (s.coreAt 1).x.toList.getD 2 0 == 11 && (s.coreAt 1).x.toList.getD 3 0 == 12 && (s.coreAt 1).x.toList.getD 10 1 == 0 &&
    (s.coreAt 2).x.toList.getD 10 1 == 3 && (s.coreAt 2).pc == 0x8000 && (s.coreAt 2).run == .running &&
    (s.launch 0).any fun l => l.status == 0 && l.ranOn == [1, 2] && l.record == 0x6000) = true := by decide +kernel

/-- Launch 0 of context 1 with a handler, or none. -/
def launch0 (handler : W64) (ended : Nat) : Launch :=
  { id := 0, asid := 1, num := 0, index := 0, prio := 2, entry := 0x8000, cls := 0,
    levels := [{ kind := .cores, xreg := 10, step := 3, extent := 2, cores := false, gang := false }], args := [11, 12], record := 0x6000,
    handler := handler, comp := some (0x21, 7), span := (0, 8), nextJ := [(0, 2)], ended := ended, status := 0, cause := 0, tstart := some 0, dies := 1,
    ranOn := [1, 2], retired := false }

/-- Core 1 holds a shot of launch 0. -/
def shot1 (handler : W64) (f : Core → Core) : State :=
  let s := { up with sched := { up.sched with launches := [launch0 handler 0], next := 1 } }
  s.onCore 1 fun c => f { c with run := .running, ctx := 1, resident := 1, shot := some { launch := 0, index := 0, kind := .placed },
                                 x := (c.x.set 5 77) }

-- spec/03 R42, spec/23 R323: the record's count at byte 8, and the add that is owed
theorem test_launch_completion : (let s := { up with sched := { up.sched with launches := [launch0 0 2], next := 1 } }
    runs (.launchCompletion 0) s (fun t => (t.launch 0).any (fun l => l.retired) && t.sched.adds.map (fun a => (a.key, a.value)) == [(0x21, 7)] &&
      (t.readFor 1 0x6008 8).any fun b => leNat b == 2) &&
    runs (.launchCompletion 0) (shot1 0 id) (fun t => (t.launch 0).any fun l => !l.retired)) = true := by decide +kernel

/-- Core 1 has trapped with USER, and context 1 has its frames at 0x100000 and its save area in HBM. -/
def trapped (handler : W64) : State :=
  let s := shot1 handler fun c => { c with run := .stopped, why := .trap, cause := 0x100, pc := 0x8000, takepc := 0x8000 }
  s.setContext 1 { s.context 1 with frameVa := 0x100000, saveRaw := 0x3000000100000000 }

-- spec/25 R331, R335: with no handler the launch ends with a status, and its core is released
theorem test_trap_without_handler : runs (.trapDelivery 1) (trapped 0) (fun s => (s.coreAt 1).run == .idle && (s.coreAt 1).shot.isNone &&
    (s.launch 0).any fun l => l.status != 0) = true := by decide +kernel

-- spec/27 R347, R350, R351: an error of two bits in a line of HBM; of a latch
theorem test_upset : (runs (.upset 0x3000000000000040 2) up (fun t => t.flaws 0x3000000000000040 == 2) &&
    runs (.upset 0x3000000000000040 0) up (fun t => t.st.flaws == []) && runs (.upset 0x8000000000000005 1) up (fun t =>
      t.core.pending.any fun e => e.cause == .softerr && e.detail == 2 && e.w1 == 5) &&
    runs (.upset 0x7000000000000020 1) up (fun t => !t.counterBad 0x20) && runs (.upset 0x7000000000000020 2) up (fun t => t.counterBad 0x20)) =
    true := by decide +kernel

-- spec/33 R394, R395, R398
theorem test_power : (runs (.phaseLoss 3) up (fun t => (t.die 3).lost == 1) && runs (.hotFlag 7 95) up (fun t => t.hot 7) &&
    runs (.hotFlag 7 94) up (fun t => !t.hot 7) && runs (.thermalStep 7 100) up (fun t => (t.mod.clusters.toList.getD 7 { hot := false, steps := 9, screen := 0 }).steps == 1)) = true := by decide +kernel

-- spec/33 R394: above 10 % the heavier layer's cap falls by a step, on a die within its limit (R395)
theorem test_imbalance : Config.overCurrent 0 up.fresh = true ∨ holds [runs (.imbalanceSample 5 100 89) up fun t => (t.pair 5).capUp == 9 &&
    (t.pair 5).capLo == 10, runs (.imbalanceSample 5 100 90) up fun t => (t.pair 5).capUp == 10] = true := by
  cases h : Config.overCurrent 0 up.fresh with
  | true => exact .inl rfl
  | false =>
    refine .inr ?_
    simp only [runs, exec, execImbalanceSample, show 5 / 8 = 0 from rfl, h]
    decide +kernel

-- spec/31 R390, R391
theorem test_links_and_steps : (let s := { up with mod := { up.mod with clk := 4096 } }
    runs (.linkTraining 4 9) up (fun t => t.mod.step == 9 && t.peers.ports.toList.getD 4 0 == 1 && t.peers.outbox == [.step 4 0] &&
      runs (.linkRetrain 4) t (fun u => u.peers.ports.toList.getD 4 0 == 2)) && runs .stepBoundary s (fun t => t.mod.step == 1) &&
    runs .stepBoundary { s with mod := { s.mod with clk := 4095 } } (fun t => t.mod.step == 0) &&
    runs .stepBoundary { s with mod := { s.mod with stepNext := some 20 } } (fun t => t.mod.step == 20 && t.mod.stepNext.isNone)) = true := by
  decide +kernel

-- spec/29 R357, R358: the warning stops the shot of core 1 at its take start
theorem test_power_fail : runs .powerFailWarning (shot1 0 fun c => { c with pc := 0x8040, takepc := 0x8000 }) (fun t => t.mod.phase == .warned &&
    (t.coreAt 1).run == .stopped && (t.coreAt 1).why == .power && (t.coreAt 1).pc == 0x8000) = true := by decide +kernel

/-- A request header: LEN, OP, TAG and SRC 5, at a line, with a mask (spec/05 R70). -/
def request (len op tag line mask : Nat) : BitVec 128 :=
  BitVec.ofNat 128 (len * 2 ^ 118 + op * 2 ^ 114 + tag * 2 ^ 111 + 5 * 2 ^ 97 + line * 2 ^ 64 + mask)

-- spec/05 R70-R75: a write, a masked write of byte 1, and a read of line 1 of stack 0; a busy tag; a request past its window
theorem test_lines : ((runAll [.wrLines 0 (request 0 1 0 1 0) (List.replicate 64 7), .wrmLine 0 (request 0 2 1 1 2) (List.replicate 64 9),
      .rdLines 0 (request 0 0 2 1 0)] up).any (fun s => s.st.replies.map (fun r => (r.tag, r.status)) == [(0, 0), (1, 0), (2, 0)] &&
        (s.st.replies.getD 2 { src := 0, tag := 0, len := 0, status := 9, data := [], bad := [] }).data == 7 :: 9 :: List.replicate 62 7) &&
    (runAll [.rdLines 0 (request 1 0 2 63 0), .rdLines 0 (request 0 0 2 1 0), .replyLines 0] up).any (fun s =>
      s.st.replies == [] && s.st.tags == []) &&
    (runAll [.rdLines 0 (request 1 0 2 63 0), .rdLines 0 (request 0 0 2 1 0)] up).any (fun s => s.st.replies.map (fun r => r.status) == [5]) &&
    (runAll [.zeroLines 0 (request 0 5 2 1 0)] up).any (fun s => (s.line 0x3000000000000040).zeroed)) = true := by decide +kernel

/-- Core 1 of `up` waits at an instruction. -/
def waitingAt (s : State) (n : Nat) (i : Instr) : State :=
  s.onCore n fun c => { c with run := .blocked, ctx := 1, bundle := some { word := word4 ((encode i).getD 0) 0xFFFFFFFF 0xFFFFFFFF 0xFFFFFFFF,
                                                                           slot := 0, skip := false, replay := false, target := none } }

/-- The present core at the address of a bundle. -/
def at4 (s : State) (w : BitVec 128) : State :=
  let t := at1 s 0x9000 (leBytes 16 w.toNat)
  { t with core := { t.core with pc := 0x9000, takepc := 0x9000 } }

/-- A state that may dispatch a bundle: what its fetch answers, and the checks. -/
def dispatches (s : State) (held take : Bool) : Bool :=
  s.core.run == .running && s.core.bundle == none && !s.behind && s.lead == s.cur && s.strays == none &&
  match s.fetch with
  | .error _ => false
  | .ok (u, w) => u.refuses w == none && u.anyHeld w == held && beginsTakeAt w == take && !flushesBefore w &&
      u.diverges w false == none && (!take || match u.boundaryAll with | .ok v => !v.anyHeld w | .error _ => false)

/-- The take of core 0 has begun. -/
def started (s : State) : State := { s with core := { s.core with take := { s.core.take with started := true } } }

-- spec/03 R34, R35: both members latch what the lead fetched; a member that strays, and one that reads another trip count, diverge
theorem test_gang_dispatch : holds [runs .bundleDispatch (ganged (at4 up (word4 0x080A6005 0xFFFFFFFF 0xFFFFFFFF 0xFFFFFFFF)) 0) (fun t =>
      t.core.bundle.isSome && (t.coreAt 1).bundle == t.core.bundle),
    runs .bundleDispatch (ganged (at4 up (word4 0x080A6005 0xFFFFFFFF 0xFFFFFFFF 0xFFFFFFFF)) 16) (fun t =>
      t.core.why == .trap && causeCode t.core.cause == Cause.diverge.code && t.core.dw0 == 1)] = true := by decide +kernel

theorem witness_BundleEvents : holds [(inBundle up 0).core.bundle.isSome, State.reset.core.run != .running,
    dispatches (at4 up (word4 0x080A6005 0xFFFFFFFF 0xFFFFFFFF 0xFFFFFFFF)) false false,
    dispatches (started (at4 up (word4 0x10000000 0xFFFFFFFF 0xFFFFFFFF 0xFFFFFFFF))) false true,
    up.core.gang == none, !up.qLeft, (queued up 1).qLeft, okay up.boundaryAll, ((ganged up 0).focus 1).lead == 0, (ganged up 16).strays == some 1,
    (ganged (inBundle up 0) 0).behind, !(ganged up 0).behind, (ganged up 0).lead == (ganged up 0).cur,
    (match ((ganged (up.setX 14 3) 0).onCore 1 fun c => { c with x := c.x.set 14 2 }).diverges (word4 0x88670000 0xFFFFFFFF 0xFFFFFFFF 0xFFFFFFFF) false with
      | some 1 => true | _ => false),
    fails base.fetch, (up.refuses (word4 0xFFFFFFFF 0x1E000000 0xFFFFFFFF 0xFFFFFFFF)).isSome,
    ({ flying with core := { flying.core with take := { flying.core.take with started := false } } } : State).anyHeld (word4 0x10000000 0xFFFFFFFF 0xFFFFFFFF 0xFFFFFFFF),
    ({ up with core := { up.core with upsets := [(2 ^ 16 + 1, 2)] } } : State).badImage.isNone,
    watching.watchedOut, (up.boundaryAll matches .ok _), (inError up (2 ^ 16 + 1)).core.upsets != []] = true := by decide +kernel

theorem witness_CoreEvents : holds [canonical 0x9000, decide ((0x9000#64).toNat < padBase), (up.walk 1 0x9000).isOk, !(base.walk 1 0x9000).isOk,
    padBase ≤ upad.toNat, !canonical 0x8000000000000000,
    ((waitingAt up 1 (.ldw 1 2 0 3)).focus 1).core.run == .blocked, ((waitingAt up 1 (.ldw 1 2 0 3)).focus 1).current == some (.ldw 1 2 0 3),
    ((waitingAt up 1 (.cwait 1 2 0)).focus 1).current == some (.cwait 1 2 0), ((waitingAt up 2048 (.tinv 1 2)).focus 2048).current == some (.tinv 1 2),
    (up.focus 1).core.run != .blocked,
    (let s := up.onCore 1 fun c => { c with reserved := some { by_ := 0, launch := 0, asid := 1, entry := 0x9000, args := [], ready := true } }
     (s.coreAt 1).reserved.any (fun r => r.ready) && !(s.coreAt 1).gated && s.mod.phase == .normal &&
       (((s.grantedBlocks 1 0 [1]).filter fun raw => levelOf raw == 0).foldlM (fun (t : State) raw => t.takeBlock 1 raw) s).isSome &&
       runs (.spawnShotStart 1) s (fun t => (t.coreAt 1).run == .running)),
    (let b := ((up.grantedBlocks 1 0 [1]).filter fun raw => levelOf raw == 0).headD 0
     let c := { up.context 1 with saveRaw := 0x3000000100000000, away := [b] }
     let t := { up.setContext 1 c with st := { up.st with lines := [(lineOf (c.blockAt b), { poison := true, zeroed := false, keyv := 0 })] } }
     (t.takeBlock 1 b).isNone),
    (let s := { up with core := { up.core with pushed := [{ q := 3, writes := [(0, 1)], committed := false }] } }
     (s.focus 0).core.pushed.all (fun p => p.q == 3) && (s.focus 0).core.run == .running),
    (let s := slipping ((copying 4).setX 7 0x20)
     let t := { s with sync := { s.sync with value := [(0x20, 0x20)] } }
     (t.core.slipped.map fun x => x.instr) == [.cwait 7 7 3] && s.waitsForHeld (.cread 7 10 0) && !s.waitsForHeld .nop && waits (.ld 4 5 0 3) (s.setX 5 upad) &&
       t.trySlippedAll.core.slipped == [] && t.trySlippedAll.core.bundle == t.core.bundle &&
       s.trySlippedAll.core.slipped.length == 1),
    (standing (copying 4) (.cwait 7 7 3)).canSlip] = true := by decide +kernel

/-- Cores 1, 2 and 3 read line 0x3000000000000040, core 3 last; core 4, older than core 3, stalls. -/
def crowdedLine : State :=
  let line : Nat := 0x3000000000000040
  let reader := fun (s : State) (n age : Nat) => s.onCore n fun c =>
    { c with run := if n = 4 then .blocked else .running, stalled := if n = 4 then some (line, 0) else none,
             take := { c.take with log := if n = 4 then [] else [line], ageStep := 0, ageClk := w64 age } }
  let s := reader (reader (reader (reader { up with mod := { up.mod with clk := 256 } } 1 1) 2 2) 3 9) 4 3
  { s with st := { s.st with watch := [(line, { writer := none, readers := [(1, 0), (2, 0), (3, 0)] })] } }

theorem witness_Wound : holds [crowdedLine.woundable 3, !crowdedLine.woundable 2, !up.woundable 3, (crowdedLine.coreAt 3).run == .running,
    runs (.wound 3) crowdedLine (fun t => (t.coreAt 3).take.log == [] && (t.coreAt 2).take.log != [])] = true := by decide +kernel

theorem witness_LineRequests : holds [({ up with st := { up.st with tags := [(5, 0)] } } : State).st.tags.contains (hdrSrc (request 0 0 0 1 0), hdrTag (request 0 0 0 1 0)),
    up.requestLines 79 0 (request 0 0 0 1 0) |>.isSome, (up.requestLines 0 0 (request 63 0 0 0 0)).isSome, up.requestLines 0 0 (request 63 0 0 1 0) == none,
    up.requestLines 0 0 (request 0 0 0 1 1) == none, (64 * (hdrLen (request 63 0 0 0 0) + 1)) == 4096,
    (({ up with st := { up.st with lines := [(0x3000000000000040, { poison := true, zeroed := false, keyv := 0 })] } } : State).line 0x3000000000000040).poison,
    up.st.flaws == [], (up.line 0x3000000000000040).poison == false, up.st.replies == [], crowdedLine.zeroWaits 0 (request 0 5 0 1 0),
    !up.zeroWaits 0 (request 0 5 0 1 0), up.requestLines 0 0 (request 2 0 0 1 0) == some [0x3000000000000040, 0x3000000000000080, 0x30000000000000C0],
    !up.staleKey 0x3000000000000040, up.flaws 0x3000000000000040 == 0, up.unlocked 0x3000000000000040,
    (syndromes 12 (List.replicate 80 0)).all (· == 0), levelOf 0x3000000000000040 == 3,
    (let t := { up with st := { up.st with flaws := [(0x3000000000000040, 1)] } }
     t.flaws 0x3000000000000040 == 1 && (t.readLine 0x3000000000000040).2.1 == 1),
    (let t := { up with st := { up.st with flaws := [(0x3000000000000040, 2)] } }
     t.flaws 0x3000000000000040 == 2 && (t.readLine 0x3000000000000040).2.1 == 3),
    (let t := { up with st := { up.st with lines := [(0x3000000000000040, { poison := false, zeroed := true, keyv := 0 })] } }
     (t.line 0x3000000000000040).zeroed && ((List.range 64).all fun k => t.memByte (0x3000000000000040 + k) == (0 : Byte)))] = true := by decide +kernel

/-- The packet is selected on die 0. -/
def selecting (p : List Byte) : State :=
  let s := queue1 p
  { s with sched := { s.sched with selected := [(0, some { asid := 1, num := 0, index := 0, packet := p })],
                                   started := [{ asid := 1, num := 0, index := 0, launch := none, op := none }] } }

theorem witness_Selection : holds [!base.dispatching, up.dispatching, (Store.get none (selecting addPacket5).sched.selected 0).isSome,
    (Store.get none (queue1 addPacket5).sched.selected 0).isNone, (queue1 addPacket5).homed 0 == (queue1 addPacket5).sched.queues,
    (queue1 addPacket5).head { asid := 1, num := 0, header := 0x2000, age := 0 } == .ready 2 addPacket5,
    (queue1 (packet 7 0 [])).head { asid := 1, num := 0, header := 0x2000, age := 0 } == .malformed 0x10 (packet 7 0 []),
    (at1 (queue1 addPacket5) 0x2018 [3]).head { asid := 1, num := 0, header := 0x2000, age := 0 } == .notServed 0x11,
    (at1 (queue1 addPacket5) 0x201A [0]).head { asid := 1, num := 0, header := 0x2000, age := 0 } == .none,
    decide (((queue1 addPacket5).homed 0).map Queue.turn).Nodup,
    (let s := queue1 addPacket5
     let t := { s with sched := { s.sched with queues := [{ asid := 1, num := 0, header := 0x2000, age := 64 }] } }
     ((t.homed 0).map fun q => t.head q) == [.ready 2 addPacket5] && (t.homed 0).all (fun q => decide (64 ≤ q.age)) &&
       runs (.selection 0) t (fun u => (Store.get none u.sched.selected 0).isSome))] = true := by decide +kernel

/-- An event of launch 0. -/
def event0 (c : Cause) : Event := { cause := c, launch := 0, asid := 1, die := 0, w0 := 1, w1 := 2, waits := some 0, given := false }

/-- The pages of context 1 are watched, and the line at an address has an unpublished write of core 9. -/
def openLine (s : State) (va : W64) : State :=
  let t := s.setEntry 1 0x1000 0x97
  match t.touchesFor 1 {} [(va, 1)] with
  | .ok ts => { t with st := { t.st with watch := (ts.map fun e => (lineOf e.raw, { writer := some (9, 0), readers := [] })) } }
  | .error _ => t

/-- A good copy block of 4 bytes from 0x5000 to 0x5100. -/
def copyBlock : List Byte := leBytes 64 (oneRow 4).toNat ++ leBytes 8 0x5000 ++ leBytes 8 0x5100

theorem witness_PacketEffects : holds [((selecting addPacket5).picked 0 3).isSome, (selecting addPacket5).counterKey 1 (pktAh addPacket5) == some 0x20,
    !(selecting addPacket5).logStalls (some 0x20), ((selecting (packet 4 0 [])).picked 0 4).isSome, ((selecting (packet 5 0 [])).picked 0 5).isSome,
    ((selecting (packet 6 0 [1])).picked 0 6).isSome, leAt (packet 6 0 [1]) 40 1 == 1, leAt (packet 6 0 [0]) 40 1 == 0,
    ((selecting addPacket5).queue 1 0).isSome, (Store.get none up.sched.selected 0).isNone, ((selecting (packet 2 0 (leBytes 8 0x4000))).picked 0 2).isSome,
    (pktA (packet 2 0 (leBytes 8 0x4001))).toNat % 64 != 0, (pktA (packet 2 0 (leBytes 8 0x4000))).toNat % 64 == 0,
    (let s := at1 (at1 (selecting (packet 2 0 (leBytes 8 0x4000))) 0x4000 (copyBlock.take 64)) 0x4040 (copyBlock.drop 64)
     (s.readFor 1 0x4000 128).any (fun b => leAt b 80 48 == 0 && descGood (BitVec.ofNat 512 (leAt b 0 64)) false) &&
     (match s.touchesFor 1 {} [(0x5000, 4)], s.touchesFor 1 { write := true } [(0x5100, 4)] with
      | .ok ta, .ok tb => !s.readWaits ta && !s.writeWaits tb && ta.length == 4 | _, _ => false)),
    pktFlag addPacket5 2, (selecting addPacket5).counterKey 1 (pktHandle addPacket5 2) == some 0x21, !pktFlag (packet 3 0 []) 2,
    (openLine (selecting addPacket5) 0x2000).headerBusy { asid := 1, num := 0, header := 0x2000, age := 0 },
    !(selecting addPacket5).headerBusy { asid := 1, num := 0, header := 0x2000, age := 0 },
    (let s := selecting (packet 2 0 (leBytes 8 0x4000))
     (s.picked 0 2).any (fun p => !s.queueBusy p && (openLine s 0x2000).queueBusy p) && !s.readBusy 1 0x4000 128 && (openLine s 0x4000).readBusy 1 0x4000 128),
    !up.othersReady 1 0, ({ up with sched := { up.sched with launches := [launch0 0 0], next := 1 } } : State).othersReady 2 0 ==
      (({ up with sched := { up.sched with launches := [launch0 0 0], next := 1 } } : State).nextUnit 0 (launch0 0 0)).isSome,
    ({ up with sched := { up.sched with events := [event0 .cbtime] } } : State).othersReady 2 0,
    (let s := { up with sched := { up.sched with adds := [{ asid := 1, key := 0x20, value := 1 }] } }
     let t := s.setContext 1 { s.context 1 with arrivals := [{ die := 0, saved := [(0x20, 0)], log := [], size := 0, seq := 0 }] }
     !s.logStalls (some 0x20) && t.logStalls (some 0x20))] = true := by decide +kernel

theorem witness_CopyCompletes : (let s := flying
    let c := { s with eng := { s.eng with ops := s.eng.ops.map fun (o : EngineOp) => { o with committed := true } } }
    holds [s.eng.ops.all fun o => o.id == 0 && o.kind == .copy && decide (o.agent < 4096) && !s.behindOp o && !s.logStalls o.key && !o.committed,
      c.eng.ops.all fun o => o.committed, Store.wf (0 : W64) c.sync.value, !c.counterBad 0x20, (c.arrivalsOf 0x20).isNone,
      (({ copying 4 with sync := { (copying 4).sync with held := [{ agent := 0, key := 0x20, amount := 4, op := some 0, tested := true }] } } : State).sync.held.filter
        fun e => e.op == some 0).length == 1,
      (let o := (s.eng.ops.headD (s.newOp .copy 0 none 0))
       let d := { o with id := 1, agent := 4096, reads := [(cPad 0 0, true)], writes := [(0x40, false)] }
       let t := { s with eng := { s.eng with ops := [d] } }
       !t.outWaits d && (openAt t 9).outWaits d && runs (.copyComplete 1) t (fun u => u.eng.ops == []) &&
         runs (.copyComplete 1) (openAt t 9) (fun u => u.eng.ops == [d]) && decide (d.writes.map (·.1)).Nodup && t.unlocked (lineOf 0x40)),
      (let o := (s.eng.ops.headD (s.newOp .copy 0 none 0))
       runs (.copyComplete 1) { s with eng := { s.eng with ops := [o, { o with id := 1 }] } } (fun u => u.eng.ops.length == 2))]) = true ∧
    (match exec (.cpy 0 7 5 6) (copying 4) with
      | .next t => (runAll [.copyComplete 0] t).any fun u => u.eng.ops == [] && u.sync.held.map (fun h => h.op) == [none] && u.counter 0x20 == 0
      | _ => false) = true := by decide +kernel

theorem witness_LaunchStarts : holds [((selecting (packet 1 0 (leBytes 8 0x4000 ++ leBytes 8 0x5000 ++ [2]))).picked 0 1).isSome,
    (runAll [.selection 0] (launching 0)).any (fun s => (s.picked 0 1).any fun p => (s.launchInputs p).isOk),
    (selecting (packet 1 0 (leBytes 8 0x4000 ++ leBytes 8 0x5001 ++ [2]))).picked 0 1 |>.any
      (fun p => !(up.launchInputs p).isOk), badTable (leBytes 8 0 ++ [9] ++ leBytes 7 0) [] [], !badTable (leBytes 16 0) [] [],
    ({ kind := .cores, xreg := 10, step := 0, extent := 2, cores := true, gang := true } : Level).gang, !ctx1.det, !noFit ctx1 [],
    (runAll [.selection 0] (launching 0)).any (fun s => (s.picked 0 1).any fun p => !s.queueBusy p && !s.inputsBusy p &&
      (openLine s 0x2000).queueBusy p && (openLine s 0x5000).inputsBusy p)] = true := by decide +kernel

theorem witness_ShotStarts : holds [0 < 8, 2 ≤ 9, 1 < 2, 9 < 31, 0 < 31, Store.wf Core.reset up.cores, Store.wf (0 : Byte) up.st.mem] = true := by
  decide +kernel

theorem witness_Placement : (runAll [.selection 0, .launchPacket 0] (launching 0)).any (fun s => s.dispatching && !s.eventFirst 0 &&
      (s.placeOne 0).any (fun t => (t.placeOne 0).any fun u => (u.placeOne 0).isNone) &&
      s.sched.launches.any (fun l => l.live && s.nextUnit 0 l == some 0 && !s.leaving 0 1 && s.coresFor 0 l 0 == some [1])) = true ∧
    holds [(up.placeOne 0).isNone, (up.context 1).arrivals == [], (up.restoreCounters 1) == some up,
      (let t := up.setContext 1 { up.context 1 with arrivals := [{ die := 0, saved := [(0x20, 5)], log := [], size := 0, seq := 0 }] }
       (t.restoreCounters 1).any fun u => u.counter 0x20 == 5)] = true := by
  decide +kernel

theorem witness_LaunchCompletes : (let s := { up with sched := { up.sched with launches := [launch0 0 2], next := 1 } }
    holds [(s.launch 0).any (fun l => !l.retired && s.launchOver l && l.record != 0), (shot1 0 id).launch 0 |>.any (fun l => !(shot1 0 id).launchOver l),
      (match s.touchesFor 1 { write := true } [(0x6000, 128)] with | .ok ts => !s.writeWaits ts | .error _ => false),
      (launch0 0 2).comp == some (0x21, 7), (launch0 0 2).id == 0,
      (match (openLine s 0x6000).touchesFor 1 { write := true } [(0x6000, 128)] with | .ok ts => (openLine s 0x6000).writeWaits ts | .error _ => false),
      (let t := queue1 addPacket5
       !t.headerBusy { asid := 1, num := 0, header := 0x2000, age := 0 } && (openLine t 0x2000).headerBusy { asid := 1, num := 0, header := 0x2000, age := 0 })]) = true := by decide +kernel

theorem witness_TrapDelivery : holds [(up.undelivered 1).isNone, ((trapped 0x7000).undelivered 1).isSome, ((trapped 0x7000).coreAt 1).cause.toNat % 256 == 0,
    ((trapped 0).launch 0).any (fun l => l.handler == 0), ((trapped 0x7000).launch 0).any (fun l => l.handler != 0),
    ((trapped 0x7000).coreAt 1).gang == none, ((trapped 0x7000).coreAt 1).shot.isSome,
    (((trapped 0x7000).onCore 1 fun c => { c with cause := 7 }).undelivered 1).isSome, ((trapped 0x7000).context 1).arrivals == [],
    ({ trapped 0x7000 with mod := { up.mod with phase := .warned } } : State).mod.phase != .normal,
    ((trapped 0x7000).onCore 1 fun c => { c with cause := 0x12, latch := List.replicate 8 { addr := 0, slot := 0, value := 0, used := true } }).latchFull 1,
    !((trapped 0x7000).onCore 1 fun c => { c with cause := 0x12 }).latchFull 1,
    ((trapped 0x7000).onCore 1 fun c => { c with shot := some { launch := 0, index := 0, kind := .handler } }).undelivered 1 |>.any (·.kind == .handler)] = true := by decide +kernel

/-- Core 1 holds the handler of an event, which has ended with an ACTION in its frame. -/
def acted (a : Nat) : State :=
  at1 ((trapped 0x7000).onCore 1 fun c => { c with run := .ended, why := .none, shot := some { launch := 0, index := 0, kind := .event } })
    0x100238 (leBytes 8 a)

/-- Core 1 holds the handler of a DETREAD, which has ended with ACTION SUPPLY in its frame. -/
def supplies : State :=
  let s := (trapped 0x7000).onCore 1 fun c => { c with run := .ended, why := .none, shot := some { launch := 0, index := 0, kind := .handler } }
  State.poke (at1 s 0x100238 (leBytes 8 1)) ((s.context 1).imageAt 1 + 352) (leBytes 8 0x12)

theorem witness_Supply : holds [(supplies.action 1).any (fun e => e.2.1 == 1 && e.1.kind == .handler),
    causeCode (supplies.savedCause 1 (field (supplies.coreAt 1).ctx 15 0)) == 0x12,
    (latchOf (((supplies.readAt ((supplies.context (field (supplies.coreAt 1).ctx 15 0)).imageAt 1) 1024).2.1).drop 784)).length == 0] = true := by
  decide +kernel

theorem witness_Actions : holds [((acted 0).action 1).any (fun e => e.2.1 == 0), ((acted 1).action 1).any (fun e => e.2.1 == 1 && e.1.kind != .handler),
    ((acted 2).action 1).any (fun e => 2 ≤ e.2.1), (up.action 1).isNone, causeCode ((acted 1).savedCause 1 1) != 0x12] = true := by decide +kernel

/-- Context 1 has a session, and core 1 faulted on an address. -/
def faulted (cause : W64) (va : W64) : State :=
  let s := (trapped 0x7000).onCore 1 fun c => { c with cause := cause, dw0 := va }
  let y : Session := { sid := 1, alive := true, opened := true, feat := 0, keyIn := [], keyOut := [], next := 3, taken := [], sent := 0, waiting := [], replies := [(2, 0, [1])] }
  ({ s with peers := { s.peers with sessions := [y], nextSid := 2 } } : State).setContext 1 { s.context 1 with session := some 1 }

theorem witness_FaultsAndPages : (let s := faulted 0x0207 0x80000000
    let m := { s with peers := { s.peers with moves := [{ asid := 1, va := 0x9000, sid := 1, seq := 0, since := 0 }] } }
    holds [!s.tinvOpen 1, (waitingAt (s.focus 0) 2048 (.tinv 1 2) |>.onCore 2048 fun c => { c with x := c.x.set 2 1 }).tinvOpen 1, !s.moving 1 0x80000000,
      m.moving 1 0x9008, (s.coreAt 1).dw0.toNat < padBase, padBase ≤ ((faulted 0x0607 upad).coreAt 1).dw0.toNat,
      ((s.focus 1).freshFail (accOf (s.coreAt 1)) 0x80000000).isSome, ((s.focus 1).freshFail (accOf (s.coreAt 1)) 0x9000).isNone,
      (((s.setEntry 1 0x1000 0xA7).focus 1).freshFail (accOf (s.coreAt 1)) 0x9000) == some Fail.hostOwned, (s.hostOf 1).isSome,
      (m.endMove 1 0x9000).waitingFor 1 0x9000 == [], m.peers.moves.any (fun e => e.asid == 1 && e.va == pageOf 0x9008), s.accessesOpen 2 == false,
      (s.pageRaw 1 0x9000).isSome, (s.leafEntry 1 0x9000).isSome, (s.place (s.context 1) 0x20000).isSome,
      s.mod.boot == .up, (s.session 1).any (fun x => x.next == 3), (s.context 1).session == some 1,
      Ask.received (.fetched 0x9000 false []) { sid := 1, seq := 3, asid := 1 }, Ask.wellFormed (.fetched 0x9000 false []) { sid := 1, seq := 3, asid := 1 },
      Ask.received (.fetched 0x9000 true (List.replicate 4096 7)) { sid := 1, seq := 3, asid := 1 },
      (s.fetched 1 0x9000 false []) == some s, !m.pageWaits 1 0x9000, (m.fetched 1 0x9000 false []).isSome,
      (match m.pageRaw 1 0x9000 with
        | some raw => ({ m with st := { m.st with watch := [(lineOf raw, { writer := some (9, 0), readers := [] })] } } : State).pageWaits 1 0x9000 | none => false),
      runs (.fetchResend 1 0x9000) m (fun t => t.peers.outbox == m.peers.outbox),
      (let t := { m with mod := { m.mod with clk := 1000000 } }
       1000000 ≤ (t.mod.clk - 0).toNat && (t.hostOf 1).any (fun x => x.sid == 1) && runs (.fetchResend 1 0x9000) t (fun u =>
         u.peers.outbox.length == t.peers.outbox.length + 1 && u.peers.moves.map (fun e => (e.since, e.seq)) == [(1000000, 0)])),
      (let t := { m with peers := { m.peers with moves := m.peers.moves.map fun (e : PageMove) => { e with sid := 9 } } }
       t.peers.moves.all (fun e => (t.hostOf 1).all fun x => e.sid != x.sid))]) = true := by decide +kernel

/-- `up` with a 4 KiB leaf at 0x40000000, whose frame is 0x20000. -/
def paged4 : State := ((up.setEntry 1 0x1008 0xC001).setEntry 1 0xC000 0xD001).setEntry 1 0xD000 0x20087

-- spec/05 R66, R68: the page's bytes and its entry follow it to frame 0x30000
theorem test_page_move : holds [!paged4.accessesOpen 1, (paged4.walk 1 0x40000000).toOption.any (fun t => t.size == 4096 && t.frame == 0x20000),
    paged4.pageRaw 1 0x40000000 == paged4.place (paged4.context 1) 0x20000, (paged4.leafEntry 1 0x40000000) == some (0xD000, 0x20087),
    paged4.leafEntries 1 0x40000000 == ([(0xD000, 0x20087)], 4096), paged4.mod.phase == .normal, 0x30000 % 4096 == 0, 0x30001 % 4096 != 0,
    (paged4.place (paged4.context 1) 0x30000).isSome, (paged4.readAt ((paged4.pageRaw 1 0x40000000).getD 0) 64).2.2 == false,
    (let t := paged4.setFrame 1 [(0xD000, 0x20087)] 0x30000
     (t.leafEntry 1 0x40000000) == some (0xD000, 0x30087) && t.pageRaw 1 0x40000000 == t.place (t.context 1) 0x30000)] = true := by
  decide +kernel

/-- An event of launch 0 waits. -/
def eventful (handler : W64) (c : Cause) : State :=
  let s : State := { up with sched := { up.sched with launches := [launch0 handler 2], next := 1, events := [event0 c] } }
  ({ s with mod := { s.mod with clk := 10000000 } } : State).setContext 1 { s.context 1 with frameVa := 0x100000, saveRaw := 0x3000000100000000 }

theorem witness_EventDelivery : (let s := (eventful 0x7000 .cbtime).onCore 1 fun c => { c with resident := 1 }
    let x := (eventful 0x7000 .cbtime).onCore 1 fun c => { c with resident := 1, ctx := 1, run := .running, shot := some { launch := 0, index := 0, kind := .placed } }
    holds [s.launch 0 != none, (s.launch 1).isNone, (launch0 0 2).live, !({ launch0 0 2 with retired := true } : Launch).live,
      s.sched.events.all (fun e => s.deliverable 0 e && s.eventCore e == some 1), s.dispatching, x.sched.events.all (fun e => x.deliverable 0 e &&
        (x.eventCore e).isNone && e.waits.any (fun w => decide (x.mod.grace ≤ (x.mod.clk - w).toNat)) && !x.isOut (x.eventDie e) 1 && x.highestCore (x.eventDie e) 1 == some 1),
      !x.tinvOpen 1, s.eventFirst 0, runs (.eventDelivery 0) s (fun t => (t.coreAt 1).pc == 0x7000 && (t.coreAt 1).x.toList.getD 2 0 == 0x100200)]) =
    true := by decide +kernel

/-- Context 1 holds every core of die 0, its slice has passed, and context 2 has a shot to place there. -/
def crowdedDie : State :=
  let s := { up with cores := (List.range 255).map fun k => (k + 1, { Core.reset with resident := 1 }) }
  let l : Launch := { launch0 0 0 with asid := 2, nextJ := [] }
  let t := { s with sched := { s.sched with contexts := s.sched.contexts ++ [(2, ctx1)], launches := [l] } }
  { t with mod := { t.mod with clk := 0x100000000 } }

theorem witness_Switching : (let s := trapped 0x7000
    let e := (shot1 0x7000 id).focus 1
    let y := { e with core := { e.core with evicting := true } }
    holds [!s.tinvOpen 1, (s.context 1).live, (s.crewOn 0 1 |>.all fun k => s.quiet k && s.copiesDone k && (s.coreAt k).reserved.isNone), s.crewOn 0 1 == [1],
      !((shot1 0x7000 id).crewOn 0 1).all (shot1 0x7000 id).quiet, y.core.evicting, y.core.gang == none, y.core.run == .running, y.core.bundle == none,
      y.core.take.preempts < 2, !y.core.take.atomic, y.cur < 2048, up.sched.contexts.all (fun c => !up.wantsDie 0 c.1),
      (let t := { up with core := { up.core with resident := 0, run := .idle }, sched := { up.sched with launches := [{ launch0 0 0 with nextJ := [] }] } }
       (t.sched.contexts.map fun c => c.1).filter (fun a => t.wantsDie 0 a) == [1] && t.mayReturn 0 1 && (t.coreAt 3).resident == 0 && t.free_ 3),
      up.dispatching && up.isOut 1 1 && up.mayReturn 1 1 && up.blocksReady 1 1 (up.coresTaken 1 1) && !(up.context 1).halted && !(up.die 1).shed &&
        (up.dies (up.context 1)).1 ≤ 0 && 1 < (up.dies (up.context 1)).2, !up.isOut 0 1 && up.blocksReady 0 1 (up.coresGained 0 1),
      (let t := crowdedDie
       (t.sched.contexts.map fun c => c.1).filter (fun a => t.wantsDie 0 a) == [2] && ((coresOfDie 0).all fun k => (t.coreAt k).resident != 0 || !t.free_ k) &&
         (t.sched.contexts.map fun c => c.1).filter (fun a => !t.isOut 0 a && t.residentOn 0 a != 0 &&
           decide ((t.context a).slice.toNat ≤ (t.mod.clk - Store.get 0 (t.context a).sliceAt 0).toNat)) == [1]),
      (let t := shot1 0 fun c => { c with evicting := true, take := { c.take with atomic := true } }
       let u := { t with mod := { t.mod with clk := 10000000 } }
       u.mod.grace ≤ (u.mod.clk - (u.coreAt 1).evictAt).toNat && (u.coreAt 1).shot.isSome && runs (.graceExpiry 1) u fun v =>
         (v.launch 0).any fun l => l.cause == 0x20)]) = true := by decide +kernel

theorem witness_Reliability : (let s := up.onCore 3 fun c => { c with testing := true }
    let x := (shot1 0 fun c => { c with testing := true })
    holds [(0x3000000000000040#64).toNat / 2 ^ 60 == 3, up.rawValid 0x3000000000000040, !up.rawValid 0xF000000000000000, up.rawValid 0x5000000000000000,
      up.patrolDie 0x3000000000000040 == 0, up.mod.scrub.toList.getD 3 0 != 0, up.mod.scrub.toList.getD 5 0 == 0, !up.core.take.atomic, up.core.take.replays < 2,
      up.core.gang == none, up.core.run == .running, !up.dispatching == false, !(up.die 0).shed,
      ((List.range 16).map fun j => (up.cluster 0).screen + j).all (fun m => !(up.coreAt m).testing && !(up.coreAt m).fenced), (s.coreAt 3).testing,
      (s.coreAt 3).shot == none, (s.coreAt 3).reserved == none, (x.coreAt 1).testing, (x.coreAt 1).shot.isSome, !x.tinvOpen 1, !x.grouped 1,
      (s.coreAt 3).resident == 0,
      (let t := { up with st := { up.st with flaws := [(0, 1)] } }
       t.flaws 0 == 1 && t.rawValid 0 && !t.isCombine 0 && t.patrolDie 0 == 0 && t.mod.scrub.toList.getD 0 0 != 0 && !t.retained 0),
      (let t := { up with st := { up.st with cbMiB := [(0, 4)] } }
       t.isCombine (dPad 0 0xFFFFFF0) && t.rawValid (w64 (dPad 0 0xFFFFFF0))),
      ({ up with mod := { up.mod with dies := up.mod.dies.set 0 { up.die 0 with shed := true } } } : State).retained 0,
      (let t := up.onCore 0 fun c => { c with fenced := true }
       (t.coreAt 0).fenced && !(t.coreAt 1).fenced && runs (.screenTestStart 0) t (fun u => (u.coreAt 1).testing)),
      (launch0 0 0).ranOn.contains 1, ((x.onCore 1 fun c => { c with skips := 3 }).coreAt 1).skips == 3]) = true := by decide +kernel

/-- Whichever element a word of the combine buffer holds, a slot may live there. -/
theorem witness_combine_word (raw : Nat) (c : CSlot) :
    let w := Config.combineWord raw
    let s : State := { up with eng := { up.eng with streams := [(w.1, { CStream.none with slots := [(w.2.1, some c)] })] } }
    Store.get none (s.cstream w.1).slots w.2.1 = some c := by
  simp [State.cstream, Store.get]

theorem witness_Hibernation : holds [State.reset.mod.boot != .up, up.mod.boot == .up, up.mod.phase == .normal, ((shot1 0 id).coreAt 1).run == .running,
    ((shot1 0 id).coreAt 1).reserved == none, ({ up with mod := { up.mod with phase := .drained } } : State).mod.phase == .drained,
    ({ up with mod := { up.mod with phase := .drained } } : State).validSlate == none, up.mod.phase != .warned,
    flying.eng.ops.all (fun o => !flying.logStalls o.key && o.kind == .copy), (shot1 0 id).coreAt 1 |>.shot.any (·.kind == .placed),
    (let s := { up with mod := { up.mod with phase := .restarting } }
     s.mod.boot == .up && s.validSlate.isNone && runs .restart s (fun t => t.mod.phase == .normal) && runs .powerFailWarning s (fun t => t.mod.boot == .off)),
    ({ up with mod := { up.mod with phase := .quiet } } : State).mod.phase == .quiet,
    (let r : RegionRow := { entry := { raw := 0x3000000000001000, pages := 1, prio := 0, flags := 0 }, index := 0, done := 1, state := 1, block := 9,
                            poisoned := 0, hash := [] }
     let t := { up with st := { up.st with flaws := [(tierRaw 9, 17)] } }
     r.done != 0 && t.flaws (tierRaw 9) == 17 && levelOf (tierRaw 9) == 6)] = true := by decide +kernel

theorem witness_PowerEvents : (let t := { up with mod := { up.mod with level := 2, clk := 100000000 } }
    holds [!base.dispatching, up.dispatching, up.mod.level ≤ 4, 1 < t.mod.level, 100000000 ≤ (t.mod.clk - t.mod.levelAt).toNat,
      10 * 89 + 100 < 10 * 100 || 10 * 90 + 100 == 10 * 100, 95 ≤ 95, 90 ≤ 90, 90 < 94,
      (let c := { t with core := { t.core with run := .idle } }.coreAt 5
       c.run == .idle && c.reserved == none && c.ballast == none && !c.testing && 20000 ≤ (t.mod.clk - c.holdAt).toNat && c.shot == none),
      ({ (up.pair 0) with wakes := [1, 2, 3, 5, 7] } : Pair).wakes.take 4 |>.contains 5,
      !(({ (up.pair 0) with wakes := [1, 2, 3, 5, 7] } : Pair).wakes.take 4).contains 7,
      (up.pair 5).calm == none, ({ (up.pair 5) with calm := some 0 } : Pair).calm.any (fun t => decide (10000 ≤ ((10000 : W64) - t).toNat)),
      ((List.range 16).all fun k => (({ up with mod := { up.mod with clusters := Vector.replicate 128 { hot := true, steps := 0, screen := 0 } } } : State).cluster k).hot)]) =
    true := by decide +kernel

/-- Of the dies 0 to 2, at least two are live whichever is harvested. -/
theorem witness_boot_lives : ∀ h : Nat, 2 ≤ (((List.range 9).filter fun d => [0, 1, 2].contains d && d != h).take 8).length
  | 0 => by decide
  | 1 => by decide
  | 2 => by decide
  | _ + 3 => Nat.le_of_ble_eq_true rfl

theorem witness_BootAndLinks : holds [State.reset.loads == [], 4 < 16, up.mod.boot == .up, ({ up with mod := { up.mod with boot := .recovery } } : State).mod.boot == .recovery,
    up.peers.ports.toList.getD 4 0 == 0, ({ up with peers := { up.peers with ports := up.peers.ports.set 4 1 } } : State).peers.ports.toList.getD 4 0 == 1,
    ({ up with peers := { up.peers with ports := up.peers.ports.set 4 2 }, mod := { up.mod with clk := 10000000 } } : State).mod.clk == 10000000,
    up.mod.stepNext == none] = true := by decide +kernel

theorem witness_Sessions : (let s := faulted 0 0
    let r := fun (n : Nat) => ({ sid := 1, seq := n, asid := 1 } : Req)
    holds [s.mod.boot == .up, (s.session 1).any (fun y => y.next == 3 && y.replies.any (fun e => e.1 == 2) && y.next ≤ 2 + 257 && y.waiting == []),
      (s.session 9).isNone, (s.session 1).any (fun y => (s.perform y (r 3) .cert).isSome && (s.respond y (r 3) .cert).isSome), decide (258 < 3 + 256), decide (3 + 256 ≤ 259),
      (let t := { s with mod := { s.mod with clk := 600000000000 } }.setContext 1 { s.context 1 with detached := some 0 }
       (t.context 1).live && (t.context 1).detached == some (0 : W64) && t.mod.window == (600 : Nat) && t.mod.clk == (600000000000 : W64)),
      (let b : List Byte := [1, 0] ++ List.replicate 143 0
       b.length == 145 && leAt b 0 2 == 1 && leAt b 4 12 == 0),
      (let m := { s with peers := { s.peers with moves := [{ asid := 1, va := 0x9000, sid := 1, seq := 0, since := 0 }] } }
       (m.session 1).any (fun y => (m.perform y (r 3) (.give 0x9000 (List.replicate 4096 0))).isNone)),
      (let t := openLine s 0x2000
       t.headerBusy { asid := 1, num := 0, header := 0x2000, age := 0 } && !s.headerBusy { asid := 1, num := 0, header := 0x2000, age := 0 }),
      (s.context 1).detached == none, (s.queue 1 0).isNone, (s.header { asid := 1, num := 0, header := 0x2000, age := 0 }).isSome]) = true := by decide +kernel

theorem witness_RequestAnswers : (let s := faulted 0 0
    let k := s.context 1
    holds [s.mod.phase == .normal, s.mod.level != 4, k.live, k.session == some 1, s.formed 0 0, !s.formed 0 1, s.freeAsid == some 2, (0x1000 : Nat) % 4096 == 0,
      k.exposed.length < 64, !k.exposes 0x9000 false, ({ k with exposed := [(0x9000, 1, true)] } : Context).exposes 0x9000 true, k.feat.getLsbD 11,
      (match s.touchesFor 1 { write := true } [(0x9000, 8)] with | .ok ts => !s.writeWaits ts | .error _ => false),
      s.counterKey 1 0x20 == some 0x20, !s.logStalls (some 0x20), !s.wouldOverflow 0x20 5, (s.applyAdd 0x20 1 0 0).wouldOverflow 0x20 0xFFFFFFFFFFFFFFFF,
      (s.shared 1 0x9000).1 == false, (s.setEntry 1 0x1000 0xA7).shared 1 0x9000 == (true, false), (s.session 1).any (fun y => (s.object y 1 3).isSome), 56 ≤ 56, 57 > 56,
      (let t := openLine s 0x9000
       match t.touchesFor 1 {} [(0x9000, 8)] with | .ok ts => t.readWaits ts && t.writeWaits ts | .error _ => false),
      (let t := s.setEntry 1 0x1000 0xE7
       t.shared 1 0x9000 == (true, true) && (t.pageRaw 1 0x9000).any (fun raw => raw % 64 == 0 && (List.range 64).all fun j =>
         (t.watchOf (lineOf (raw + 64 * j))).writer.isNone) && !t.moving 1 0x9000 && !t.accessesOpen 1),
      (let t := queue1 addPacket5
       (t.queue 1 0).any fun q => (t.header q).any fun e => hdrLg e.2 == 4 && (hdrRing e.2).toNat % 64 == 0 && !t.headerBusy q &&
         (match t.touchesFor 1 { write := true } [(hdrRing e.2, 1024)] with | .ok ts => !t.writeWaits ts | .error _ => false) &&
         (w64 (leAt e.2 0 8) - hdrRead e.2).toNat < 16),
      (let m := { s with peers := { s.peers with moves := [{ asid := 1, va := 0x9000, sid := 1, seq := 0, since := 0 }] } }
       m.moving 1 0x9000 && !s.moving 1 0x9000 && !(s.setEntry 1 0x1000 0xA7).pageWaits 1 0x9000)]) = true := by decide +kernel

/-- The sparse tables are in their canonical form, and no drain has kept any (`State.Canonical`). -/
def canonical? (s : State) : Bool :=
  Memory.wf s.st.mem && Store.wf false s.st.empty && Store.wf 0 s.st.claims && Store.wf false s.st.poison &&
  Store.wf LineMeta.reset s.st.lines && Store.wf 0 s.st.flaws && Store.wf Watch.none s.st.watch && Store.wf 0 s.sync.value &&
  Store.wf 0 s.sync.owner && Store.wf false s.sync.poisoned && Store.wf Core.reset s.cores && s.mod.kept.isNone

/-- The core's own U-pad granted whole, with x5 the address of its byte 256 and x6 and x7 values. -/
def own : State := ownPad ((((State.poke base 0x100 [0xFE, 0xFF, 3, 4, 5, 6, 7, 8]).setX 5 (upad + 0x100)).setX 6 9).setX 7 2)

theorem witness_OwnPadAccesses : holds [clean? own, ownPad? own, canonical? own, (own.x 5).toNat == 0xFFFFFF0000000000 + 0x100, 0x100 % 16 == 0,
    (own.x 7).toNat == 2, !own.isEmpty 0x100, own.claimer 0x100 == none, (own.setEmpty 0x100).isEmpty 0x100, canonical? (own.setEmpty 0x100),
    ((own.claim 0x100).claimer 0x100).isSome, canonical? (own.claim 0x100), ownPad? (own.setEmpty 0x100),
    gives own [(.ld 10 5 0 1, 10, 0xFFFE), (.ld 10 5 0 5, 10, -2), (.ldw 10 5 0 3, 10, 0x080706050403FFFE)],
    runs (.pclr 7 5 0) own (fun t => t.isEmpty 0x100 && t.isEmpty 0x110 && !t.isEmpty 0x120), 0xFFFF / 65536 != (0xFFFF + 2 - 1) / 65536,
    0x101 / 65536 == (0x101 + 2 - 1) / 65536] = true := by decide +kernel

/-- Stream 0 of die 0 of `up`, RENORM, its ring at 0x9000, with a complete slot. -/
def releasing : State := up.setCstream 0 { cstream2 1 with ring := 0x9000, slots := [(0, some { slot39 [0, 1] with complete := true })] }

theorem witness_CombineReleases : (match releasing.touchesFor 1 { write := true } [(0x9000, 320)] with
    | .ok ts => ts.length == 320 && !releasing.writeWaits ts && ts.all (fun c => !releasing.poisoned c.raw) && ts.map (·.raw) == (List.range 320).map (fun k => ((ts.map (·.raw)).headD 0) + k)
    | .error _ => false) = true ∧ holds [canonical? releasing, !releasing.logStalls none, releasing.st.flaws == [], releasing.st.poison == [],
      (cstream2 1).sub == 1, (slot39 [0, 1]).bad == [],
      (releasing.releaseSlot 0 0 { slot39 [0, 1] with complete := true }).any (fun t => (t.cstream 0).released == 1 &&
        (t.readFor 1 0x9004 4).any fun b => leNat b == 5),
      ({ slot39 [0, 1] with complete := true } : CSlot).complete && !(slot39 [0]).complete,
      ((slot39 [0]).sum (cstream2 1)).getD 3 0 == 0x40000000, flying.eng.held == []] = true := by decide +kernel

theorem witness_Reductions : (let d := (grouped.core.cd[1])
    holds [ropOf d == 0, ctypeOf d == 0, elementsOf d == 4, esizeOf d == 4, ctypeOf (d ||| 1#512 <<< 152) == 1, ctypeOf (d ||| 2#512 <<< 152) == 2,
      [List.replicate 16 (0 : Byte), List.replicate 16 1, List.replicate 16 2].all fun r => r.length == 16]) = true := by decide +kernel

/-- Core `n` waits at the instruction, with no word in error and no slot held by a port (`WaitsAt`). -/
def waitsAt? (s : State) (n : Nat) (i : Instr) : Bool :=
  (s.focus n).core.run == .blocked && (s.focus n).core.slipped == [] && clean? (s.focus n) && (s.focus n).current == some i

/-- A stream of one slot, which another token holds. -/
def fullStream : State := (combining []).setCstream 0 { cstream2 0 with slots := [(0, some { slot39 [] with token := 6 })] }

-- no slot of it is free, whichever the search begins at
theorem witness_FullStream : fullStream.freeSlot (fullStream.cstream 0) = none := by
  have hd : fullStream.det = false := by decide +kernel
  have hs : (fullStream.cstream 0).s = 1 := by decide +kernel
  have hf : (fullStream.cstream 0).isFree 0 = false := by decide +kernel
  simp [State.freeSlot, hd, hs, CStream.freeFrom, Nat.mod_one, hf]

/-- `s` with a committed reservation of core 1 for context `a`. -/
def reserving (s : State) (a : Nat) : State :=
  s.onCore 1 fun c => { c with reserved := some { by_ := 0, launch := 0, asid := a, entry := 0x9000, args := [], ready := true } }

-- spec/05 R53, R54, R65, spec/07 R99, spec/21 R301: what each wait waits for, there and not there
theorem witness_Wakes : (let c := waitingAt (up.onCore 2048 fun k => { k with x := k.x.set 2 1 }) 2048 (.tinv 1 2)
    let d := { c with eng := { c.eng with ops := flying.eng.ops } }
    let l := standing own (.ldw 6 5 0 3)
    let w := standing (copying 4) (.cwait 7 7 3)
    let m := standing (copying 4) (.cwait 7 0 3)
    let b := standing (combining []) (.cbal 0 20 1)
    let f := standing fullStream (.cbal 0 20 1)
    holds [waitsAt? c 2048 (.tinv 1 2), waitsAt? d 2048 (.tinv 1 2), ((c.focus 2048).x 1).toNat % 4096 == 0,
      !((c.focus 2048).dropTlb 1 0 0).accessesOpen 1, ((d.focus 2048).dropTlb 1 0 0).accessesOpen 1,
      waitsAt? l 0 (.ldw 6 5 0 3), ownPad? l, canonical? l, !l.isEmpty 0x100, (l.setEmpty 0x100).isEmpty 0x100, waitsAt? (l.setEmpty 0x100) 0 (.ldw 6 5 0 3),
      l.claimer 0x100 == none, ((l.claim 0x100).claimer 0x100).isSome, okay (l.consume (upad + 0x100) 8 true),
      waitsAt? w 0 (.cwait 7 7 3), w.counterKey w.asid (w.x 7) == some 0x20, !w.counterBad 0x20, (w.counter 0x20).toNat < (w.x 7).toNat,
      waitsAt? m 0 (.cwait 7 0 3), (m.x 0).toNat ≤ (m.counter 0x20).toNat,
      waitsAt? b 0 (.cbal 0 20 1), b.streamKey (b.x 0) == some 0, (b.cstream 0).configured,
      (match b.allocate 0 (b.v 1) with | .ok (_, some 0) => true | _ => false), waitsAt? f 0 (.cbal 0 20 1), (f.cstream 0).configured,
      !sharesExpert (pairsIn (f.v 1) 2), ((f.cstream 0).slotOf 5).isNone, runs (.cwaitWake 0) m (fun t => t.core.run == .running && t.core.bundle.any (fun b => b.slot == 1)),
      runs (.cwaitWake 0) w (fun t => t.core.run == .blocked && t.core.bundle.any (fun b => b.slot == 0)),
      runs (.consumingLoadWake 0) l (fun t => t.core.run == .running && t.x 6 == 0x080706050403FFFE)]) = true := by decide +kernel

theorem witness_HeldWait : (let s := slipping (copying 4)
    let t := { s with sync := { s.sync with value := [(0x20, 0x20)] } }
    holds [(t.core.slipped.map fun x => x.instr) == [.cwait 7 7 3], clean? t, t.core.slipped.all fun x =>
      let a := t.atHeld x
      a.counterKey a.asid (a.x 7) == some 0x20 && !a.counterBad 0x20 && decide ((a.x 7).toNat ≤ (a.counter 0x20).toNat)]) = true := by
  decide +kernel

theorem witness_SpawnStarts : (let s := reserving up 1
    let b := (up.padsOf 1 0 [1]).headD 0
    let t := { s with eng := { s.eng with ops := [{ s.newOp .copy 0 none 0 with writes := [(b, false)] }] } }
    let c := { up.context 1 with saveRaw := 0x3000000100000000, away := [b] }
    let u := { (reserving up 1).setContext 1 c with st := { up.st with lines := [(lineOf (c.blockAt b), { poison := true, zeroed := false, keyv := 0 })] } }
    holds [s.padsReady 1 1, (s.coreAt 1).reserved.any (·.ready), !(s.coreAt 1).gated, s.mod.phase == .normal, (s.restoreCounters 1).isSome,
      ((s.padsOf 1 0 [1]).foldlM (fun (v : State) raw => v.takeBlock 1 raw) s).isSome, !t.padsReady 1 1, runs (.spawnShotStart 1) t (fun v => (v.coreAt 1).run == .idle),
      u.padsReady 1 1, ((u.padsOf 1 0 [1]).foldlM (fun (v : State) raw => v.takeBlock 1 raw) u).isNone, (up.restoreCounters 1).isSome]) = true := by
  decide +kernel

/-- `faulted` with a move of the page at 0x9000 of context 1 in flight. -/
def fetchingPage : State :=
  let s := faulted 0x0507 0x9000
  { s with peers := { s.peers with moves := [{ asid := 1, va := 0x9000, sid := 1, seq := 0, since := 0 }] } }

/-- `faulted` with a leaf of 64 KiB at 0x40000000, shared with the host, and OWN as given. -/
def paged64 (own : W64) : State :=
  (List.range 16).foldl (fun t k => t.setEntry 1 (0xD000 + 8 * k) (0x200AF ||| own))
    (((faulted 0x0507 0x40001000).setEntry 1 0x1008 0xC001).setEntry 1 0xC000 0xD001)

/-- Context 1 holds parts of its pages. -/
def withParts (s : State) (ps : List Nat) : State := s.onContext 1 fun c => { c with parts := ps }

-- FIPS 197: the S-box of 0x53, and its example of MixColumns
theorem test_aes : (aesSub 0x53 == 0xED && aesUnsub 0xED == 0x53 && aesMul 0x57 0x13 == 0xFE &&
    (aesMix [2, 3, 1, 1] [0xDB, 0x13, 0x53, 0x45]).take 4 == [0x8E, 0x4D, 0xA1, 0xBC]) = true := by decide +kernel

/-- Core 2048 waits at a tinv of context 1. -/
def tinvWaits (s : State) : State := waitingAt (s.onCore 2048 fun c => { c with x := c.x.set 2 1 }) 2048 (.tinv 1 2)

-- spec/05 R65, R68, R69, spec/31 R389: a move waits for a tinv; a page of 64 KiB moves part by part
theorem witness_PageParts : (let m := fetchingPage
    let w := paged64 0
    let o := paged64 0x40
    let all := (List.range 16).map fun k => 0x40000000 + 4096 * k
    holds [m.peers.moves.any (fun e => decide (e.asid = 1 ∧ e.va = 0x9000)), !m.pageWaits 1 0x9000, !m.tinvOpen 1, (tinvWaits m).tinvOpen 1,
      ((tinvWaits m).fetched 1 0x9000 false []).isNone, (m.fetched 1 0x9000 false []).isSome, w.partsOfPage 1 0x40001000 == all, (w.hostOf 1).isSome,
      !w.moving 1 0x40001000, w.missingPart 1 0x40001000 == 0x40001000, (withParts w [0x40001000]).missingPart 1 0x40001000 == 0x40000000,
      (withParts w [0x40001000]).holdsPart 1 0x40001000, !(withParts w [0x40001000]).holdsPart 1 0x40002000, o.holdsPart 1 0x40002000,
      (w.pageRaw 1 0x40001000).isSome, (w.shared 1 0x40001000) == (true, false), (o.shared 1 0x40001000) == (true, true), canonical? m,
      ((w.focus 1).freshFail (accOf (w.coreAt 1)) 0x40001000) == some Fail.hostOwned, (w.context 1).parts == [],
      all.any (fun p => !((withParts w [0x40001000]).context 1).parts.contains p)]) = true := by decide +kernel

theorem witness_PageOwnership : (let w := paged64 0
    let all := (List.range 16).map fun k => 0x40000000 + 4096 * k
    let o := (withParts w (all.filter (· != 0x40003000))).takePage 1 0x40003000 []
    let g := (paged64 0x40).givePage 1 0x40002000
    holds [o.shared 1 0x4000F000 == (true, true), (g.context 1).parts == all.filter (· != 0x40002000)]) = true := by decide +kernel

-- spec/05 R106: an open write on a page's block holds its move back
theorem witness_MoveWaits : (let raw := (paged4.place (paged4.context 1) 0x20000).getD 0
    let s := { paged4 with st := { paged4.st with watch := [(lineOf raw, { writer := some (9, 0), readers := [] })] } }
    holds [!paged4.blockOpen raw, s.blockOpen raw, !s.accessesOpen 1, runs (.pageMove 1 0x40000000 0x30000) s (fun t => t.sched == s.sched &&
      t.leafEntry 1 0x40000000 == some (0xD000, 0x20087))]) = true := by decide +kernel

-- spec/25 R335, R337: nothing to take where the context has no U-pad granted
theorem witness_NoPads : (let s := (trapped 0x7000).onContext 1 fun c => { c with pads := [] }
    let e := (eventful 0x7000 .cbtime).onContext 1 fun c => { c with pads := [] }
    let d := up.onCore 1 fun c => { c with resident := 1 }
    holds [s.padsOf 1 0 [1] == [], e.padsOf 1 0 [1] == [], (e.context 1).arrivals == [], !(d.padsOf 1 0 [1]).isEmpty, canonical? s, canonical? e]) = true := by
  decide +kernel

/-- Every core of die 0 is taken: core 255 by context 3, the others run shots of context 1, which has more to place and whose slice
has passed. -/
def starvedDie : State :=
  let s := { up with cores := (List.range 255).map fun k =>
    (k + 1, { Core.reset with resident := if k = 254 then 3 else 1, run := .running }) }
  let t := { s with sched := { s.sched with launches := [{ launch0 0 0 with nextJ := [] }] } }
  { t with mod := { t.mod with clk := 0x100000000 } }

theorem witness_SliceAlone : (let t := starvedDie
    holds [(t.sched.contexts.map fun c => c.1).filter (fun a => t.wantsDie 0 a) == [1], !t.isOut 0 1,
      (coresOfDie 0).all (fun k => (t.coreAt k).resident != 0 || !t.free_ k),
      (t.sched.contexts.map fun c => c.1).filter (fun a => !t.isOut 0 a &&
        decide ((t.context a).slice.toNat ≤ (t.mod.clk - Store.get 0 (t.context a).sliceAt 0).toNat)) == [1],
      nextContext 1 [1] == some 1, nextContext 0 ([1].filter (· != 1)) == none, nextContext 1 [1, 2] == some 2]) = true := by decide +kernel

theorem witness_CombineErrors : (let raw := dPad 0 0xFFFFFF0
    let s := { up with st := { up.st with cbMiB := [(0, 4)], flaws := [(raw, 2)] } }
    let p := { up with st := { up.st with cbMiB := [(0, 4)], poison := [(raw, true)] } }
    holds [canonical? s, s.isCombine raw, s.flaws raw == 2, p.isCombine raw, Store.get false p.st.poison raw, unitOf raw == raw]) = true := by
  decide +kernel

/-- Core 0 stands at its next take mark, and its take's copy has watched bytes still to write. -/
def committing : State :=
  let s := started (at4 up (word4 0x10000000 0xFFFFFFFF 0xFFFFFFFF 0xFFFFFFFF))
  { s with eng := { s.eng with ops := watching.eng.ops } }

-- spec/29 R357, R358: the commit that has begun completes at the warning
theorem witness_CommitBegun : (let s := { committing with core := { committing.core with shot := some { launch := 0, index := 0, kind := .placed } } }
    holds [s.shotCores == [0], s.commitBegun 0, (s.focus 0).members == [0], (s.focus 0).watchedOut, up.shotCores.all (fun n => !up.commitBegun n),
      !(up.focus 0).watchedOut, s.mod.boot == .up, s.mod.phase == .normal,
      runs .powerFailWarning s (fun t => t.core.run == .stopped && t.core.why == .power && t.eng.ops == [] && t.core.pc == 0x9000)]) = true := by
  decide +kernel

theorem witness_CoolCluster : holds [!(up.cluster 3).hot, 95 ≤ 97, 97 < 100, runs (.thermalStep 3 97) up (fun t => (t.cluster 3).steps == (up.cluster 3).steps)] =
    true := by decide +kernel

theorem witness_SessionTurns : (let s := faulted 0 0
    let r : Req := { sid := 1, seq := 3, asid := 1 }
    let y := (s.session 1).getD { sid := 1, alive := true, opened := true, feat := 0, keyIn := [], keyOut := [], next := 3, taken := [], sent := 0, waiting := [], replies := [] }
    let t := s.onSession 1 fun z => { z with waiting := [(r, .cert)] }
    holds [y.waiting == [], (t.session 1).any (fun z => z.waiting.find? (fun e => e.1.seq == z.next) == some (r, .cert) && (t.takeTurn z r .cert).isSome),
      y.waiting.all (fun e => e.1.seq != 3), !y.taken.contains 3, ({ y with waiting := [(r, .cert)] } : Session).waiting.any (fun e => e.1.seq == 3),
      ({ y with taken := [3] } : Session).taken.contains 3, y.taken == []]) = true := by decide +kernel

-- spec/31 R385, R387-R389: what each answer depends on
theorem witness_RequestCases : (let s := faulted 0 0
    let k := s.context 1
    let y := (s.session 1).getD { sid := 1, alive := true, opened := true, feat := 0, keyIn := [], keyOut := [], next := 3, taken := [], sent := 0, waiting := [], replies := [] }
    let q : Queue := { asid := 1, num := 0, header := 0x2000, age := 0 }
    let h := queue1 addPacket5
    let p := (h.setEntry 1 0x1000 0)
    let m := paged64 0
    holds [(0x0200000000000000#64).toNat / 2 ^ 56 != 1, (0x0100000000000FFF#64).toNat / 2 ^ 56 == 1, (0x20#64).getLsbD 5, !y.feat.getLsbD 4,
      s.formed ((0x20#64).toNat % 4) ((0x20#64).toNat / 4 % 8), ({ k with wrong := 15 } : Context).wrong == 15, s.counterKey 1 0x3F == none,
      (s.setContext 1 { k with arrivals := [{ die := 0, saved := [(0x20, 0)], log := [], size := 0, seq := 0 }] }).logStalls (some 0x20),
      m.shared 1 0x40001000 == (true, false) && !m.holdsPart 1 0x40001000 && !m.moving 1 0x40001000,
      (({ m with peers := { m.peers with moves := [{ asid := 1, va := 0x40002000, sid := 1, seq := 0, since := 0 }] } } : State).moving 1 0x40001000),
      !h.headerBusy q, (match p.touchesFor 1 {} [(0x2000, 64)] with | .error _ => true | _ => false),
      (match h.touchesFor 1 {} [(0x2000, 64)] with
        | .ok ts => (({ h with st := { h.st with lines := ts.take 1 |>.map fun c => (lineOf c.raw, { poison := true, zeroed := false, keyv := 0 }) } } : State).header q).isNone
        | .error _ => false),
      ((at1 h 0x2018 [3]).header q).any (fun e => decide (hdrLg e.2 < 4)), (h.header q).any (fun e => decide (4 ≤ hdrLg e.2 ∧ hdrLg e.2 ≤ 16)),
      ((at1 h 0x2000 (leBytes 8 16)).header q).any (fun e => decide (16 ≤ (w64 (leAt e.2 0 8) - hdrRead e.2).toNat))]) = true := by decide +kernel

theorem get_consecutive {α : Type} (d v : α) : ∀ n i a : Nat, i ≤ a → a < i + n →
    Store.get d ((List.range' i n).map fun k => (k, v)) a = v
  | 0, _, _, h, h' => absurd h' (by omega)
  | n + 1, i, a, h, h' => by
    simp only [List.range'_succ, List.map_cons, Store.get]
    split
    · rfl
    · rw [if_neg (by omega)]
      exact get_consecutive d v n (i + 1) a (by omega) (by omega)

/-- Every ASID has a live context. -/
def everyAsid : State := { up with sched := { up.sched with contexts := (List.range' 1 65535).map fun k => (k, ctx1) } }

theorem witness_NoAsid : everyAsid.freeAsid = none := by
  have live : ∀ a, 1 ≤ a → a < 65536 → (everyAsid.context a).live = true := fun a h h' => by
    rw [show everyAsid.context a = ctx1 from get_consecutive Context.none ctx1 65535 1 a h (by omega)]
    rfl
  simp only [State.freeAsid, List.find?_eq_none]
  intro a h
  simp only [Bool.and_eq_true, decide_eq_true_eq, Bool.not_eq_true', not_and, Bool.not_eq_false]
  refine fun h' => live a ?_ h'
  simp only [List.mem_append, List.mem_map, List.mem_range, List.mem_singleton] at h
  omega

/-- A ticket that answers, and one that does not. -/
theorem witness_tickets (b : List Byte) : Config.sha384 b = ({ ctx1 with ticket := Config.sha384 b } : Context).ticket ∧
    Config.sha384 b ≠ ({ ctx1 with ticket := Config.sha384 b ++ [0] } : Context).ticket := by
  refine ⟨rfl, fun h => ?_⟩
  have := congrArg List.length h
  simp at this

end Sys2Proof.Tests
end

section
/-! SUPPORT. Scalar slots of two sources, and the quotients and remainders of spec/13 R165. -/

namespace Sys2Proof.Machine

/-! The values: one equation for each branch of R165. -/

/-- R165, the first branch of the quotient. -/
@[simp] theorem quotient_zero (f : BitVec 4) (a : W64) : quotient f a 0 = 0xFFFFFFFFFFFFFFFF#64 := by
  rw [quotient, if_pos rfl]
  rfl

/-- R165, the first branch of the remainder. -/
@[simp] theorem remainder_zero (f : BitVec 4) (a : W64) : remainder f a 0 = a := by
  rw [remainder, if_pos rfl]

/-- The signed quotient is the library's, which also wraps at the overflow. -/
theorem quotient_signed {b : W64} (a : W64) (hb : b ≠ 0) : quotient 0 a b = a.sdiv b := by
  rw [quotient, if_neg hb, if_pos rfl]
  exact BitVec.eq_of_toInt_eq (by rw [BitVec.toInt_ofInt, BitVec.toInt_sdiv])

/-- The signed remainder is the library's, with the sign of the dividend. -/
theorem remainder_signed {b : W64} (a : W64) (hb : b ≠ 0) : remainder 0 a b = a.srem b := by
  rw [remainder, if_neg hb, if_pos rfl, ← BitVec.toInt_srem, BitVec.ofInt_toInt]

theorem quotient_unsigned {b : W64} (a : W64) (hb : b ≠ 0) : quotient 1 a b = a / b := by
  rw [quotient, if_neg hb, if_neg (by decide)]

theorem remainder_unsigned {b : W64} (a : W64) (hb : b ≠ 0) : remainder 1 a b = a % b := by
  rw [remainder, if_neg hb, if_neg (by decide)]

/-- The word that reads −2^63 signed. -/
theorem eq_intMin_of_toInt {a : W64} (ha : a.toInt = -2 ^ 63) : a = BitVec.intMin 64 :=
  BitVec.eq_of_toInt_eq (by rw [ha]; rfl)

/-- The word that reads −1 signed. -/
theorem eq_neg_one_of_toInt {b : W64} (hb : b.toInt = -1) : b = -1#64 :=
  BitVec.eq_of_toInt_eq (by rw [hb]; rfl)

/-- R165, the second branch of the quotient. -/
theorem quotient_overflow {a b : W64} (ha : a.toInt = -2 ^ 63) (hb : b.toInt = -1) :
    quotient 0 a b = 0x8000000000000000#64 := by
  obtain rfl := eq_intMin_of_toInt ha
  obtain rfl := eq_neg_one_of_toInt hb
  rw [quotient_signed _ (by decide), BitVec.intMin_sdiv_neg_one]
  rfl

/-- R165, the second branch of the remainder. -/
theorem remainder_overflow {a b : W64} (ha : a.toInt = -2 ^ 63) (hb : b.toInt = -1) : remainder 0 a b = 0 := by
  have hb0 : b ≠ 0 := by rintro rfl; exact absurd hb (by decide)
  rw [remainder_signed a hb0]
  exact BitVec.eq_of_toInt_eq (by rw [BitVec.toInt_srem, ha, hb]; rfl)

/-- R165, the third branch: truncation toward zero, which fits in 64 bits outside the overflow. -/
theorem toInt_quotient_signed {a b : W64} (hb : b ≠ 0) (ho : ¬ (a.toInt = -2 ^ 63 ∧ b.toInt = -1)) :
    (quotient 0 a b).toInt = a.toInt.tdiv b.toInt := by
  rw [quotient_signed a hb]
  refine BitVec.toInt_sdiv_of_ne_or_ne a b (Decidable.not_and_iff_not_or_not.mp ?_)
  rintro ⟨rfl, rfl⟩
  exact ho ⟨rfl, rfl⟩

/-- R165, the third branch: a − q × b, exactly. -/
theorem toInt_remainder_signed {a b : W64} (hb : b ≠ 0) (ho : ¬ (a.toInt = -2 ^ 63 ∧ b.toInt = -1)) :
    (remainder 0 a b).toInt = a.toInt - (quotient 0 a b).toInt * b.toInt := by
  rw [remainder_signed a hb, toInt_quotient_signed hb ho, BitVec.toInt_srem, Int.tmod_def, Int.mul_comm]

/-- R165, unsigned: the dividend is quotient times divisor plus remainder. -/
theorem toNat_quotient_mul_add_remainder {b : W64} (a : W64) (hb : b ≠ 0) :
    a.toNat = (quotient 1 a b).toNat * b.toNat + (remainder 1 a b).toNat := by
  rw [quotient_unsigned a hb, remainder_unsigned a hb, BitVec.toNat_udiv, BitVec.toNat_umod, Nat.div_add_mod']

theorem toNat_remainder_lt {b : W64} (a : W64) (hb : b ≠ 0) : (remainder 1 a b).toNat < b.toNat := by
  rw [remainder_unsigned a hb]
  exact Nat.mod_lt _ (BitVec.toNat_pos_of_ne_zero hb)

end Sys2Proof.Machine

namespace Sys2Proof.Claims

open Sys2Proof Sys2Proof.Machine

/-- A guarded scalar slot of two sources writes its function of them, on a core whose words hold no error. -/
theorem writesX_of_alu2 {i : Instr} {s : State} {d a b : BitVec 5} {g : BitVec 3} {f : W64 → W64 → W64}
    (he : exec i s = slot i (alu2 f d a b g) s) (hs : Clean s) (hb : s.itemBusy i = false := by rfl) :
    WritesX i s d g (f (s.x a) (s.x b)) :=
  he.trans (slot_ok i hs rfl hb)

section
variable {s : State} (d a b : BitVec 5) (g : BitVec 3) (f : BitVec 4)

theorem writesX_div (hs : Clean s) : WritesX (.div d a b g f) s d g (quotient f (s.x a) (s.x b)) :=
  writesX_of_alu2 rfl hs

theorem writesX_rem (hs : Clean s) : WritesX (.rem d a b g f) s d g (remainder f (s.x a) (s.x b)) :=
  writesX_of_alu2 rfl hs

end

/-- Settles O10: div and rem write `quotient` and `remainder`, whose branches are those of R165. -/
theorem scalarDivisionResults : Obligations.ScalarDivisionResults := by
  intro s d a b g hs x y
  have hdiv (f : BitVec 4) : WritesX (.div d a b g f) s d g (quotient f x y) := writesX_div d a b g f hs
  have hrem (f : BitVec 4) : WritesX (.rem d a b g f) s d g (remainder f x y) := writesX_rem d a b g f hs
  refine ⟨fun hy f _ => ?zeroDivisor, fun hx hy => ?overflow, fun hy ho => ?signed, fun hy => ?unsigned⟩
  case zeroDivisor =>
    have hq : quotient f x y = 0xFFFFFFFFFFFFFFFF#64 := by rw [hy, quotient_zero]
    have hr : remainder f x y = x := by rw [hy, remainder_zero]
    exact ⟨hq ▸ hdiv f, hr ▸ hrem f⟩
  case overflow =>
    exact ⟨quotient_overflow hx hy ▸ hdiv 0, remainder_overflow hx hy ▸ hrem 0⟩
  case signed =>
    exact ⟨_, _, toInt_quotient_signed hy ho, toInt_remainder_signed hy ho, hdiv 0, hrem 0⟩
  case unsigned =>
    exact ⟨_, _, toNat_quotient_mul_add_remainder x hy, toNat_remainder_lt x hy, hdiv 1, hrem 1⟩

end Sys2Proof.Claims
end

section
/-! SUPPORT. Lanes named by a number, and the lane moves of spec/15 R206 to R209. -/

namespace Sys2Proof.Machine

/-- A step of an effect that succeeds hands its value to the rest. -/
@[simp] theorem ok_bind {α β : Type} (a : α) (f : α → Res β) : ((.ok a : Res α) >>= f) = f a := rfl

/-- Bits 5:0 of a word, as the number of a lane. -/
theorem field_five_zero {w : Nat} (x : BitVec w) : field x 5 0 = x.toNat % 64 := by
  rw [field, BitVec.extractLsb'_toNat, Nat.shiftRight_zero]

/-- A lane read by its number, or zero past the last lane, is that of the list of lanes. -/
theorem getElem?_getD_eq_toList_getD (v : Lanes) (n : Nat) : v[n]?.getD 0 = v.toList.getD n 0 := by
  rw [List.getD_eq_getElem?_getD, Vector.getElem?_toList]

/-- One lane overwritten, lane by lane. -/
theorem setIfInBounds_eq_ofFn (v : Lanes) (n : Nat) (e : W32) :
    v.setIfInBounds n e = Vector.ofFn fun k : Fin 64 => if k.val = n then e else v[k] := by
  ext k hk
  rw [Vector.getElem_setIfInBounds, Vector.getElem_ofFn]
  simp only [eq_comm (a := n), Fin.getElem_fin]

end Sys2Proof.Machine

namespace Sys2Proof.Claims

open Sys2Proof Sys2Proof.Machine

/-- A slot answers what its effect gives, on a core whose words hold no error. -/
theorem answers_of_slot {i : Instr} {eff : State → Res State} {s t : State} (he : exec i s = slot i eff s)
    (hs : Clean s) (ht : eff s = .ok t) (hb : s.itemBusy i = false := by rfl) : Answers i s t :=
  he.trans (slot_ok i hs ht hb)

section
variable {s t u : State} {v w : Lanes} {d a b l : BitVec 6} {x : BitVec 5} {g : BitVec 3} {h : BitVec 1}

theorem answers_vperm (hs : Clean s) (hr : Reads2 s a b h u v w)
    (ht : u.dst d (s.p g) (Vector.ofFn fun k => v.toList.getD (w[k].toNat % 64) 0) = .ok t) :
    Answers (.vperm d a b g h) s t := by
  obtain ⟨s1, ha, hb⟩ := hr
  refine answers_of_slot rfl hs ?_
  simp only [ha, hb, ok_bind, getElem?_getD_eq_toList_getD]
  exact ht

theorem answers_vbcast (hs : Clean s)
    (ht : s.dst d (s.p g) (Vector.replicate 64 ((s.x x).setWidth 32)) = .ok t) : Answers (.vbcast d x g) s t :=
  answers_of_slot rfl hs ht

theorem answers_vbcastLane (hs : Clean s) (ha : s.src a = .ok (u, v))
    (ht : u.dst d (s.p g) (Vector.replicate 64 (v.toList.getD ((s.x x).toNat % 64) 0)) = .ok t) :
    Answers (.vbcastLane d a x g) s t := by
  refine answers_of_slot rfl hs ?_
  simp only [ha, ok_bind, field_five_zero, getElem?_getD_eq_toList_getD]
  exact ht

theorem answers_vmovx (hs : Clean s) (ha : s.src a = .ok (u, v)) :
    Answers (.vmovx l a x) s (u.setX x ((v.toList.getD l.toNat 0).setWidth 64)) := by
  refine answers_of_slot rfl hs ?_
  simp only [ha, ok_bind, getElem?_getD_eq_toList_getD]
  rfl

theorem answers_vmovxS (hs : Clean s) (ha : s.src a = .ok (u, v)) :
    Answers (.vmovxS l a x) s (u.setX x ((v.toList.getD l.toNat 0).signExtend 64)) := by
  refine answers_of_slot rfl hs ?_
  simp only [ha, ok_bind, getElem?_getD_eq_toList_getD]
  rfl

theorem answers_vmovxToLane (hs : Clean s) :
    Answers (.vmovxToLane d l x) s
      (s.setV d.toNat (Vector.ofFn fun k => if k.val = l.toNat then (s.x x).setWidth 32 else (s.v d.toNat)[k])) := by
  have he : exec (.vmovxToLane d l x) s = execVmovxToLane d l x s := rfl
  refine answers_of_slot he hs ?_
  rw [setIfInBounds_eq_ofFn]

theorem answers_vidx (hs : Clean s) (ht : s.dst d (s.p g) (Vector.ofFn fun k => BitVec.ofNat 32 k.val) = .ok t) :
    Answers (.vidx d g) s t :=
  answers_of_slot rfl hs ht

end

/-- Settles O31: each lane move answers what its effect gives, with the lanes it takes read by their numbers. -/
theorem vectorLaneMoves : Obligations.VectorLaneMoves := by
  intro s d a b l x g h hs
  refine ⟨fun u t v w hr ht => ?vperm, fun t ht => ?vbcast, fun u t v ha ht => ?vbcastLane, fun u v ha => ?vmovx,
    fun _ => ?vmovxToLane, fun t ht => ?vidx⟩
  case vperm => exact answers_vperm hs hr ht
  case vbcast => exact answers_vbcast hs ht
  case vbcastLane => exact answers_vbcastLane hs ha ht
  case vmovx => exact ⟨answers_vmovx hs ha, answers_vmovxS hs ha⟩
  case vmovxToLane => exact answers_vmovxToLane hs
  case vidx => exact answers_vidx hs ht

end Sys2Proof.Claims
end
